-- ==== Sys2Proof/Word.lean ====
section
/-! DEFINITION. The words the GB-4's lines carry: bytes, the 16-bit and 32-bit quantities of its frames (R176), and the
twelve-kind event set (R168). Lengths, forces, times and margins are whole numbers (00_scope, Units and number ranges) and
are held as `Int` or `Nat`. -/

namespace Sys2Proof

/-- One byte of the Link or of the Leg Drive Bus. -/
abbrev Byte := BitVec 8

/-- A 16-bit field or check value as it crosses a line. -/
abbrev Half := BitVec 16

/-- A 32-bit count: the time base (R1) and the statistic counters (R174). -/
abbrev Word := BitVec 32

/-- A set of the twelve event kinds, bit n for event index n (R168, R176). -/
abbrev EventSet := BitVec 12

end Sys2Proof
end

