-- ==== Sys2Proof/Syntax.lean ====
section
/-! DEFINITION. The commands: one constructor per row of spec/opcode_table.json. The rows have no fields; an operand is
what the event brings from outside the part. A request has none: the frame it takes stands in the receive buffer (R161). -/

namespace Sys2Proof

/-- The four legs, feet and drives, in index order 0 to 3 (00_scope, Legs). -/
inductive Leg where
  | fl | fr | rl | rr
deriving DecidableEq, Repr

/-- The steps of the part, named as the table names them. -/
inductive Instr where
  /-- POWER_ON_RESET (R154): the levels of the pins LINK_RATE 0, LINK_RATE 1 and IMU_FLIP at that moment. -/
  | powerOnReset (rate0 rate1 flip : Bool)
  /-- TIME_BASE_TICK (R1). -/
  | timeBaseTick
  /-- LINK_BYTE (R158): the byte, and whether it came with a stop-bit error. -/
  | linkByte (byte : Byte) (stopError : Bool)
  /-- GAP_TIMER_EXPIRY (R159). -/
  | gapTimerExpiry
  /-- REQUEST_UNKNOWN_KIND (R162). -/
  | requestUnknownKind
  /-- PING (R166). -/
  | ping
  /-- STATUS (R167). -/
  | status
  /-- SET_GEOMETRY (R7). -/
  | setGeometry
  /-- SET_SURFACE (R12). -/
  | setSurface
  /-- SET_BALANCE (R68). -/
  | setBalance
  /-- SET_GAIT (R124). -/
  | setGait
  /-- SET_SUPERVISION (R151). -/
  | setSupervision
  /-- STAND (R143). -/
  | stand
  /-- SIT (R145). -/
  | sit
  /-- CLEAR_HOLD (R149). -/
  | clearHold
  /-- RESET_FULL: RESET with scope FULL (R155). -/
  | resetFull
  /-- RESET_MOTION: RESET with scope MOTION (R156). -/
  | resetMotion
  /-- PLAN_APPEND (R74). -/
  | planAppend
  /-- PLAN_START (R83). -/
  | planStart
  /-- PLAN_SUSPEND (R88). -/
  | planSuspend
  /-- PLAN_RESUME (R89). -/
  | planResume
  /-- PLAN_CANCEL (R90). -/
  | planCancel
  /-- PLAN_FLUSH (R91). -/
  | planFlush
  /-- PLAN_REPORT (R81). -/
  | planReport
  /-- EVENT_MASK (R170). -/
  | eventMask
  /-- EVENT_ACK (R171). -/
  | eventAck
  /-- FAULT_READ (R173). -/
  | faultRead
  /-- FAULT_CLEAR (R173). -/
  | faultClear
  /-- COUNTERS_READ (R175). -/
  | countersRead
  /-- COUNTERS_READ_CLEAR (R175). -/
  | countersReadClear
  /-- FRAME_SEND_START (R164). -/
  | frameSendStart
  /-- FRAME_SEND_END (R164). -/
  | frameSendEnd
  /-- SILENCE_EXPIRY (R153). -/
  | silenceExpiry
  /-- LOAD_SAMPLE (R16, R18): a rising edge of the foot's load line, `period` microseconds after the one before. -/
  | loadSample (foot : Leg) (period : Nat)
  /-- LOAD_STALE (R17). -/
  | loadStale (foot : Leg)
  /-- SLIP_PULSE (R26). -/
  | slipPulse (foot : Leg)
  /-- ATTITUDE_READ_START (R34). -/
  | attitudeReadStart
  /-- ATTITUDE_READ_DONE (R35): the three values and the validity flag the sensor returned. -/
  | attitudeReadDone (fx fy fz : Half) (valid : Bool)
  /-- ATTITUDE_READ_TIMEOUT (R34). -/
  | attitudeReadTimeout
  /-- ATTITUDE_STALE_EXPIRY (R38). -/
  | attitudeStaleExpiry
  /-- ATTITUDE_LOST (R41). -/
  | attitudeLost
  /-- EVALUATION_COMPLETE (R50). -/
  | evaluationComplete
  /-- BRACE_TAKEN (R92). -/
  | braceTaken
  /-- PRESHIFT_TIMEOUT (R117). -/
  | preshiftTimeout
  /-- SHIFT_TIMEOUT (R120). -/
  | shiftTimeout
  /-- PHASE_TIMER_EXPIRY (R101). -/
  | phaseTimerExpiry (leg : Leg)
  /-- DRIVE_TRANSACTION_SEND (R131). -/
  | driveTransactionSend
  /-- DRIVE_REQUEST_SENT (R126). -/
  | driveRequestSent
  /-- DRIVE_REPLY (R127): bytes received from the Leg Drive Bus; a whole reply is twelve (R180). -/
  | driveReply (bytes : List Byte)
  /-- DRIVE_REPLY_TIMEOUT (R133). -/
  | driveReplyTimeout
  /-- GUARD_END (R131). -/
  | guardEnd
  /-- POLL_TIMER_EXPIRY (R130). -/
  | pollTimerExpiry (leg : Leg)
  /-- RISE_SETTLE_TIMEOUT (R144). -/
  | riseSettleTimeout
  /-- SUPPORT_LOST (R150). -/
  | supportLost
  /-- LOAD_FALLING_EDGE (R16): a falling edge of the foot's load line, `high` microseconds after the rising edge. -/
  | loadFallingEdge (foot : Leg) (high : Nat)
deriving DecidableEq, Repr

end Sys2Proof
end

