-- ==== Sys2Proof/Decode.lean ====
section
/-! DEFINITION. The table gives no row any bits: a command is an event of the part, not a word. So no word spells one. (The
frames of the Link and of the Leg Drive Bus are decoded in Machine/Bytes.lean and Machine/Operands.lean.) -/

namespace Sys2Proof

/-- The command that a word spells by the table's bits: none, for the table gives bits to no row. -/
def decodeTableWord (_nbits _w : Nat) : Option Instr := none

end Sys2Proof
end

