-- ==== Sys2Proof/Config.lean ====
section
/-! DEFINITION. The numbers the manual fixes for every GB-4. The manual leaves no result value open, so there is no free
value here. -/

namespace Sys2Proof.Config

/-- The stale timer of a foot, in milliseconds (R17). -/
def loadStaleMs : Nat := 3
/-- The read timeout of the Attitude Port, in milliseconds (R34). -/
def readTimeoutMs : Nat := 1
/-- The gap timer of the Link receiver, in milliseconds (R158). -/
def gapMs : Nat := 2
/-- The poll timer of a drive, in milliseconds (R130). -/
def pollMs : Nat := 5
/-- The reply timer of a drive transaction, in microseconds (R126). -/
def replyUs : Nat := 400
/-- The guard of the Leg Drive Bus, in microseconds (R131). -/
def guardUs : Nat := 400
/-- The bounds of a valid load period, in microseconds (R18). -/
def periodMinUs : Nat := 800
/-- The bounds of a valid load period, in microseconds (R18). -/
def periodMaxUs : Nat := 1250
/-- The bounds of a valid duty, in permille (R18). -/
def dutyMin : Nat := 50
/-- The bounds of a valid duty, in permille (R18). -/
def dutyMax : Nat := 950
/-- Good frames the receive buffer holds (R160). -/
def bufferSize : Nat := 4
/-- Replies the transmit queue holds (R164). -/
def replyRoom : Nat := 4
/-- The largest LEN of a Link frame (R157). -/
def maxLen : Nat := 96
/-- Records the plan list and the issue window hold together (R72). -/
def planRoom : Nat := 32
/-- Entries the completion log holds (R80). -/
def logRoom : Nat := 16
/-- Entries PLAN_REPORT returns at most (R81). -/
def reportMax : Nat := 4
/-- The bytes of a drive reply (R180). -/
def replyBytes : Nat := 12
/-- The least edge length that is measured, in millimetres (R55, R56). -/
def edgeMin : Nat := 20
/-- Legs that may be airborne at once (R113). -/
def airborneMax : Nat := 2
/-- The least length of a pre-shift, in millimetres (R115). -/
def preshiftMin : Nat := 2
/-- The least derated speed, in millimetres per second (R121). -/
def speedMin : Nat := 20
/-- The consecutive timeouts that make a drive LOST (R137). -/
def lostCount : Nat := 3

end Sys2Proof.Config
end

