-- ==== Sys2Proof/Machine/State.lean ====
section
/-! DEFINITION. Everything the spec gives the GB-4 to hold, block by block, as plain data, and its value after power-on. -/

namespace Sys2Proof.Machine

/-! ## Enumerations (values in the order of R176) -/

/-- The device mode (R142). -/
inductive Mode where
  | parked | rising | standing | settling | safeHold
deriving DecidableEq, Repr

/-- The plan state (R82). -/
inductive PlanState where
  | idle | active | draining | suspended | braced
deriving DecidableEq, Repr

/-- The kind of a plan record (R70). -/
inductive RecordKind where
  | step | pair | shift
deriving DecidableEq, Repr

/-- How a record ended (R78). -/
inductive Status where
  | ok | clamped | missed | snagged | unstable | braced | stalled | cancelled
deriving DecidableEq, Repr

/-- The outcome a Leg Sequencer reports (R78). -/
inductive Outcome where
  | ok | clamped | missed | snagged
deriving DecidableEq, Repr

/-- The five surface classes (R11). -/
inductive SurfaceClass where
  | grating | chequer | tread | dusted | unsurveyed
deriving DecidableEq, Repr

/-- The phase of a leg (R96). -/
inductive Phase where
  | folded | posture | stance | lift | swing | reach
deriving DecidableEq, Repr

/-- What an airborne leg is doing (R96). -/
inductive Motion where
  | step | retreat | recovery | descent | held
deriving DecidableEq, Repr

/-- The contact state of a foot (section 2.2). -/
inductive Contact where
  | air | touch | loaded | slipping | fault
deriving DecidableEq, Repr

/-- The link state of a drive (R137). -/
inductive LinkState where
  | online | suspect | lost
deriving DecidableEq, Repr

/-- The state a drive reports (R127). -/
inductive DriveState where
  | ready | moving | atLimit | hot | fault
deriving DecidableEq, Repr

/-- The kind of a fault (R147, R172). -/
inductive FaultKind where
  | driveLost | driveFault | loadSensor | attitudeLost | supportLost | riseFailed | settleFailed
deriving DecidableEq, Repr

/-- The silence policy (R151). -/
inductive Policy where
  | suspend | settle
deriving DecidableEq, Repr

/-- The twelve event kinds, in index order (R168). -/
inductive Event where
  | stepDone | planIdle | planSuspended | brace | slip | snag | missed | driveFault | sensorFault
  | linkError | modeChange | silence
deriving DecidableEq, Repr

/-- The sixteen statistic counters, in index order (R174). -/
inductive Counter where
  | stepsOk | stepsClamped | stepsMissed | snags | slips | braces | preshifts | shiftsDone
  | driveTimeouts | driveCrcErrors | framesGood | framesBadCheck | framesOverrun
  | loadSensorFaults | attitudeStale | logOverwrites
deriving DecidableEq, Repr

/-- The result codes of replies (R162). -/
inductive Result where
  | ok | unknownKind | badLength | badValue | wrongMode | wrongState | planFull | dupId | notFound | notSettled
deriving DecidableEq, Repr

/-! ## One value per leg -/

/-- Four like things, one per leg. -/
structure Quad (α : Type) where
  fl : α
  fr : α
  rl : α
  rr : α
deriving DecidableEq, Repr

/-- The value of one leg. -/
def Quad.get {α : Type} (q : Quad α) : Leg → α
  | .fl => q.fl
  | .fr => q.fr
  | .rl => q.rl
  | .rr => q.rr

/-- Replace the value of one leg. -/
def Quad.set {α : Type} (q : Quad α) (l : Leg) (a : α) : Quad α :=
  match l with
  | .fl => { q with fl := a }
  | .fr => { q with fr := a }
  | .rl => { q with rl := a }
  | .rr => { q with rr := a }

/-- The same value for every leg. -/
def Quad.const {α : Type} (a : α) : Quad α := ⟨a, a, a, a⟩

/-- Apply a function to every leg's value. -/
def Quad.map {α β : Type} (f : α → β) (q : Quad α) : Quad β := ⟨f q.fl, f q.fr, f q.rl, f q.rr⟩

/-- Whether a test holds of every leg's value. -/
def Quad.all {α : Type} (q : Quad α) (p : α → Bool) : Bool := p q.fl && p q.fr && p q.rl && p q.rr

/-- Whether a test holds of some leg's value. -/
def Quad.any {α : Type} (q : Quad α) (p : α → Bool) : Bool := p q.fl || p q.fr || p q.rl || p q.rr

/-- The legs in index order (00_scope, Legs). -/
def legsInOrder : List Leg := [.fl, .fr, .rl, .rr]

/-- The legs in polygon order (00_scope, Legs; R52). -/
def polygonOrder : List Leg := [.fl, .rl, .rr, .fr]

/-- A position or a displacement, in millimetres; a specific force, in milli-g. -/
structure Vec3 where
  x : Int
  y : Int
  z : Int
deriving DecidableEq, Repr

/-! ## Configuration records -/

/-- The geometry record (R6). -/
structure Geometry where
  hipX : Quad Int
  hipY : Quad Int
  com : Vec3
  reach : Int
  zMin : Int
  zMax : Int
  standing : Int
  park : Int
deriving DecidableEq, Repr

/-- The defaults of the geometry record (R6). -/
def Geometry.default : Geometry where
  hipX := ⟨300, 300, -300, -300⟩
  hipY := ⟨120, -120, 120, -120⟩
  com := ⟨10, 0, 20⟩
  reach := 260
  zMin := 200
  zMax := 600
  standing := 430
  park := 210

/-- One surface class record (R11). -/
structure ClassRecord where
  touch : Nat
  release : Nat
  threshold : Nat
  margin34 : Int
  margin2 : Int
  slipLimit : Nat
  lift : Int
  reachDepth : Int
deriving DecidableEq, Repr

/-- The five surface class records (R11). -/
structure Surfaces where
  grating : ClassRecord
  chequer : ClassRecord
  tread : ClassRecord
  dusted : ClassRecord
  unsurveyed : ClassRecord
deriving DecidableEq, Repr

/-- The record of a class. -/
def Surfaces.get (t : Surfaces) : SurfaceClass → ClassRecord
  | .grating => t.grating
  | .chequer => t.chequer
  | .tread => t.tread
  | .dusted => t.dusted
  | .unsurveyed => t.unsurveyed

/-- Replace the record of a class. -/
def Surfaces.set (t : Surfaces) (c : SurfaceClass) (r : ClassRecord) : Surfaces :=
  match c with
  | .grating => { t with grating := r }
  | .chequer => { t with chequer := r }
  | .tread => { t with tread := r }
  | .dusted => { t with dusted := r }
  | .unsurveyed => { t with unsurveyed := r }

/-- The defaults of the surface class records (R11). -/
def Surfaces.default : Surfaces where
  grating := ⟨40, 90, 150, 30, -60, 12, 60, 40⟩
  chequer := ⟨40, 90, 150, 30, -60, 8, 50, 30⟩
  tread := ⟨40, 90, 160, 45, -40, 6, 90, 50⟩
  dusted := ⟨40, 90, 150, 50, -30, 4, 50, 30⟩
  unsurveyed := ⟨40, 90, 180, 60, -30, 4, 80, 60⟩

/-- The balance configuration record (R67). -/
structure BalanceCfg where
  brace34 : Int
  brace2 : Int
  braceCount : Nat
  stalePenalty : Nat
  staleLimit : Nat
  lostLimit : Nat
  supportLost : Nat
deriving DecidableEq, Repr

/-- The defaults of the balance configuration (R67). -/
def BalanceCfg.default : BalanceCfg := ⟨5, -90, 2, 30, 10, 200, 100⟩

/-- The gait configuration record (R123). -/
structure GaitCfg where
  liftTimeout : Nat
  swingTimeout : Nat
  reachTimeout : Nat
  liftSpeed : Nat
  swingSpeed : Nat
  reachSpeed : Nat
  shiftSpeed : Nat
  shiftTimeout : Nat
  maxPreshift : Nat
  attempts : Nat
  window : Nat
  tolerance : Nat
  riseTimeout : Nat
deriving DecidableEq, Repr

/-- The defaults of the gait configuration (R123). -/
def GaitCfg.default : GaitCfg := ⟨400, 800, 600, 400, 600, 200, 150, 1500, 60, 2, 2, 5, 4000⟩

/-! ## Contact Monitor -/

/-- The load measurement of a foot (R16): waiting for a rising edge, or measuring, with the high time once the falling
edge has been seen. -/
inductive Measurement where
  | waiting
  | measuring (high : Option Nat)
deriving DecidableEq, Repr

/-- What the Contact Monitor holds for one foot (R33). A timer is `none` when stopped and otherwise holds the time that
remains. -/
structure Foot where
  contact : Contact
  qualify : Nat
  slip : Nat
  lastLoad : Nat
  measurement : Measurement
  stale : Option Nat
  cls : SurfaceClass
deriving DecidableEq, Repr

/-- A foot after every reset (R33). -/
def Foot.reset : Foot := ⟨.air, 0, 0, 0, .waiting, some Config.loadStaleMs, .unsurveyed⟩

/-! ## Attitude Port -/

/-- What the Attitude Port holds (R34 to R41). -/
structure Attitude where
  sample : Vec3
  stale : Bool
  staleTimer : Nat
  lostTimer : Nat
  reading : Option Nat
deriving DecidableEq, Repr

/-- The Attitude Port after a reset, with the limits of the balance configuration in force (R37). -/
def Attitude.reset (b : BalanceCfg) : Attitude := ⟨⟨0, 0, 1000⟩, true, b.staleLimit, b.lostLimit, none⟩

/-! ## Balance Engine -/

/-- The figures of the last completed evaluation (R57). -/
structure Figures where
  px : Int
  py : Int
  margin : Int
  count : Nat
  degenerate : Bool
  noSupport : Bool
  required : Int
deriving DecidableEq, Repr

/-- The held figures after a reset (R57). -/
def Figures.reset (g : Geometry) (t : Surfaces) (b : BalanceCfg) : Figures where
  px := g.com.x
  py := g.com.y
  margin := -1000
  count := 0
  degenerate := false
  noSupport := true
  required := t.unsurveyed.margin34 + b.stalePenalty

/-- A swing request of the grant queue (R111). -/
structure SwingRequest where
  id : Nat
  legs : List Leg
  noPreshift : Bool
  attempts : Nat
deriving DecidableEq, Repr

/-- The inputs an evaluation read at its start (R49). DEDUCED: the class records and the balance configuration are read
with them (log 14). -/
structure EvalInputs where
  sample : Vec3
  stale : Bool
  geo : Geometry
  surf : Surfaces
  balCfg : BalanceCfg
  support : Quad Bool
  feet : Quad Vec3
  classes : Quad SurfaceClass
  phases : Quad Phase
  requests : List SwingRequest
deriving DecidableEq, Repr

/-- A running pre-shift (R112). -/
structure Preshift where
  owner : Nat
  sx : Int
  sy : Int
  legs : List Leg
  timer : Nat
deriving DecidableEq, Repr

/-- What the Balance Engine holds (R48, R51, R57, R62, R65, R111, R112). -/
structure Balance where
  support : Quad Bool
  held : Figures
  eval : Option EvalInputs
  evalPending : Bool
  below : Nat
  braceOut : Bool
  queue : List SwingRequest
  preshift : Option Preshift
deriving DecidableEq, Repr

/-- The Balance Engine after a reset (R48, R52, R57, R62, R65, R111, R112). -/
def Balance.reset (g : Geometry) (t : Surfaces) (b : BalanceCfg) : Balance where
  support := Quad.const false
  held := Figures.reset g t b
  eval := none
  evalPending := false
  below := 0
  braceOut := false
  queue := []
  preshift := none

/-! ## Step Planner -/

/-- A plan record (R70, R71). `preshifts` is its pre-shift count (R77, R79). -/
structure PlanRecord where
  id : Nat
  kind : RecordKind
  legs : List Leg
  disp : Vec3
  cls : Option SurfaceClass
  hold : Bool
  notify : Bool
  noPreshift : Bool
  clamped : Bool
  preshifts : Nat
deriving DecidableEq, Repr

/-- The condition of a record in the issue window (R75). -/
inductive Condition where
  | waiting | granted | running
deriving DecidableEq, Repr

/-- What one leg of a record has reported: its outcome, and its final foothold where it landed (R78, R79). -/
structure LegReport where
  leg : Leg
  outcome : Outcome
  foothold : Option Vec3
deriving DecidableEq, Repr

/-- A record in the issue window (R75). -/
structure WindowRecord where
  body : PlanRecord
  cond : Condition
  reports : List LegReport
deriving DecidableEq, Repr

/-- A completion log entry (R79). -/
structure LogEntry where
  id : Nat
  kind : RecordKind
  legs : List Leg
  status : Status
  preshifts : Nat
  time : Word
  footholds : List Vec3
deriving DecidableEq, Repr

/-- What the Step Planner holds (R72, R75, R80, R82), and the shift timer of a RUNNING SHIFT (R119). -/
structure Planner where
  list : List PlanRecord
  window : List WindowRecord
  log : List LogEntry
  state : PlanState
  shiftTimer : Option Nat
deriving DecidableEq, Repr

/-- The Step Planner after every reset (R72, R75, R80, R82). -/
def Planner.reset : Planner := ⟨[], [], [], .idle, none⟩

/-! ## Leg Sequencers -/

/-- The data of a step in progress (R96, R100). DEDUCED: they stand and are cleared together, and the target class stands
with them (log 18). -/
structure StepData where
  origin : Vec3
  originClass : SurfaceClass
  target : Vec3
  liftLevel : Int
  reachDepth : Int
  targetClass : SurfaceClass
deriving DecidableEq, Repr

/-- What a Leg Sequencer holds (R96). DEDUCED from R121: `speed` is the speed of the last setpoint before derating, none
for a HOLD (log 16). DEDUCED from R122: `limitReached` says that an AT_LIMIT reply set the reached flag (log 15). -/
structure LegSeq where
  phase : Phase
  motion : Option Motion
  record : Option Nat
  step : Option StepData
  commanded : Vec3
  speed : Option Nat
  reached : Bool
  limitReached : Bool
  timer : Option Nat
  clamped : Bool
  derating : Bool
deriving DecidableEq, Repr

/-- The park pose (section 8.2). -/
def Geometry.parkPose (g : Geometry) : Vec3 := ⟨0, 0, -g.park⟩

/-- The stance pose (section 8.2). -/
def Geometry.stancePose (g : Geometry) : Vec3 := ⟨0, 0, -g.standing⟩

/-- A Leg Sequencer after a reset (R96). -/
def LegSeq.reset (g : Geometry) : LegSeq :=
  ⟨.folded, none, none, none, g.parkPose, none, false, false, none, false, false⟩

/-! ## Drive Bus Controller -/

/-- The operation of a drive transaction (R126). -/
inductive Op where
  | setpoint (target : Vec3) (speed : Nat) (hold : Bool)
  | poll
deriving DecidableEq, Repr

/-- A transaction of the queue or in flight (R128). -/
structure Txn where
  leg : Leg
  op : Op
deriving DecidableEq, Repr

/-- What the Leg Drive Bus is doing (R126, R127, R131): idle; sending the request of the transaction in flight, with its
bytes; the reply window open, with the reply timer and the bytes collected; a guard. -/
inductive BusLine where
  | idle
  | sending (txn : Txn) (frame : List Byte)
  | window (txn : Txn) (timer : Nat) (collected : List Byte)
  | guard (timer : Nat)
deriving DecidableEq, Repr

/-- The last reply of a drive (R132). -/
structure LastReply where
  state : DriveState
  reached : Bool
deriving DecidableEq, Repr

/-- What the Drive Bus Controller holds for one drive (R3, R130, R132, R137). -/
structure Drive where
  pos : Vec3
  last : Option LastReply
  timeouts : Nat
  poll : Nat
deriving DecidableEq, Repr

/-- The link state follows the consecutive-timeout count (R137). -/
def Drive.link (d : Drive) : LinkState :=
  if d.timeouts = 0 then .online else if d.timeouts < Config.lostCount then .suspect else .lost

/-- A drive after a reset (R3, R141). -/
def Drive.reset (g : Geometry) : Drive := ⟨g.parkPose, none, 0, Config.pollMs⟩

/-- What the Drive Bus Controller holds. -/
structure Bus where
  queue : List Txn
  line : BusLine
  drives : Quad Drive
deriving DecidableEq, Repr

/-- The Drive Bus Controller after a reset (R141). -/
def Bus.reset (g : Geometry) : Bus := ⟨[], .guard Config.guardUs, Quad.const (Drive.reset g)⟩

/-! ## Mode Supervisor -/

/-- What the Mode Supervisor holds (R142 to R154). -/
structure Supervisor where
  mode : Mode
  riseSettle : Option Nat
  supportLow : Bool
  supportLost : Option Nat
  silenceLimit : Nat
  policy : Policy
  latch : Bool
  pendingSettle : Bool
  silenceInRise : Bool
  linkRate : Nat
  imuFlip : Bool
deriving DecidableEq, Repr

/-- The Mode Supervisor after power-on, with the straps sampled then (R154). -/
def Supervisor.reset (linkRate : Nat) (imuFlip : Bool) : Supervisor :=
  ⟨.parked, none, true, none, 0, .suspend, false, false, false, linkRate, imuFlip⟩

/-! ## Link Port -/

/-- A good frame in the receive buffer (R157, R160). -/
structure Frame where
  kind : Byte
  tag : Byte
  payload : List Byte
deriving DecidableEq, Repr

/-- A frame waiting in the transmit queue (R164): a reply, its content fixed, marked if it answers RESET FULL (R155), or
a notice. -/
inductive TxItem where
  | reply (frame : Frame) (resetFull : Bool)
  | notice
deriving DecidableEq, Repr

/-- The frame being sent (R164). -/
structure Sending where
  bytes : List Byte
  resetFull : Bool
deriving DecidableEq, Repr

/-- What the Link Port holds (R152, R158 to R165). `held` is empty while the receiver is hunting. -/
structure LinkPort where
  held : List Byte
  gap : Option Nat
  buffer : List Frame
  resetTaken : Bool
  tx : List TxItem
  sending : Option Sending
  silence : Option Nat
deriving DecidableEq, Repr

/-- The Link Port after power-on (R158, R160, R164, R152). -/
def LinkPort.reset : LinkPort := ⟨[], none, [], false, [], none, none⟩

/-! ## Event Unit -/

/-- The fault record (R172). -/
structure FaultRecord where
  kind : FaultKind
  leg : Option Leg
  mode : Mode
  oldest : Option Nat
  time : Word
deriving DecidableEq, Repr

/-- The sixteen counters (R174). -/
structure Counters where
  stepsOk : Word
  stepsClamped : Word
  stepsMissed : Word
  snags : Word
  slips : Word
  braces : Word
  preshifts : Word
  shiftsDone : Word
  driveTimeouts : Word
  driveCrcErrors : Word
  framesGood : Word
  framesBadCheck : Word
  framesOverrun : Word
  loadSensorFaults : Word
  attitudeStale : Word
  logOverwrites : Word
deriving DecidableEq, Repr

/-- Every counter 0 (R174). -/
def Counters.zero : Counters := ⟨0, 0, 0, 0, 0, 0, 0, 0, 0, 0, 0, 0, 0, 0, 0, 0⟩

/-- What the Event Unit holds (R1, R168, R172, R174). -/
structure EventUnit where
  time : Word
  pending : EventSet
  mask : EventSet
  fault : Option FaultRecord
  overflow : Bool
  counters : Counters
deriving DecidableEq, Repr

/-- The Event Unit after power-on (R1, R168, R172, R174). -/
def EventUnit.reset : EventUnit := ⟨0, 0, BitVec.allOnes 12, none, false, Counters.zero⟩

/-! ## The part -/

/-- The whole state: the configuration records, the blocks, and the queue of commands that wait. -/
structure State where
  geo : Geometry
  surf : Surfaces
  balCfg : BalanceCfg
  gait : GaitCfg
  feet : Quad Foot
  att : Attitude
  bal : Balance
  plan : Planner
  legs : Quad LegSeq
  bus : Bus
  sup : Supervisor
  link : LinkPort
  ev : EventUnit
  pending : List Instr
deriving DecidableEq, Repr

/-- Why the part stops: never. No rule of the spec stops it, and SAFE_HOLD is a mode (R147); log 30. -/
inductive Fault where
deriving DecidableEq, Repr

/-- Why a command has no meaning. -/
inductive Refusal where
  /-- Raised by an arm of `exec` whose command has no meaning yet; safe, for it proves nothing. No arm raises it. -/
  | notModelled (mnemonic : String)
deriving DecidableEq, Repr

/-- The part right after power-on reset. DESIGN CHOICE: the strap pins read LINK_RATE 0 and IMU_FLIP low (log 10). -/
def State.reset : State where
  geo := Geometry.default
  surf := Surfaces.default
  balCfg := BalanceCfg.default
  gait := GaitCfg.default
  feet := Quad.const Foot.reset
  att := Attitude.reset BalanceCfg.default
  bal := Balance.reset Geometry.default Surfaces.default BalanceCfg.default
  plan := Planner.reset
  legs := Quad.const (LegSeq.reset Geometry.default)
  bus := Bus.reset Geometry.default
  sup := Supervisor.reset 0 false
  link := LinkPort.reset
  ev := EventUnit.reset
  pending := []

/-! ## Replacing one block -/

/-- Replace the geometry record. -/
def State.setGeo (s : State) (g : Geometry) : State := { s with geo := g }
/-- Replace the surface class records. -/
def State.setSurf (s : State) (t : Surfaces) : State := { s with surf := t }
/-- Replace the balance configuration. -/
def State.setBalCfg (s : State) (b : BalanceCfg) : State := { s with balCfg := b }
/-- Replace the gait configuration. -/
def State.setGait (s : State) (g : GaitCfg) : State := { s with gait := g }
/-- Replace what the Contact Monitor holds. -/
def State.setFeet (s : State) (f : Quad Foot) : State := { s with feet := f }
/-- Replace what the Attitude Port holds. -/
def State.setAtt (s : State) (a : Attitude) : State := { s with att := a }
/-- Replace what the Balance Engine holds. -/
def State.setBal (s : State) (b : Balance) : State := { s with bal := b }
/-- Replace what the Step Planner holds. -/
def State.setPlan (s : State) (p : Planner) : State := { s with plan := p }
/-- Replace what the Leg Sequencers hold. -/
def State.setLegs (s : State) (l : Quad LegSeq) : State := { s with legs := l }
/-- Replace what the Drive Bus Controller holds. -/
def State.setBus (s : State) (b : Bus) : State := { s with bus := b }
/-- Replace what the Mode Supervisor holds. -/
def State.setSup (s : State) (m : Supervisor) : State := { s with sup := m }
/-- Replace what the Link Port holds. -/
def State.setLink (s : State) (l : LinkPort) : State := { s with link := l }
/-- Replace what the Event Unit holds. -/
def State.setEv (s : State) (e : EventUnit) : State := { s with ev := e }
/-- Replace the command queue. -/
def State.setPending (s : State) (q : List Instr) : State := { s with pending := q }

end Sys2Proof.Machine
end

