-- ==== Sys2Proof/Machine/Arith.lean ====
section
/-! DEFINITION. The whole-number arithmetic of the manual: its rounding words, its clamps and its integer square root
(00_scope, Rounding words). -/

namespace Sys2Proof.Machine

/-- Bring a value into a range. -/
def clampInt (lo hi v : Int) : Int := if v < lo then lo else if hi < v then hi else v

/-- The integer square root, two bits of the argument at a time; `fuel` bounds the depth. -/
def isqrtFuel : Nat → Nat → Nat
  | 0, _ => 0
  | fuel + 1, n =>
    if n = 0 then 0
    else
      let r := 2 * isqrtFuel fuel (n / 4)
      if (r + 1) * (r + 1) ≤ n then r + 1 else r

/-- The integer square root: the floor of the true square root (00_scope, Rounding words). -/
def isqrt (n : Nat) : Nat := isqrtFuel n n

/-- Division truncated toward zero (00_scope, Rounding words). -/
def truncDiv (a b : Int) : Int := a.tdiv b

/-- Division floored (00_scope, Rounding words). -/
def floorDiv (a b : Int) : Int := a.fdiv b

/-- Division by a positive number, rounded to nearest with halves away from zero (00_scope, Rounding words). -/
def roundDiv (a b : Int) : Int :=
  if 0 ≤ a then (2 * a + b) / (2 * b) else -((2 * (-a) + b) / (2 * b))

/-- The integer square root of x² + y² (R9, R55, R116). -/
def lengthXY (x y : Int) : Int := (isqrt (x * x + y * y).toNat : Int)

/-- The least of the values of a list, if it has any. -/
def leastOf : List Int → Option Int
  | [] => none
  | v :: rest =>
    match leastOf rest with
    | none => some v
    | some w => some (min v w)

end Sys2Proof.Machine
end

