-- ==== Sys2Proof/Machine/Bytes.lean ====
section
/-! DEFINITION. Bytes on the two serial lines: byte order and sign (R2, R176), the CRC-16 (R126, R157), the Link frame
(R157), the drive request and reply frames (R180). -/

namespace Sys2Proof.Machine

/-! ## Reading and writing fields -/

/-- The unsigned byte at an offset. -/
def u8At (p : List Byte) (i : Nat) : Nat := (p.getD i 0).toNat

/-- The unsigned 16-bit field at an offset, least significant byte first (R2). -/
def u16At (p : List Byte) (i : Nat) : Nat := u8At p i + 256 * u8At p (i + 1)

/-- The signed 16-bit field at an offset (R2). -/
def i16At (p : List Byte) (i : Nat) : Int := (BitVec.ofNat 16 (u16At p i)).toInt

/-- The unsigned 32-bit field at an offset (R2). -/
def u32At (p : List Byte) (i : Nat) : Nat := u16At p i + 65536 * u16At p (i + 2)

/-- Three signed 16-bit fields from an offset on (R178, R180). -/
def vecAt (p : List Byte) (i : Nat) : Vec3 := ⟨i16At p i, i16At p (i + 2), i16At p (i + 4)⟩

/-- A one-byte field. -/
def put8 (n : Nat) : List Byte := [BitVec.ofNat 8 n]

/-- A two-byte field, least significant byte first (R2). -/
def put16 (n : Nat) : List Byte := [BitVec.ofNat 8 n, BitVec.ofNat 8 (n / 256)]

/-- A two-byte check, high byte first (R2). -/
def putCheck (c : Half) : List Byte := [BitVec.ofNat 8 (c.toNat / 256), BitVec.ofNat 8 c.toNat]

/-- A signed two-byte field (R2). -/
def putI16 (v : Int) : List Byte := put16 (BitVec.ofInt 16 v).toNat

/-- A four-byte field, least significant byte first (R2). -/
def put32 (w : Word) : List Byte := put16 (w.toNat % 65536) ++ put16 (w.toNat / 65536)

/-- Three signed two-byte fields (R178 to R180). -/
def putVec (v : Vec3) : List Byte := putI16 v.x ++ putI16 v.y ++ putI16 v.z

/-- A one-bit field at bit n of a byte. -/
def flagBit (n : Nat) (b : Bool) : Nat := if b then 2 ^ n else 0

/-! ## The frame check -/

/-- One bit step of the CRC-16: polynomial 0x1021, most significant bit first, no reflection (R126, R157). -/
def crcBit (c : Half) : Half := if c.msb then (c <<< 1) ^^^ 0x1021#16 else c <<< 1

/-- One byte of the CRC-16 (R157). -/
def crcByte (c : Half) (b : Byte) : Half :=
  let c0 := c ^^^ ((b.setWidth 16) <<< 8)
  crcBit (crcBit (crcBit (crcBit (crcBit (crcBit (crcBit (crcBit c0)))))))

/-- The CRC-16 of a byte string, initial value 0xFFFF (R126, R157). -/
def crc16 (bs : List Byte) : Half := bs.foldl crcByte 0xFFFF#16

/-! ## The Link frame -/

/-- SYNC (R157). -/
def syncByte : Byte := 0xA5#8

/-- The bytes of a Link frame (R157). -/
def linkFrameBytes (f : Frame) : List Byte :=
  let body := put8 f.payload.length ++ [f.kind, f.tag] ++ f.payload
  syncByte :: (body ++ putCheck (crc16 body))

/-- What the bytes held from a SYNC on amount to (R158, R159). -/
inductive Assembly where
  | incomplete
  | longLen
  | badCheck
  | good (f : Frame)
deriving DecidableEq, Repr

/-- Judge the bytes held from a SYNC on: LEN above 96, incomplete, complete with a wrong or a right CHECK (R158, R159). -/
def assemble (bs : List Byte) : Assembly :=
  match bs with
  | _ :: len :: rest =>
    if Config.maxLen < len.toNat then .longLen
    else if bs.length < len.toNat + 6 then .incomplete
    else
      if putCheck (crc16 (len :: rest.take (len.toNat + 2))) = (rest.drop (len.toNat + 2)).take 2 then
        .good ⟨rest.getD 0 0, rest.getD 1 0, (rest.drop 2).take len.toNat⟩
      else .badCheck
  | _ => .incomplete

/-! ## The Leg Drive Bus frames -/

/-- The index of a leg, which is its drive's address (00_scope, Legs). -/
def Leg.index : Leg → Nat
  | .fl => 0
  | .fr => 1
  | .rl => 2
  | .rr => 3

/-- The operation code (R180). -/
def Op.code : Op → Nat
  | .setpoint _ _ _ => 1
  | .poll => 2

/-- The fields of a request before its check: a POLL carries zeros (R126, R180). -/
def requestFields (t : Txn) : List Byte :=
  match t.op with
  | .setpoint v speed hold =>
    put8 (Leg.index t.leg) ++ put8 t.op.code ++ putVec v ++ put16 speed ++ put8 (flagBit 0 hold)
  | .poll => put8 (Leg.index t.leg) ++ put8 t.op.code ++ putVec ⟨0, 0, 0⟩ ++ put16 0 ++ put8 0

/-- The 13 bytes of a request (R126, R180). -/
def requestFrame (t : Txn) : List Byte := requestFields t ++ putCheck (crc16 (requestFields t))

/-- The drive state a byte spells; above 4 none (R127, R180). -/
def driveStateOf (n : Nat) : Option DriveState :=
  match n with
  | 0 => some .ready
  | 1 => some .moving
  | 2 => some .atLimit
  | 3 => some .hot
  | 4 => some .fault
  | _ => none

/-- How a reply of full length is judged against the transaction in flight (R127). -/
inductive ReplyJudgement where
  | bad
  | stray
  | good (pos : Vec3) (state : DriveState) (reached : Bool)
deriving DecidableEq, Repr

/-- Judge the twelve bytes of a reply (R127, R180). A drive state above 4 is judged as a check mismatch. -/
def judgeReply (t : Txn) (bs : List Byte) : ReplyJudgement :=
  if putCheck (crc16 (bs.take 10)) = (bs.drop 10).take 2 then
    match driveStateOf (u8At bs 8) with
    | none => .bad
    | some st =>
      if u8At bs 0 = Leg.index t.leg ∧ u8At bs 1 = t.op.code then
        .good (vecAt bs 2) st (decide (u8At bs 9 % 2 = 1))
      else .stray
  else .bad

end Sys2Proof.Machine
end

