-- ==== Sys2Proof/Machine/Flags.lean ====
section
/-! DEFINITION. The Event Unit's operations: raising events and requesting notices (R164, R169), the counters (R174), the
fault record (R172). -/

namespace Sys2Proof.Machine

/-- The index of an event kind (R168). -/
def Event.index : Event → Nat
  | .stepDone => 0
  | .planIdle => 1
  | .planSuspended => 2
  | .brace => 3
  | .slip => 4
  | .snag => 5
  | .missed => 6
  | .driveFault => 7
  | .sensorFault => 8
  | .linkError => 9
  | .modeChange => 10
  | .silence => 11

/-- Whether a set names a kind (R176). -/
def hasEvent (es : EventSet) (e : Event) : Bool := es.getLsbD e.index

/-- The set of one kind (R176). -/
def onlyEvent (e : Event) : EventSet := BitVec.twoPow 12 e.index

/-- The kinds that are pending and unmasked (R164). -/
def pendingUnmasked (s : State) : EventSet := s.ev.pending &&& ~~~s.ev.mask

/-- Whether a waiting frame is a notice. -/
def TxItem.isNotice : TxItem → Bool
  | .notice => true
  | .reply _ _ => false

/-- Request a notice: it joins the tail of the transmit queue, or merges into the one that waits (R164, R169). -/
def requestNotice (s : State) : State :=
  if s.link.tx.any TxItem.isNotice then s else s.setLink { s.link with tx := s.link.tx ++ [.notice] }

/-- Raise an event (R169). -/
def raise (e : Event) (s : State) : State :=
  if hasEvent s.ev.pending e then s
  else
    let s1 := s.setEv { s.ev with pending := s.ev.pending ||| onlyEvent e }
    if hasEvent s.ev.mask e then s1 else requestNotice s1

/-- Increment one counter, which wraps (R174). -/
def Counters.bump (k : Counter) (c : Counters) : Counters :=
  match k with
  | .stepsOk => { c with stepsOk := c.stepsOk + 1 }
  | .stepsClamped => { c with stepsClamped := c.stepsClamped + 1 }
  | .stepsMissed => { c with stepsMissed := c.stepsMissed + 1 }
  | .snags => { c with snags := c.snags + 1 }
  | .slips => { c with slips := c.slips + 1 }
  | .braces => { c with braces := c.braces + 1 }
  | .preshifts => { c with preshifts := c.preshifts + 1 }
  | .shiftsDone => { c with shiftsDone := c.shiftsDone + 1 }
  | .driveTimeouts => { c with driveTimeouts := c.driveTimeouts + 1 }
  | .driveCrcErrors => { c with driveCrcErrors := c.driveCrcErrors + 1 }
  | .framesGood => { c with framesGood := c.framesGood + 1 }
  | .framesBadCheck => { c with framesBadCheck := c.framesBadCheck + 1 }
  | .framesOverrun => { c with framesOverrun := c.framesOverrun + 1 }
  | .loadSensorFaults => { c with loadSensorFaults := c.loadSensorFaults + 1 }
  | .attitudeStale => { c with attitudeStale := c.attitudeStale + 1 }
  | .logOverwrites => { c with logOverwrites := c.logOverwrites + 1 }

/-- Increment one statistic counter of the part (R174). -/
def bump (k : Counter) (s : State) : State := s.setEv { s.ev with counters := s.ev.counters.bump k }

/-- The id of the oldest record in the issue window (R147, R172). -/
def oldestInWindow (s : State) : Option Nat := s.plan.window.head?.map fun w => w.body.id

/-- Offer a fault to the fault record: captured into an empty record, else the overflow flag is set (R172). -/
def offerFault (kind : FaultKind) (leg : Option Leg) (s : State) : State :=
  match s.ev.fault with
  | none => s.setEv { s.ev with fault := some ⟨kind, leg, s.sup.mode, oldestInWindow s, s.ev.time⟩ }
  | some _ => s.setEv { s.ev with overflow := true }

end Sys2Proof.Machine
end

