-- ==== Sys2Proof/Machine/Frames.lean ====
section
/-! DEFINITION. The two frames of reference and the workspace clamp (R3 to R5, R9, R10). -/

namespace Sys2Proof.Machine

/-- The held hip-frame position of a leg (R3). -/
def heldPos (s : State) (l : Leg) : Vec3 := (s.bus.drives.get l).pos

/-- A hip-frame position in the body frame: the hip offsets are added to x and y. -/
def toBody (g : Geometry) (l : Leg) (v : Vec3) : Vec3 := ⟨v.x + g.hipX.get l, v.y + g.hipY.get l, v.z⟩

/-- A body-frame position in the hip frame: the hip offsets are subtracted from x and y (R5). -/
def toHip (g : Geometry) (l : Leg) (v : Vec3) : Vec3 := ⟨v.x - g.hipX.get l, v.y - g.hipY.get l, v.z⟩

/-- The body-frame measured position of a leg, clamped (R4). -/
def bodyPos (s : State) (l : Leg) : Vec3 :=
  let v := toBody s.geo l (heldPos s l)
  ⟨clampInt (-2000) 2000 v.x, clampInt (-2000) 2000 v.y, clampInt (-1000) 500 v.z⟩

/-- The workspace clamp on a hip-frame target: the in-plane part (R9) and the depth part (R10). -/
def workspaceClamp (g : Geometry) (v : Vec3) : Vec3 :=
  let len := lengthXY v.x v.y
  let x := if len ≤ g.reach then v.x else truncDiv (v.x * g.reach) len
  let y := if len ≤ g.reach then v.y else truncDiv (v.y * g.reach) len
  let z := if -g.zMin < v.z then -g.zMin else if v.z < -g.zMax then -g.zMax else v.z
  ⟨x, y, z⟩

/-- The clamped hip-frame target of a body-frame target (R5). -/
def hipTarget (g : Geometry) (l : Leg) (body : Vec3) : Vec3 := workspaceClamp g (toHip g l body)

/-- Whether a body-frame target is a clamped target (R10). -/
def isClamped (g : Geometry) (l : Leg) (body : Vec3) : Bool := decide (hipTarget g l body ≠ toHip g l body)

/-- A position moved by a displacement. -/
def Vec3.add (a b : Vec3) : Vec3 := ⟨a.x + b.x, a.y + b.y, a.z + b.z⟩

/-- The opposite displacement. -/
def Vec3.neg (a : Vec3) : Vec3 := ⟨-a.x, -a.y, -a.z⟩

/-- Whether two positions agree in every coordinate within a tolerance (R97). -/
def within (tol : Nat) (a b : Vec3) : Bool :=
  decide ((a.x - b.x).natAbs ≤ tol ∧ (a.y - b.y).natAbs ≤ tol ∧ (a.z - b.z).natAbs ≤ tol)

end Sys2Proof.Machine
end

