-- ==== Sys2Proof/Machine/Margin.lean ====
section
/-! DEFINITION. The pressure point (R44 to R46) and the stability margin (R52 to R60), as functions of what an evaluation
read. -/

namespace Sys2Proof.Machine

/-- The members of a set of feet, in polygon order (R52). -/
def membersOf (q : Quad Bool) : List Leg := polygonOrder.filter fun l => q.get l

/-- The sum of a list. -/
def sumInts (vs : List Int) : Int := vs.foldr (· + ·) 0

/-- The height h (R44). -/
def height (e : EvalInputs) : Int :=
  let feet := membersOf e.support
  let raw :=
    if 2 ≤ feet.length then
      e.geo.com.z - truncDiv (sumInts (feet.map fun l => (e.feet.get l).z)) (feet.length : Int)
    else e.geo.com.z + e.geo.standing
  clampInt 50 1200 raw

/-- One component of the offset d (R45). -/
def offset (h f fz : Int) : Int := clampInt (-1000) 1000 (roundDiv (h * f) fz)

/-- The pressure point p (R46). -/
def pressurePoint (e : EvalInputs) : Int × Int :=
  let h := height e
  (clampInt (-2000) 2000 (e.geo.com.x - offset h e.sample.x e.sample.z),
   clampInt (-2000) 2000 (e.geo.com.y - offset h e.sample.y e.sample.z))

/-- A margin with the flags formed with it (R53). -/
structure Measured where
  margin : Int
  degenerate : Bool
  noSupport : Bool
deriving DecidableEq, Repr

/-- The edges of a polygon, each member to the next, closing from the last to the first (R52). -/
def edgesOf (pts : List Vec3) : List (Vec3 × Vec3) :=
  match pts with
  | [] => []
  | a :: rest => (a :: rest).zip (rest ++ [a])

/-- The doubled signed area (R54). -/
def doubledArea (pts : List Vec3) : Int :=
  sumInts ((edgesOf pts).map fun e => e.1.x * e.2.y - e.2.x * e.1.y)

/-- The cross value of an edge against the pressure point (R55). -/
def crossValue (a b : Vec3) (px py : Int) : Int := (b.x - a.x) * (py - a.y) - (b.y - a.y) * (px - a.x)

/-- The length of an edge (R55). -/
def edgeLength (a b : Vec3) : Int := lengthXY (b.x - a.x) (b.y - a.y)

/-- The edge distance, or none for an edge that is skipped (R55). -/
def edgeDistance (px py : Int) (e : Vec3 × Vec3) : Option Int :=
  if edgeLength e.1 e.2 < Config.edgeMin then none
  else some (floorDiv (crossValue e.1 e.2 px py) (edgeLength e.1 e.2))

/-- The margin of three or four feet (R54, R55). -/
def polygonMargin (pts : List Vec3) (px py : Int) : Measured :=
  if doubledArea pts ≤ 0 then ⟨-1000, true, false⟩
  else
    match leastOf ((edgesOf pts).filterMap (edgeDistance px py)) with
    | none => ⟨-1000, true, false⟩
    | some m => ⟨clampInt (-1000) 1000 m, false, false⟩

/-- The margin of two feet (R56). -/
def lineMargin (a b : Vec3) (px py : Int) : Measured :=
  if edgeLength a b < Config.edgeMin then ⟨-1000, true, false⟩
  else ⟨clampInt (-1000) 1000 (-(floorDiv ((crossValue a b px py).natAbs : Int) (edgeLength a b))), false, false⟩

/-- The margin of the feet standing at the given corners (R53). -/
def marginOf (pts : List Vec3) (px py : Int) : Measured :=
  match pts with
  | [] => ⟨-1000, false, true⟩
  | [_] => ⟨-1000, false, true⟩
  | [a, b] => lineMargin a b px py
  | a :: b :: c :: rest => polygonMargin (a :: b :: c :: rest) px py

/-- The largest of a list of margins; the list is never empty where it is used. -/
def largestOf : List Int → Int
  | [] => 0
  | [v] => v
  | v :: w :: rest => max v (largestOf (w :: rest))

/-- The required margin of a set of feet (R58), with the stale penalty (R59). -/
def requiredMargin (e : EvalInputs) (members : List Leg) : Int :=
  let base :=
    if 3 ≤ members.length then largestOf (members.map fun l => (e.surf.get (e.classes.get l)).margin34)
    else if members.length = 2 then largestOf (members.map fun l => (e.surf.get (e.classes.get l)).margin2)
    else largestOf (legsInOrder.map fun l => (e.surf.get (e.classes.get l)).margin34)
  if e.stale then base + e.balCfg.stalePenalty else base

/-- The corners of a set of feet, in its order (R52). -/
def cornersOf (e : EvalInputs) (members : List Leg) : List Vec3 := members.map fun l => e.feet.get l

/-- The figures an evaluation holds at its completion (R49, R57). -/
def figuresOf (e : EvalInputs) : Figures :=
  let members := membersOf e.support
  let p := pressurePoint e
  let m := marginOf (cornersOf e members) p.1 p.2
  { px := p.1, py := p.2, margin := m.margin, count := members.length, degenerate := m.degenerate,
    noSupport := m.noSupport, required := requiredMargin e members }

/-- Whether a phase is airborne (R96). -/
def Phase.airborne : Phase → Bool
  | .lift => true
  | .swing => true
  | .reach => true
  | .folded => false
  | .posture => false
  | .stance => false

/-- The predicted set of a request (R60): the support set less its legs, the legs read airborne and the legs granted
earlier at the same evaluation. -/
def predictedSet (e : EvalInputs) (granted named : List Leg) : List Leg :=
  (membersOf e.support).filter fun l =>
    !(named.contains l) && !(e.phases.get l).airborne && !(granted.contains l)

/-- Whether a request passes on margin (R60). -/
def passesOnMargin (e : EvalInputs) (granted named : List Leg) : Bool :=
  let set := predictedSet e granted named
  let p := pressurePoint e
  decide (requiredMargin e set ≤ (marginOf (cornersOf e set) p.1 p.2).margin)

/-- The airborne count of a request: legs read airborne, legs granted earlier at this evaluation, legs named (R113). -/
def airborneCount (e : EvalInputs) (granted named : List Leg) : Nat :=
  (legsInOrder.filter fun l => (e.phases.get l).airborne).length + granted.length + named.length

/-- The offset from the pressure point to the aim point, before its limit (R116). -/
def aimOffset (e : EvalInputs) (set : List Leg) : Int × Int :=
  let p := pressurePoint e
  let n : Int := (set.length : Int)
  (roundDiv (sumInts (set.map fun l => (e.feet.get l).x)) n - p.1,
   roundDiv (sumInts (set.map fun l => (e.feet.get l).y)) n - p.2)

/-- The offset of a pre-shift after its limit (R116). -/
def limitOffset (maxShift : Nat) (o : Int × Int) : Int × Int :=
  let len := lengthXY o.1 o.2
  if len ≤ (maxShift : Int) then o
  else (truncDiv (o.1 * (maxShift : Int)) len, truncDiv (o.2 * (maxShift : Int)) len)

end Sys2Proof.Machine
end

