-- ==== Sys2Proof/Machine/Operands.lean ====
section
/-! DEFINITION. The operand forms of the requests: how a payload's fields are read (R2, R176 to R178) and the value checks
each must pass. A decoder answers `none` exactly where the request is refused BAD_VALUE for its values. -/

namespace Sys2Proof.Machine

/-- Whether a value lies in a range. -/
def inRange (lo hi v : Int) : Bool := decide (lo ≤ v ∧ v ≤ hi)

/-- Whether a count lies in a range. -/
def inRangeN (lo hi v : Nat) : Bool := decide (lo ≤ v ∧ v ≤ hi)

/-- The surface class a byte spells (R176). -/
def classOf (n : Nat) : Option SurfaceClass :=
  match n with
  | 0 => some .grating
  | 1 => some .chequer
  | 2 => some .tread
  | 3 => some .dusted
  | 4 => some .unsurveyed
  | _ => none

/-- A 9-bit two's complement part of the packed centre of mass (R176). -/
def packedPart (w shift : Nat) : Int := (BitVec.ofNat 9 (w / 2 ^ shift)).toInt

/-- Whether every field of a geometry record is in its range (R6, R7). -/
def geometryOk (g : Geometry) : Bool :=
  g.hipX.all (inRange (-600) 600) && g.hipY.all (inRange (-400) 400)
    && inRange (-200) 200 g.com.x && inRange (-200) 200 g.com.y && inRange (-200) 200 g.com.z
    && inRange 100 400 g.reach && inRange 150 400 g.zMin && inRange 300 700 g.zMax
    && decide (g.zMin < g.zMax)
    && inRange g.zMin g.zMax g.standing && inRange g.zMin (g.standing - 50) g.park

/-- The geometry record of a SET_GEOMETRY payload (R7, R176, R177). -/
def decodeGeometry (p : List Byte) : Option Geometry :=
  let w := u32At p 16
  let g : Geometry :=
    { hipX := ⟨i16At p 0, i16At p 2, i16At p 4, i16At p 6⟩
      hipY := ⟨i16At p 8, i16At p 10, i16At p 12, i16At p 14⟩
      com := ⟨packedPart w 0, packedPart w 9, packedPart w 18⟩
      reach := u16At p 20
      zMin := u16At p 22
      zMax := u16At p 24
      standing := u16At p 26
      park := u16At p 28 }
  if w < 2 ^ 27 ∧ geometryOk g then some g else none

/-- Whether every field of a surface class record is in its range (R11, R12). -/
def classRecordOk (r : ClassRecord) : Bool :=
  inRangeN 10 400 r.touch && inRangeN r.touch r.threshold r.release && inRangeN r.release 1200 r.threshold
    && inRange 0 200 r.margin34 && inRange (-200) 0 r.margin2 && inRangeN 1 60 r.slipLimit
    && inRange 20 250 r.lift && inRange 10 150 r.reachDepth

/-- The class and the record of a SET_SURFACE payload (R12, R177). -/
def decodeSurface (p : List Byte) : Option (SurfaceClass × ClassRecord) :=
  let r : ClassRecord :=
    { touch := u16At p 1, release := u16At p 3, threshold := u16At p 5, margin34 := i16At p 7, margin2 := i16At p 9,
      slipLimit := u16At p 11, lift := u16At p 13, reachDepth := u16At p 15 }
  match classOf (u8At p 0) with
  | none => none
  | some c => if classRecordOk r then some (c, r) else none

/-- Whether every field of a balance configuration is in its range (R67, R68). -/
def balanceCfgOk (b : BalanceCfg) : Bool :=
  inRange (-50) 100 b.brace34 && inRange (-300) 0 b.brace2 && inRangeN 1 5 b.braceCount
    && inRangeN 0 100 b.stalePenalty && inRangeN 5 50 b.staleLimit && inRangeN 50 1000 b.lostLimit
    && inRangeN 20 500 b.supportLost

/-- The record of a SET_BALANCE payload (R68, R177). -/
def decodeBalanceCfg (p : List Byte) : Option BalanceCfg :=
  let b : BalanceCfg :=
    { brace34 := i16At p 0, brace2 := i16At p 2, braceCount := u16At p 4, stalePenalty := u16At p 6,
      staleLimit := u16At p 8, lostLimit := u16At p 10, supportLost := u16At p 12 }
  if balanceCfgOk b then some b else none

/-- Whether every field of a gait configuration is in its range (R123, R124). -/
def gaitCfgOk (g : GaitCfg) : Bool :=
  inRangeN 100 2000 g.liftTimeout && inRangeN 100 3000 g.swingTimeout && inRangeN 100 3000 g.reachTimeout
    && inRangeN 50 1500 g.liftSpeed && inRangeN 50 1500 g.swingSpeed && inRangeN 50 1500 g.reachSpeed
    && inRangeN 20 500 g.shiftSpeed && inRangeN 200 5000 g.shiftTimeout && inRangeN 10 120 g.maxPreshift
    && inRangeN 0 3 g.attempts && inRangeN 1 2 g.window && inRangeN 2 20 g.tolerance
    && inRangeN 1000 10000 g.riseTimeout

/-- The record of a SET_GAIT payload: thirteen u16 in the row order of R123 (R124, R177). -/
def decodeGaitCfg (p : List Byte) : Option GaitCfg :=
  let g : GaitCfg :=
    { liftTimeout := u16At p 0, swingTimeout := u16At p 2, reachTimeout := u16At p 4, liftSpeed := u16At p 6,
      swingSpeed := u16At p 8, reachSpeed := u16At p 10, shiftSpeed := u16At p 12, shiftTimeout := u16At p 14,
      maxPreshift := u16At p 16, attempts := u16At p 18, window := u16At p 20, tolerance := u16At p 22,
      riseTimeout := u16At p 24 }
  if gaitCfgOk g then some g else none

/-- The silence policy a byte spells (R176). -/
def policyOf (n : Nat) : Option Policy :=
  match n with
  | 0 => some .suspend
  | 1 => some .settle
  | _ => none

/-- The limit and policy of a SET_SUPERVISION payload; the latch refuses SUSPEND (R151). -/
def decodeSupervision (latch : Bool) (p : List Byte) : Option (Nat × Policy) :=
  let limit := u16At p 0
  match policyOf (u8At p 2) with
  | none => none
  | some pol =>
    if (limit = 0 ∨ inRangeN 50 5000 limit = true) ∧ ¬(latch = true ∧ pol = .suspend) then some (limit, pol) else none

/-- The event set at the start of a payload; a reserved bit refuses it (R170, R171, R176). -/
def decodeEventSet (p : List Byte) : Option EventSet :=
  if u16At p 0 < 2 ^ 12 then some (BitVec.ofNat 12 (u16At p 0)) else none

/-! ## Plan records -/

/-- The record kind a byte spells (R176). -/
def recordKindOf (n : Nat) : Option RecordKind :=
  match n with
  | 0 => some .step
  | 1 => some .pair
  | 2 => some .shift
  | _ => none

/-- The legs a leg set names, where the kind accepts it (R70, R178). -/
def legsOf (k : RecordKind) (n : Nat) : Option (List Leg) :=
  match k, n with
  | .step, 1 => some [.fl]
  | .step, 2 => some [.fr]
  | .step, 4 => some [.rl]
  | .step, 8 => some [.rr]
  | .pair, 9 => some [.fl, .rr]
  | .pair, 6 => some [.fr, .rl]
  | .shift, 0 => some []
  | _, _ => none

/-- The target class field, where the kind accepts it: 0xFF marks it absent in a SHIFT (R70, R178). -/
def targetClassOf (k : RecordKind) (n : Nat) : Option (Option SurfaceClass) :=
  match k with
  | .shift => if n = 255 then some none else none
  | .step => (classOf n).map some
  | .pair => (classOf n).map some

/-- The displacement clamped to the limits of its kind (R71). -/
def clampDisp (k : RecordKind) (v : Vec3) : Vec3 :=
  match k with
  | .shift => ⟨clampInt (-150) 150 v.x, clampInt (-150) 150 v.y, clampInt (-100) 100 v.z⟩
  | .step => ⟨clampInt (-400) 400 v.x, clampInt (-400) 400 v.y, clampInt (-300) 300 v.z⟩
  | .pair => ⟨clampInt (-400) 400 v.x, clampInt (-400) 400 v.y, clampInt (-300) 300 v.z⟩

/-- One plan record of twelve bytes, checked field by field (R70) and stored with its clamped displacement and its
CLAMPED mark (R71). -/
def decodeRecord (p : List Byte) : Option PlanRecord :=
  let id := u16At p 0
  let raw := vecAt p 4
  let flags := u8At p 11
  match recordKindOf (u8At p 2) with
  | none => none
  | some k =>
    match legsOf k (u8At p 3), targetClassOf k (u8At p 10) with
    | some legs, some cls =>
      if id ≠ 0 ∧ flags < 8 ∧ ¬(k = .shift ∧ 4 ≤ flags) then
        some
          { id := id, kind := k, legs := legs, disp := clampDisp k raw, cls := cls,
            hold := decide (flags % 2 = 1), notify := decide (flags / 2 % 2 = 1), noPreshift := decide (4 ≤ flags),
            clamped := decide (clampDisp k raw ≠ raw), preshifts := 0 }
      else none
    | _, _ => none

/-- The plan records of a PLAN_APPEND payload: `n` of them, every one accepted (R70, R177). -/
def decodeRecords : Nat → List Byte → Option (List PlanRecord)
  | 0, _ => some []
  | n + 1, p =>
    match decodeRecord (p.take 12), decodeRecords n (p.drop 12) with
    | some r, some rs => some (r :: rs)
    | _, _ => none

end Sys2Proof.Machine
end

