-- ==== Sys2Proof/Machine/Layouts.lean ====
section
/-! DEFINITION. The payloads the part sends: enumerations (R176), completion log entries (R178), replies, STATUS, notices,
the fault block and the counter block (R179). -/

namespace Sys2Proof.Machine

/-- R176. -/
def Mode.code : Mode → Nat
  | .parked => 0
  | .rising => 1
  | .standing => 2
  | .settling => 3
  | .safeHold => 4

/-- R176. -/
def PlanState.code : PlanState → Nat
  | .idle => 0
  | .active => 1
  | .draining => 2
  | .suspended => 3
  | .braced => 4

/-- R176. -/
def RecordKind.code : RecordKind → Nat
  | .step => 0
  | .pair => 1
  | .shift => 2

/-- R176. -/
def Status.code : Status → Nat
  | .ok => 0
  | .clamped => 1
  | .missed => 2
  | .snagged => 3
  | .unstable => 4
  | .braced => 5
  | .stalled => 6
  | .cancelled => 7

/-- R176. -/
def SurfaceClass.code : SurfaceClass → Nat
  | .grating => 0
  | .chequer => 1
  | .tread => 2
  | .dusted => 3
  | .unsurveyed => 4

/-- R176. -/
def Phase.code : Phase → Nat
  | .folded => 0
  | .posture => 1
  | .stance => 2
  | .lift => 3
  | .swing => 4
  | .reach => 5

/-- R176. -/
def Contact.code : Contact → Nat
  | .air => 0
  | .touch => 1
  | .loaded => 2
  | .slipping => 3
  | .fault => 4

/-- R176. -/
def LinkState.code : LinkState → Nat
  | .online => 0
  | .suspect => 1
  | .lost => 2

/-- R176. -/
def DriveState.code : DriveState → Nat
  | .ready => 0
  | .moving => 1
  | .atLimit => 2
  | .hot => 3
  | .fault => 4

/-- R176. -/
def FaultKind.code : FaultKind → Nat
  | .driveLost => 0
  | .driveFault => 1
  | .loadSensor => 2
  | .attitudeLost => 3
  | .supportLost => 4
  | .riseFailed => 5
  | .settleFailed => 6

/-- R162. -/
def Result.code : Result → Nat
  | .ok => 0
  | .unknownKind => 1
  | .badLength => 2
  | .badValue => 3
  | .wrongMode => 4
  | .wrongState => 5
  | .planFull => 6
  | .dupId => 7
  | .notFound => 8
  | .notSettled => 9

/-- A leg set: bit n for leg index n (R176). -/
def legSetCode (legs : List Leg) : Nat := (legs.map fun l => 2 ^ Leg.index l).foldr (· + ·) 0

/-- The foothold in a slot of a log entry; zeros where there is none (R178). -/
def slotVec (vs : List Vec3) (i : Nat) : Vec3 := vs.getD i ⟨0, 0, 0⟩

/-- The 22 bytes of a completion log entry (R178). -/
def logEntryBytes (e : LogEntry) : List Byte :=
  put16 e.id ++ put8 e.kind.code ++ put8 (legSetCode e.legs) ++ put8 e.status.code ++ put8 e.preshifts ++ put32 e.time
    ++ putVec (slotVec e.footholds 0) ++ putVec (slotVec e.footholds 1)

/-- An event set as a u16 (R176). -/
def eventSetBytes (es : EventSet) : List Byte := put16 es.toNat

/-- The mode, the plan state and the time base, as PING and a notice carry them (R166, R179). -/
def modePlanTime (s : State) : List Byte := put8 s.sup.mode.code ++ put8 s.plan.state.code ++ put32 s.ev.time

/-- The leg block of STATUS (R167, R179). -/
def legBlock (s : State) (l : Leg) : List Byte :=
  let drive := s.bus.drives.get l
  put8 (s.legs.get l).phase.code ++ put8 (s.feet.get l).contact.code ++ put16 (s.feet.get l).lastLoad
    ++ put8 (s.feet.get l).cls.code ++ putVec (bodyPos s l) ++ put8 drive.link.code
    ++ put8 (match drive.last with | none => 255 | some r => r.state.code)

/-- The id of a record in the issue window by its place, 0 where absent (R167, R176). -/
def windowId (s : State) (i : Nat) : Nat := ((s.plan.window.map fun w => w.body.id).getD i 0)

/-- The fields of a STATUS reply after the result (R167, R179). -/
def statusFields (s : State) : List Byte :=
  put8 s.sup.mode.code ++ put8 s.plan.state.code ++ put8 s.plan.list.length
    ++ put16 (windowId s 0) ++ put16 (windowId s 1)
    ++ putI16 s.bal.held.margin ++ putI16 s.bal.held.required ++ put8 s.bal.held.count
    ++ put8 (flagBit 0 s.bal.held.degenerate + flagBit 1 s.bal.held.noSupport + flagBit 2 s.att.stale)
    ++ putI16 s.bal.held.px ++ putI16 s.bal.held.py
    ++ (legsInOrder.map (legBlock s)).flatten
    ++ eventSetBytes s.ev.pending
    ++ put8 (flagBit 0 s.ev.fault.isSome + flagBit 1 s.ev.overflow)
    ++ put32 s.ev.time

/-- The fault block (R173, R179). -/
def faultBlock (s : State) : List Byte :=
  let head := put8 (flagBit 0 s.ev.fault.isSome + flagBit 1 s.ev.overflow)
  match s.ev.fault with
  | none => head ++ put8 0 ++ put8 255 ++ put8 0 ++ put16 0 ++ put32 0
  | some r =>
    head ++ put8 r.kind.code ++ put8 (match r.leg with | none => 255 | some l => Leg.index l) ++ put8 r.mode.code
      ++ put16 (r.oldest.getD 0) ++ put32 r.time

/-- The sixteen counters in index order (R174). -/
def Counters.inOrder (c : Counters) : List Word :=
  [c.stepsOk, c.stepsClamped, c.stepsMissed, c.snags, c.slips, c.braces, c.preshifts, c.shiftsDone, c.driveTimeouts,
    c.driveCrcErrors, c.framesGood, c.framesBadCheck, c.framesOverrun, c.loadSensorFaults, c.attitudeStale,
    c.logOverwrites]

/-- The counter block (R175, R179). -/
def counterBlock (c : Counters) : List Byte := (c.inOrder.map put32).flatten

/-- The plan state and the plan list count, which every plan reply carries (R74, R163). -/
def planFields (s : State) : List Byte := put8 s.plan.state.code ++ put8 s.plan.list.length

/-- The content of a notice, fixed when its sending begins (R164, R179): KIND 0x7E, TAG 0. -/
def noticeFrame (s : State) : Frame := ⟨0x7E#8, 0#8, eventSetBytes (pendingUnmasked s) ++ modePlanTime s⟩

end Sys2Proof.Machine
end

