-- ==== Sys2Proof/Machine/Ops.lean ====
section
/-! DEFINITION. The operations several blocks share: the setpoint's path to a drive (R5, R97, R121, R129), the change of
mode (R142, R152), the evaluation trigger (R48), the brace request (R65), the move into SETTLING (R145).

DESIGN CHOICE (log 6): an effect that a rule hands to another block is carried out whole at the place where the rule hands
it over. DEDUCED (log 20): what is done for several legs is done in index order. -/

namespace Sys2Proof.Machine

/-- Change one leg's sequencer. -/
def modLeg (l : Leg) (f : LegSeq → LegSeq) (s : State) : State := s.setLegs (s.legs.set l (f (s.legs.get l)))

/-- Change one foot. -/
def modFoot (l : Leg) (f : Foot → Foot) (s : State) : State := s.setFeet (s.feet.set l (f (s.feet.get l)))

/-- Change one drive. -/
def modDrive (l : Leg) (f : Drive → Drive) (s : State) : State :=
  s.setBus { s.bus with drives := s.bus.drives.set l (f (s.bus.drives.get l)) }

/-- Do something for each of some legs, in the order given. -/
def forLegs (f : Leg → State → State) : List Leg → State → State
  | [], s => s
  | l :: rest, s => forLegs f rest (f l s)

/-! ## Timers -/

/-- A timer has run out: it runs, and none of its milliseconds is left (R1, R42; log 4). -/
def ranOut (t : Option Nat) : Bool := decide (t = some 0)

/-! ## Setpoints -/

/-- Whether a transaction is a SETPOINT for a drive. -/
def Txn.isSetpointFor (l : Leg) (t : Txn) : Bool :=
  match t.op with
  | .setpoint _ _ _ => decide (t.leg = l)
  | .poll => false

/-- Whether a transaction is a SETPOINT. -/
def Txn.isSetpoint (t : Txn) : Bool :=
  match t.op with
  | .setpoint _ _ _ => true
  | .poll => false

/-- The Drive Bus Controller takes a setpoint: discarded in PARKED, coalesced into the entry that waits, or added at the
tail (R129). -/
def handover (l : Leg) (v : Vec3) (speed : Nat) (hold : Bool) (s : State) : State :=
  if s.sup.mode = .parked then s
  else if s.bus.queue.any (Txn.isSetpointFor l) then
    s.setBus
      { s.bus with
        queue := s.bus.queue.map fun t => if t.isSetpointFor l then ⟨l, .setpoint v speed hold⟩ else t }
  else s.setBus { s.bus with queue := s.bus.queue ++ [⟨l, .setpoint v speed hold⟩] }

/-- The speed a setpoint carries: half, truncated and at least 20 mm/s, while the derating flag is set (R121). -/
def deratedSpeed (q : LegSeq) (speed : Nat) : Nat := if q.derating then max Config.speedMin (speed / 2) else speed

/-- A setpoint to a body-frame target: clamped, made the commanded target, handed over (R5, R97, R121). -/
def sendSetpoint (l : Leg) (body : Vec3) (speed : Nat) (s : State) : State :=
  let hip := hipTarget s.geo l body
  let s1 := modLeg l (fun q =>
    { q with commanded := hip, speed := some speed, reached := false, limitReached := false }) s
  handover l hip (deratedSpeed (s.legs.get l) speed) false s1

/-- A SETPOINT with the HOLD flag: the held measured position, not clamped, speed 0 (R5, R97, R126). -/
def sendHold (l : Leg) (s : State) : State :=
  let v := heldPos s l
  let s1 := modLeg l (fun q =>
    { q with commanded := v, speed := none, reached := false, limitReached := false }) s
  handover l v 0 true s1

/-- Form the leg's setpoint again, to the same target, with the speed the derating flag now calls for (R121). -/
def resendSetpoint (l : Leg) (speed : Nat) (s : State) : State :=
  let q := s.legs.get l
  let s1 := modLeg l (fun q => { q with reached := false, limitReached := false }) s
  handover l q.commanded (deratedSpeed q speed) false s1

/-- A SETPOINT with the HOLD flag for each of some legs. -/
def holdLegs (legs : List Leg) (s : State) : State := forLegs sendHold legs s

/-- One setpoint per leg to a pose, at the shift speed (R143, R145). -/
def sendPose (pose : Vec3) (s : State) : State :=
  forLegs (fun l t => sendSetpoint l (toBody t.geo l pose) t.gait.shiftSpeed t) legsInOrder s

/-- The time a phase timer starts with: doubled while the derating flag is set (R121). -/
def phaseTime (q : LegSeq) (t : Nat) : Nat := if q.derating then 2 * t else t

/-! ## Mode and silence timer -/

/-- Whether the mode lets the silence timer run (R152). -/
def silenceMode (m : Mode) : Bool :=
  match m with
  | .rising => true
  | .standing => true
  | .parked => false
  | .settling => false
  | .safeHold => false

/-- Start or restart the silence timer where the mode and the limit let it run (R152). -/
def restartSilence (s : State) : State :=
  if silenceMode s.sup.mode ∧ s.sup.silenceLimit ≠ 0 then s.setLink { s.link with silence := some s.sup.silenceLimit }
  else s

/-- Stop the silence timer (R152). -/
def stopSilence (s : State) : State := s.setLink { s.link with silence := none }

/-- A change of mode: MODE_CHANGE is raised (R142), the silence timer directed (R152), and a pending settle cleared when
STANDING is left (R153). -/
def changeMode (m : Mode) (s : State) : State :=
  let s1 := s.setSup { s.sup with mode := m, pendingSettle := s.sup.pendingSettle && decide (m = .standing) }
  let s2 := raise .modeChange s1
  if silenceMode m then restartSilence s2 else stopSilence s2

/-- Whether the plan is running (R61, R62, R82). -/
def planRuns (s : State) : Bool := decide (s.plan.state = .active ∨ s.plan.state = .draining)

/-- The time the rise/settle timer starts with: doubled if any leg is derated (R143). -/
def riseTime (s : State) : Nat :=
  if s.legs.any LegSeq.derating then 2 * s.gait.riseTimeout else s.gait.riseTimeout

/-- Start the support-lost timer if support is held as low (R144, R149, R150). -/
def startSupportLost (s : State) : State :=
  if s.sup.supportLow then s.setSup { s.sup with supportLost := some s.balCfg.supportLost } else s

/-- A leg put into a standing phase by a mode change: motion, record, origin and target cleared, timer stopped (R98). -/
def LegSeq.settled (p : Phase) (q : LegSeq) : LegSeq :=
  { q with phase := p, motion := none, record := none, step := none, timer := none }

/-- Put every leg into a phase as a mode change does (R98). -/
def setAllPhases (p : Phase) (s : State) : State := s.setLegs (s.legs.map (LegSeq.settled p))

/-- An accepted SIT, or the SETTLE policy: enter SETTLING (R145, R153). -/
def enterSettling (s : State) : State :=
  let s1 := setAllPhases .posture (changeMode .settling s)
  let s2 := sendPose s1.geo.parkPose s1
  s2.setSup { s2.sup with riseSettle := some (riseTime s2), supportLost := none }

/-- The settle condition (R153): the plan stopped and every leg in STANCE. -/
def settleCondition (s : State) : Bool :=
  decide (s.plan.state = .idle ∨ s.plan.state = .suspended ∨ s.plan.state = .braced)
    && s.legs.all fun q => decide (q.phase = .stance)

/-- Test a pending settle, and enter SETTLING when its condition holds (R153). -/
def settleTest (s : State) : State :=
  if s.sup.pendingSettle ∧ s.sup.mode = .standing ∧ settleCondition s then
    enterSettling (s.setSup { s.sup with pendingSettle := false })
  else s

/-! ## Evaluation trigger and brace request -/

/-- What an evaluation reads at its start (R47, R49; log 14). -/
def readInputs (s : State) : EvalInputs where
  sample := s.att.sample
  stale := s.att.stale
  geo := s.geo
  surf := s.surf
  balCfg := s.balCfg
  support := s.bal.support
  feet := ⟨bodyPos s .fl, bodyPos s .fr, bodyPos s .rl, bodyPos s .rr⟩
  classes := s.feet.map Foot.cls
  phases := s.legs.map LegSeq.phase
  requests := s.bal.queue

/-- Begin an evaluation: it reads its inputs once (R49). -/
def startEvaluation (s : State) : State := s.setBal { s.bal with eval := some (readInputs s) }

/-- A trigger: it begins an evaluation, or sets the evaluation-pending flag while one runs (R48). -/
def trigger (s : State) : State :=
  match s.bal.eval with
  | none => startEvaluation s
  | some _ => s.setBal { s.bal with evalPending := true }

/-- A brace request sets the brace-outstanding flag, or merges into the one outstanding (R65). -/
def requestBrace (s : State) : State := s.setBal { s.bal with braceOut := true }

end Sys2Proof.Machine
end

