-- ==== Sys2Proof/Machine/PlanOps.lean ====
section
/-! DEFINITION. The Step Planner's operations: issue (R76, R77, R119), withdrawal and drain (R85, R86, R118), completion
and the completion log (R78 to R80, R87), the last record's end (R84). -/

namespace Sys2Proof.Machine

/-- Replace the plan state. -/
def setPlanState (p : PlanState) (s : State) : State := s.setPlan { s.plan with state := p }

/-- The record of the issue window with an id. -/
def findWindow (id : Nat) (s : State) : Option WindowRecord := s.plan.window.find? fun w => decide (w.body.id = id)

/-- Change the window record with an id. -/
def modWindow (id : Nat) (f : WindowRecord → WindowRecord) (s : State) : State :=
  s.setPlan { s.plan with window := s.plan.window.map fun w => if w.body.id = id then f w else w }

/-- Mark a record of the window CLAMPED (R10, R122). -/
def markRecord (id : Nat) (s : State) : State :=
  modWindow id (fun w => { w with body := { w.body with clamped := true } }) s

/-! ## Issue -/

/-- Whether a window record names a leg. -/
def WindowRecord.names (l : Leg) (w : WindowRecord) : Bool := w.body.legs.contains l

/-- Whether a leg may be named by an issued STEP or PAIR (R76). -/
def legReady (s : State) (l : Leg) : Bool :=
  decide ((s.legs.get l).phase = .stance) && !(s.plan.window.any (WindowRecord.names l))
    && decide ((s.feet.get l).contact = .loaded ∨ (s.feet.get l).contact = .slipping)

/-- The conditions on which the head record is issued (R76). -/
def canIssue (r : PlanRecord) (s : State) : Bool :=
  decide (s.plan.state = .active) && decide (s.sup.mode = .standing) && !s.att.stale && !s.bal.braceOut
    && decide (s.plan.window.length < s.gait.window)
    && s.plan.window.all (fun w => !w.body.hold && decide (w.body.kind ≠ .shift))
    && (match r.kind with
        | .step => r.legs.all (legReady s)
        | .pair => r.legs.all (legReady s)
        | .shift => s.plan.window.isEmpty && s.legs.all fun q => decide (q.phase = .stance))

/-- A leg's commanded target, in the body frame, moved by a displacement (R117, R119). -/
def shiftedTarget (s : State) (d : Vec3) (l : Leg) : Vec3 := (toBody s.geo l (s.legs.get l).commanded).add d

/-- A setpoint to a leg's commanded target moved by a displacement, at the shift speed (R117, R119). -/
def sendShifted (d : Vec3) (l : Leg) (s : State) : State := sendSetpoint l (shiftedTarget s d l) s.gait.shiftSpeed s

/-- The time a pre-shift or shift timer starts with: doubled if any of its legs is derated (R117, R119). -/
def shiftTime (s : State) (legs : List Leg) : Nat :=
  if legs.any (fun l => (s.legs.get l).derating) then 2 * s.gait.shiftTimeout else s.gait.shiftTimeout

/-- Start the body shift of an issued SHIFT (R119). -/
def startShift (id : Nat) (disp : Vec3) (s : State) : State :=
  let d := disp.neg
  let s1 := if legsInOrder.any (fun l => isClamped s.geo l (shiftedTarget s d l)) then markRecord id s else s
  let s2 := forLegs (sendShifted d) legsInOrder s1
  s2.setPlan { s2.plan with shiftTimer := some (shiftTime s2 legsInOrder) }

/-- Issue a record from the head of the plan list, leaving `rest`, with a pre-shift count of 0 (R77, R79; for a record issued again,
log 22). -/
def issueHead (r : PlanRecord) (rest : List PlanRecord) (s : State) : State :=
  let body := { r with preshifts := 0 }
  match r.kind with
  | .shift =>
    startShift r.id r.disp
      (s.setPlan { s.plan with list := rest, window := s.plan.window ++ [⟨body, .running, []⟩] })
  | .step =>
    (s.setPlan { s.plan with list := rest, window := s.plan.window ++ [⟨body, .waiting, []⟩] }).setBal
      { s.bal with queue := s.bal.queue ++ [⟨r.id, r.legs, r.noPreshift, 0⟩] }
  | .pair =>
    (s.setPlan { s.plan with list := rest, window := s.plan.window ++ [⟨body, .waiting, []⟩] }).setBal
      { s.bal with queue := s.bal.queue ++ [⟨r.id, r.legs, r.noPreshift, 0⟩] }

/-- Issue from the head for as long as the conditions hold (R76). -/
def issueFrom : List PlanRecord → State → State
  | [], s => s
  | r :: rest, s => if canIssue r s then issueFrom rest (issueHead r rest s) else s

/-- Re-test the issue of the head record (R76). -/
def issue (s : State) : State := issueFrom s.plan.list s

/-- A change of a leg's phase: the Step Planner re-tests issue (R96), the Mode Supervisor a pending settle (R153). -/
def phaseChanged (s : State) : State := settleTest (issue s)

/-! ## Leaving ACTIVE and DRAINING -/

/-- An ACTIVE plan with nothing left goes to IDLE and raises PLAN_IDLE (R84). -/
def idleIfEmpty (s : State) : State :=
  if s.plan.state = .active ∧ s.plan.list = [] ∧ s.plan.window = [] then
    settleTest (raise .planIdle (setPlanState .idle s))
  else s

/-- A DRAINING plan with an empty window goes to SUSPENDED and raises PLAN_SUSPENDED (R86). -/
def suspendIfEmpty (s : State) : State :=
  if s.plan.state = .draining ∧ s.plan.window = [] then
    settleTest (raise .planSuspended (setPlanState .suspended s))
  else s

/-- Whether a window record is WAITING (R75). -/
def WindowRecord.isWaiting (w : WindowRecord) : Bool := decide (w.cond = .waiting)

/-- Stop a running pre-shift whose owner is among some ids: its legs are held, and there is none (R118). -/
def stopPreshift (ids : List Nat) (s : State) : State :=
  match s.bal.preshift with
  | none => s
  | some p =>
    if ids.contains p.owner then holdLegs p.legs (s.setBal { s.bal with preshift := none }) else s

/-- Remove the requests of some records from the grant queue, and from those a running evaluation has read (R61, R85;
log 19). -/
def removeRequests (ids : List Nat) (s : State) : State :=
  s.setBal
    { s.bal with
      queue := s.bal.queue.filter fun q => !(ids.contains q.id)
      eval := s.bal.eval.map fun e => { e with requests := e.requests.filter fun q => !(ids.contains q.id) } }

/-- Return every WAITING record to the head of the plan list, its request withdrawn and its pre-shift stopped (R85). -/
def withdrawWaiting (s : State) : State :=
  let waiting := s.plan.window.filter WindowRecord.isWaiting
  let ids := waiting.map fun w => w.body.id
  let s1 := stopPreshift ids (removeRequests ids s)
  s1.setPlan
    { s1.plan with
      window := s1.plan.window.filter fun w => !w.isWaiting
      list := (waiting.map WindowRecord.body) ++ s1.plan.list }

/-- Drain: an ACTIVE plan goes to DRAINING, withdraws what waits, and goes on to SUSPENDED if nothing is left (R85). -/
def drain (s : State) : State :=
  if s.plan.state = .active then suspendIfEmpty (withdrawWaiting (setPlanState .draining s)) else s

/-! ## Completion -/

/-- Whether a status is a failure that drains the plan (R87). -/
def Status.fails : Status → Bool
  | .ok => false
  | .clamped => false
  | .missed => true
  | .snagged => true
  | .unstable => true
  | .stalled => true
  | .braced => false
  | .cancelled => false

/-- Add an entry to the completion log, the oldest lost from a full one (R80). -/
def pushLog (e : LogEntry) (s : State) : State :=
  if Config.logRoom ≤ s.plan.log.length then
    bump .logOverwrites (s.setPlan { s.plan with log := s.plan.log.drop 1 ++ [e] })
  else s.setPlan { s.plan with log := s.plan.log ++ [e] }

/-- The counter a completion increments (R79). -/
def completionCounter (k : RecordKind) (st : Status) : Option Counter :=
  match k, st with
  | .shift, .ok => some .shiftsDone
  | .shift, .clamped => some .shiftsDone
  | .shift, _ => none
  | _, .ok => some .stepsOk
  | _, .clamped => some .stepsClamped
  | _, .missed => some .stepsMissed
  | _, _ => none

/-- A record whose status is OK and which carries the CLAMPED mark completes CLAMPED (R78). -/
def finalStatus (w : WindowRecord) (st : Status) : Status := if st = .ok ∧ w.body.clamped then .clamped else st

/-- The final footholds of an entry, in leg index order: only for a STEP or PAIR completing OK or CLAMPED (R79). -/
def finalFootholds (w : WindowRecord) (st : Status) : List Vec3 :=
  if w.body.kind ≠ .shift ∧ (st = .ok ∨ st = .clamped) then
    w.body.legs.filterMap fun l => (w.reports.find? fun r => decide (r.leg = l)).bind LegReport.foothold
  else []

/-- The completion log entry of a record (R79). -/
def logEntryOf (w : WindowRecord) (st : Status) (time : Word) : LogEntry :=
  ⟨w.body.id, w.body.kind, w.body.legs, st, w.body.preshifts, time, finalFootholds w st⟩

/-- A record leaves the window: its log entry, its STEP_DONE, its counter (R78, R79); a SHIFT's timer stops. -/
def finishRecord (w : WindowRecord) (status : Status) (s : State) : State :=
  let st := finalStatus w status
  let s1 := s.setPlan
    { s.plan with
      window := s.plan.window.filter fun v => decide (v.body.id ≠ w.body.id)
      shiftTimer := if w.body.kind = .shift then none else s.plan.shiftTimer }
  let s2 := pushLog (logEntryOf w st s.ev.time) s1
  let s3 := if w.body.notify then raise .stepDone s2 else s2
  match completionCounter w.body.kind st with
  | none => s3
  | some k => bump k s3

/-- What a completion does to the plan state (R87). -/
def completionActs (st : Status) (hold : Bool) (s : State) : State :=
  if s.plan.state = .active then if st.fails || hold then drain s else idleIfEmpty (issue s)
  else if s.plan.state = .draining then suspendIfEmpty s
  else s

/-- Complete the record with an id; an outcome for a record no longer in the window is discarded (R78, R87, R95). -/
def completeRecord (id : Nat) (status : Status) (s : State) : State :=
  match findWindow id s with
  | none => s
  | some w => completionActs status w.body.hold (finishRecord w status s)

/-- Whether some report of a record gives an outcome. -/
def WindowRecord.anyOutcome (o : Outcome) (w : WindowRecord) : Bool := w.reports.any fun r => decide (r.outcome = o)

/-- The worse of the outcomes of a record's legs: MISSED, SNAGGED, CLAMPED, OK (R78). -/
def worstStatus (w : WindowRecord) : Status :=
  if w.anyOutcome .missed then .missed
  else if w.anyOutcome .snagged then .snagged
  else if w.anyOutcome .clamped then .clamped
  else .ok

/-- The status of a record that is braced: the worse of what was reported and BRACED (R78). -/
def bracedStatus (w : WindowRecord) : Status :=
  if w.anyOutcome .missed then .missed else if w.anyOutcome .snagged then .snagged else .braced

/-- Whether a leg of a record has reported. -/
def WindowRecord.hasReported (w : WindowRecord) (l : Leg) : Bool := w.reports.any fun r => decide (r.leg = l)

/-- A Leg Sequencer reports its leg's outcome; the record completes with the last of its legs (R78, R95). -/
def reportOutcome (l : Leg) (o : Outcome) (foothold : Option Vec3) (s : State) : State :=
  match (s.legs.get l).record with
  | none => s
  | some id =>
    match findWindow id s with
    | none => s
    | some w =>
      if w.cond = .granted then
        let w1 := { w with reports := w.reports ++ [⟨l, o, foothold⟩] }
        let s1 := modWindow id (fun _ => w1) s
        if w1.body.legs.all w1.hasReported then completeRecord id (worstStatus w1) s1 else s1
      else s

end Sys2Proof.Machine
end

