-- ==== Sys2Proof/Machine/LegOps.lean ====
section
/-! DEFINITION. The Leg Sequencers (R96 to R110, R121, R122): the phases of a step, landing, snags, misses, retreat, and
what an accepted reply and a contact change report do to a leg. -/

namespace Sys2Proof.Machine

/-- The origin's x and y, or the target's, at a level. -/
def atLevel (v : Vec3) (z : Int) : Vec3 := ⟨v.x, v.y, z⟩

/-- The phase changes and its timer starts with a timeout, doubled while derated (R121). -/
def startPhase (l : Leg) (p : Phase) (timeout : Nat) (s : State) : State :=
  modLeg l (fun q => { q with phase := p, timer := some (phaseTime q timeout) }) s

/-- The leg CLAMPED mark and the record's mark, set when an AT_LIMIT report ends or helps to end a phase of a step
(R122). -/
def markIfLimit (l : Leg) (s : State) : State :=
  let q := s.legs.get l
  if q.limitReached then
    let s1 := modLeg l (fun p => { p with clamped := true }) s
    match q.record with
    | none => s1
    | some id => markRecord id s1
  else s

/-! ## Landing -/

/-- The setpoint that stops a landing: the measured position, at the reach speed (R103). DESIGN CHOICE: where the clamp moves it, it
marks neither leg nor record (log 39). -/
def stopDescent (l : Leg) (s : State) : State := sendSetpoint l (bodyPos s l) s.gait.reachSpeed s

/-- A leg in REACH takes a report of LOADED, as its motion says (R103, R107, R108, R109). A DESCENT's outcome is always
discarded (R95, R108), so none is handed over. -/
def landCore (l : Leg) (s : State) : State :=
  let q := s.legs.get l
  match q.motion with
  | none => s
  | some .step =>
    let s1 := modLeg l (fun p => { p with phase := .stance, timer := none }) s
    let s2 := stopDescent l s1
    let s3 := reportOutcome l (if q.clamped then .clamped else .ok) (some (bodyPos s l)) s2
    modLeg l (fun p => { p with motion := none, record := none, step := none, clamped := false }) s3
  | some .held => modLeg l (fun p => { p with phase := .stance, timer := none, motion := none, record := none }) s
  | some _ =>
    let s1 := modLeg l (fun p => { p with phase := .stance, timer := none }) s
    let s2 := stopDescent l s1
    modLeg l (fun p => { p with motion := none, record := none, step := none }) s2

/-- A leg that enters REACH with its foot LOADED takes that as a report of LOADED (R103). -/
def landIfLoaded (l : Leg) (s : State) : State :=
  if (s.legs.get l).phase = .reach ∧ (s.feet.get l).contact = .loaded then landCore l s else s

/-- A leg lands, and its change of phase is reported (R96). -/
def land (l : Leg) (s : State) : State := phaseChanged (landCore l s)

/-! ## A step -/

/-- LIFT ends: the leg enters SWING (R101). -/
def liftEnd (l : Leg) (s : State) : State :=
  match (s.legs.get l).step with
  | none => s
  | some d =>
    let s1 := startPhase l .swing s.gait.swingTimeout (markIfLimit l s)
    phaseChanged (sendSetpoint l (atLevel d.target d.liftLevel) s.gait.swingSpeed s1)

/-- SWING ends: the foot takes the target class and the leg enters REACH (R14, R102). -/
def swingEnd (l : Leg) (s : State) : State :=
  match (s.legs.get l).step with
  | none => s
  | some d =>
    let s1 := modFoot l (fun f => { f with cls := d.targetClass }) (markIfLimit l s)
    let s2 := startPhase l .reach s.gait.reachTimeout s1
    let s3 := sendSetpoint l (atLevel d.target (d.target.z - d.reachDepth)) s.gait.reachSpeed s2
    phaseChanged (landIfLoaded l s3)

/-! ## Snag, miss and retreat -/

/-- The part common to both snags: SNAGGED reported, SNAG raised and counted, and the leg put down at x and y of `over`
and the given z with motion RECOVERY (R104, R105). -/
def snagTo (l : Leg) (target : Vec3) (s : State) : State :=
  let s1 := bump .snags (raise .snag (reportOutcome l .snagged none s))
  let s2 := startPhase l .reach s.gait.reachTimeout
    (modLeg l (fun q => { q with motion := some .recovery, record := none }) s1)
  phaseChanged (landIfLoaded l (sendSetpoint l target s.gait.reachSpeed s2))

/-- A snag in LIFT: the foot is put back at its origin (R104). -/
def snagInLift (l : Leg) (s : State) : State :=
  match (s.legs.get l).step with
  | none => s
  | some d => snagTo l (atLevel d.origin (d.origin.z - d.reachDepth)) s

/-- The depth a leg taken from LIFT or SWING is put down to: the lower of origin and target, less the reach depth (R105,
R110). -/
def putDownLevel (d : StepData) : Int := min d.origin.z d.target.z - d.reachDepth

/-- A snag in SWING: the foot is put down where it is (R105). -/
def snagInSwing (l : Leg) (s : State) : State :=
  match (s.legs.get l).step with
  | none => s
  | some d => snagTo l (atLevel (bodyPos s l) (putDownLevel d)) s

/-- A missed foothold: MISSED reported and raised, and the leg retreats to its origin under its origin class (R14, R106). -/
def missFoothold (l : Leg) (s : State) : State :=
  match (s.legs.get l).step with
  | none => s
  | some d =>
    let s1 := raise .missed (reportOutcome l .missed none s)
    let s2 := modLeg l (fun q => { q with motion := some .retreat, record := none }) s1
    let s3 := startPhase l .swing s.gait.swingTimeout (modFoot l (fun f => { f with cls := d.originClass }) s2)
    phaseChanged (sendSetpoint l (atLevel d.origin d.liftLevel) s.gait.swingSpeed s3)

/-- A retreating leg has reached its origin at the lift level, and descends (R107). -/
def retreatReach (l : Leg) (s : State) : State :=
  match (s.legs.get l).step with
  | none => s
  | some d =>
    let s1 := startPhase l .reach s.gait.reachTimeout s
    let s2 := sendSetpoint l (atLevel d.origin (d.origin.z - d.reachDepth)) s.gait.reachSpeed s1
    phaseChanged (landIfLoaded l s2)

/-- A recovery, retreat or descent has failed: the leg is held, MISSED raised, a brace asked for (R108). -/
def failLeg (l : Leg) (s : State) : State :=
  let entering := decide ((s.legs.get l).phase ≠ .reach)
  let s1 := modLeg l (fun q => { q with phase := .reach, motion := some .held, timer := none }) (sendHold l s)
  let s2 := requestBrace (raise .missed s1)
  if entering then phaseChanged (landIfLoaded l s2) else s2

/-- A brace sends a stepping airborne leg straight down (R110). The tests its change of phase calls for are made by the
brace when it is done (log 9). -/
def descend (l : Leg) (s : State) : State :=
  let q := s.legs.get l
  match q.motion, q.step with
  | some .step, some d =>
    let entering := decide (q.phase ≠ .reach)
    let z := if entering then putDownLevel d else d.target.z - d.reachDepth
    let s1 := startPhase l .reach s.gait.reachTimeout (modLeg l (fun p => { p with motion := some .descent }) s)
    let s2 := sendSetpoint l (atLevel (bodyPos s l) z) s.gait.reachSpeed s1
    if entering then landIfLoaded l s2 else s2
  | _, _ => s

/-- The phase timer of a leg expires: a snag, a missed foothold or a failed recovery, retreat or descent (R101, R102,
R103, R107, R108). -/
def timerRunsOut (l : Leg) (s : State) : State :=
  let q := s.legs.get l
  let s1 := modLeg l (fun p => { p with timer := none }) s
  match q.phase, q.motion with
  | .lift, some .step => snagInLift l s1
  | .swing, some .step => snagInSwing l s1
  | .reach, some .step => missFoothold l s1
  | _, some .retreat => failLeg l s1
  | _, some .recovery => failLeg l s1
  | _, some .descent => failLeg l s1
  | _, _ => s1

/-! ## Contact change reports and accepted replies -/

/-- A leg takes a contact change report: AIR may end LIFT, LOADED ends REACH; in SAFE_HOLD no phase changes (R98, R101,
R103, R107 to R109). -/
def seqContact (l : Leg) (new : Contact) (s : State) : State :=
  let q := s.legs.get l
  if s.sup.mode = .safeHold then s
  else
    match q.phase with
    | .lift => if q.motion = some .step ∧ q.reached ∧ new = .air then liftEnd l s else s
    | .reach => if new = .loaded then land l s else s
    | .folded => s
    | .posture => s
    | .stance => s
    | .swing => s

/-- Whether a reply passes the reached test (R97, R122). -/
def passesReached (q : LegSeq) (tol : Nat) (pos : Vec3) (st : DriveState) (flag : Bool) : Bool :=
  decide (st = .atLimit) || (flag && within tol pos q.commanded)

/-- The reached flag after a reply, and whether it was AT_LIMIT that set it (R97, R122; log 15). -/
def LegSeq.takeReply (q : LegSeq) (pass : Bool) (st : DriveState) : LegSeq :=
  if pass ∧ ¬ q.reached then { q with reached := true, limitReached := decide (st = .atLimit) } else q

/-- The derating flag follows the replies; a setpoint not yet reached is formed again when it changes, but none in FOLDED
or SAFE_HOLD (R98, R121; log 16). -/
def takeDerating (l : Leg) (st : DriveState) (s : State) : State :=
  let hot := decide (st = .hot)
  let q := s.legs.get l
  let s1 := modLeg l (fun p => { p with derating := hot }) s
  match q.speed with
  | none => s1
  | some v =>
    if q.derating ≠ hot ∧ ¬ q.reached ∧ q.phase ≠ .folded ∧ s.sup.mode ≠ .safeHold then resendSetpoint l v s1 else s1

/-- What a passing reply does to a leg in REACH: a landing if the foot is LOADED, else a miss or a failure (R103, R107 to
R109). An AT_LIMIT arrival marks a step either way; a miss hides the mark (R122). -/
def reachedInReach (l : Leg) (s : State) : State :=
  let q := s.legs.get l
  let loaded := decide ((s.feet.get l).contact = .loaded)
  match q.motion with
  | none => s
  | some .step =>
    let s1 := markIfLimit l s
    if loaded then land l s1 else missFoothold l s1
  | some .held => if loaded then land l s else s
  | some _ => if loaded then land l s else failLeg l s

/-- What an accepted reply does to a leg's phase; `pass` says whether it passed the reached test (R98, R101 to R103, R107
to R109). -/
def replyActs (l : Leg) (pass : Bool) (s : State) : State :=
  let q := s.legs.get l
  if s.sup.mode = .safeHold then s
  else
    match q.phase with
    | .lift =>
      if q.motion = some .step ∧ q.reached ∧ (s.feet.get l).contact = .air then liftEnd l s else s
    | .swing =>
      if pass then
        if q.motion = some .step then swingEnd l s
        else if q.motion = some .retreat then retreatReach l s
        else s
      else s
    | .reach => if pass then reachedInReach l s else s
    | .folded => s
    | .posture => s
    | .stance => s

/-- The leg's sequencer takes an accepted reply: the reached test, the derating flag, and what they do (R97, R121, R132). That they
come in this order, so that a phase the reply begins follows the new flag, is the model's choice (log 38, DESIGN CHOICE). -/
def seqReply (l : Leg) (pos : Vec3) (st : DriveState) (flag : Bool) (s : State) : State :=
  let pass := passesReached (s.legs.get l) s.gait.tolerance pos st flag
  replyActs l pass (takeDerating l st (modLeg l (fun q => q.takeReply pass st) s))

end Sys2Proof.Machine
end

