-- ==== Sys2Proof/Machine/ModeOps.lean ====
section
/-! DEFINITION. The Mode Supervisor's operations: fault reports and SAFE_HOLD (R94, R147, R148), rise complete (R144),
settle complete (R146); and the contact change report with its four receivers (R29, R51, R64). -/

namespace Sys2Proof.Machine

/-- The modes in which a fault acts (R147). -/
def faultActs (k : FaultKind) (m : Mode) : Bool :=
  match k with
  | .driveLost => true
  | .driveFault => true
  | .loadSensor => true
  | .attitudeLost => decide (m = .standing)
  | .supportLost => decide (m = .standing)
  | .riseFailed => decide (m = .rising)
  | .settleFailed => decide (m = .settling)

/-- Complete every GRANTED and RUNNING record of a list CANCELLED (R94). DESIGN CHOICE: two records join the completion log in window
order (log 36). -/
def cancelRecords : List WindowRecord → State → State
  | [], s => s
  | w :: rest, s => cancelRecords rest (if w.isWaiting then s else finishRecord w .cancelled s)

/-- SAFE_HOLD entry at the Step Planner (R94). -/
def planSafeHold (s : State) : State :=
  match s.plan.state with
  | .active => raise .planSuspended (setPlanState .suspended (withdrawWaiting (cancelRecords s.plan.window s)))
  | .draining => raise .planSuspended (setPlanState .suspended (withdrawWaiting (cancelRecords s.plan.window s)))
  | .braced => raise .planSuspended (setPlanState .suspended s)
  | .idle => s
  | .suspended => s

/-- Enter SAFE_HOLD: the mode, a HOLD for every leg with its phase timer stopped, the timers, then the plan (R98, R118,
R147). The fault has been offered before. -/
def enterSafeHold (s : State) : State :=
  let s1 := changeMode .safeHold s
  let s2 := forLegs (fun l t => modLeg l (fun q => { q with timer := none }) (sendHold l t)) legsInOrder s1
  let s3 := s2.setSup
    { s2.sup with riseSettle := none, supportLost := none, pendingSettle := false, silenceInRise := false }
  planSafeHold (s3.setBal { s3.bal with preshift := none })

/-- The Mode Supervisor takes a fault report: where the fault acts it is offered to the fault record, and SAFE_HOLD
entered unless the part is in it (R147, R148). -/
def reportFault (k : FaultKind) (leg : Option Leg) (s : State) : State :=
  if faultActs k s.sup.mode then
    if s.sup.mode = .safeHold then offerFault k leg s else enterSafeHold (offerFault k leg s)
  else s

/-- The SETTLE policy sets a pending settle, and its condition is tested at once; outside STANDING none is held (R153). -/
def setPendingSettle (s : State) : State :=
  if s.sup.policy = .settle ∧ s.sup.mode = .standing then settleTest (s.setSup { s.sup with pendingSettle := true })
  else s

/-- Apply a silence expiry taken during the rise (R144, R153; log 17). -/
def applySilenceInRise (s : State) : State :=
  if s.sup.silenceInRise then setPendingSettle (drain (s.setSup { s.sup with silenceInRise := false })) else s

/-- The rise is complete when every leg has reached the stance pose and every foot is LOADED (R144). -/
def riseDone (s : State) : Bool :=
  decide (s.sup.mode = .rising) && s.legs.all LegSeq.reached && s.feet.all fun f => decide (f.contact = .loaded)

/-- Test for rise complete, and enter STANDING (R144). -/
def riseTest (s : State) : State :=
  if riseDone s then
    let s1 := setAllPhases .stance (changeMode .standing (s.setSup { s.sup with riseSettle := none }))
    applySilenceInRise (startSupportLost (phaseChanged s1))
  else s

/-- Test for settle complete, and enter PARKED: legs FOLDED, the plan IDLE, queued SETPOINTs removed (R129, R146). -/
def settleCompleteTest (s : State) : State :=
  if s.sup.mode = .settling ∧ s.legs.all LegSeq.reached then
    let s1 := changeMode .parked (s.setSup { s.sup with riseSettle := none })
    let s2 := setPlanState .idle (s1.setLegs (s1.legs.map fun q => { q with phase := .folded }))
    s2.setBus { s2.bus with queue := s2.bus.queue.filter fun t => !t.isSetpoint }
  else s

/-! ## Contact change reports -/

/-- The support count (R51). -/
def supportCount (s : State) : Nat := (membersOf s.bal.support).length

/-- Support has fallen below two: the flag is set, and the timer started in STANDING (R150). -/
def supportFallen (s : State) : State :=
  let s1 := s.setSup { s.sup with supportLow := true }
  if s.sup.mode = .standing then startSupportLost s1 else s1

/-- Support is restored: the flag is cleared and the timer stopped (R150). -/
def supportRestored (s : State) : State := s.setSup { s.sup with supportLow := false, supportLost := none }

/-- A foot joins or leaves the support set: a trigger, and a message when the count passes two (R51). -/
def changeSupport (l : Leg) (joins : Bool) (s : State) : State :=
  let before := supportCount s
  let s1 := trigger (s.setBal { s.bal with support := s.bal.support.set l joins })
  let after := supportCount s1
  if 2 ≤ before ∧ after < 2 then supportFallen s1
  else if before < 2 ∧ 2 ≤ after then supportRestored s1
  else s1

/-- The Balance Engine takes a contact change report (R51, R64). -/
def balanceReport (l : Leg) (new : Contact) (s : State) : State :=
  let inSet := s.bal.support.get l
  let s1 :=
    if new = .loaded then if inSet then s else changeSupport l true s
    else if inSet then changeSupport l false s
    else s
  if new = .slipping ∧ s1.sup.mode = .standing ∧ planRuns s1 then
    let s2 := requestBrace s1
    s2.setBal { s2.bal with below := 0 }
  else s1

/-- A contact change report: Balance Engine, Leg Sequencer, Step Planner, Mode Supervisor (R29). DESIGN CHOICE: they take
it in the order R29 lists them (log 7). -/
def contactReport (l : Leg) (new : Contact) (s : State) : State :=
  riseTest (issue (seqContact l new (balanceReport l new s)))

end Sys2Proof.Machine
end

