-- ==== Sys2Proof/Machine/LinkOps.lean ====
section
/-! DEFINITION. The Link Port's operations: discarded and good frames and the going-back (R158 to R160), the taking of a
request and its reply (R161 to R163), and the resets (R154 to R156). -/

namespace Sys2Proof.Machine

/-! ## The receiver -/

/-- A frame is discarded (R159). -/
def discardFrame (s : State) : State := raise .linkError (bump .framesBadCheck s)

/-- A good frame: buffered, the silence timer restarted; or an overrun frame (R152, R160). -/
def goodFrame (f : Frame) (s : State) : State :=
  let s1 := bump .framesGood s
  if s1.link.buffer.length < Config.bufferSize then
    restartSilence (s1.setLink { s1.link with buffer := s1.link.buffer ++ [f] })
  else raise .linkError (bump .framesOverrun s1)

/-- The receiver holds these bytes: hunting if none, else assembling with its gap timer started (R158, R159). -/
def holdBytes (bs : List Byte) (s : State) : State :=
  s.setLink { s.link with held := bs, gap := if bs.isEmpty then none else some Config.gapMs }

/-- Take bytes from a hunting receiver on: the first SYNC begins a frame, a discarded frame sends the receiver back to the
byte after its SYNC, a good frame is taken whole (R158 to R160). `skip` counts the bytes of a good frame still to pass. -/
def receive : List Byte → Nat → State → State
  | [], _, s => holdBytes [] s
  | _ :: rest, skip + 1, s => receive rest skip s
  | b :: rest, 0, s =>
    if b = syncByte then
      match assemble (b :: rest) with
      | .incomplete => holdBytes (b :: rest) s
      | .longLen => receive rest 0 (discardFrame s)
      | .badCheck => receive rest 0 (discardFrame s)
      | .good f => receive rest (f.payload.length + 5) (goodFrame f s)
    else receive rest 0 s

/-- Discard the frame being assembled and go back over the bytes after its SYNC (R159). -/
def discardAndGoBack (s : State) : State := receive s.link.held.tail 0 (discardFrame s)

/-! ## Taking a request -/

/-- What the taking of a request gives: the result, the reply data after it, the state, and whether it is a RESET FULL
taken. -/
structure Answer where
  result : Result
  data : List Byte
  state : State
  resetFull : Bool

/-- A refusal whose result code stands alone (R163). -/
def refuse (r : Result) (s : State) : Answer := ⟨r, [], s, false⟩

/-- A refused plan request: the plan state and the plan list count follow the result (R163). -/
def refusePlan (r : Result) (s : State) : Answer := ⟨r, planFields s, s, false⟩

/-- An answer OK with its reply data. -/
def okWith (data : List Byte) (s : State) : Answer := ⟨.ok, data, s, false⟩

/-- An answer OK to a plan request: the plan state and the count as they now stand, then what follows them (R74). -/
def okPlan (extra : List Byte) (s : State) : Answer := ⟨.ok, planFields s ++ extra, s, false⟩

/-- How many replies wait to be sent (R161, R164). -/
def repliesWaiting (s : State) : Nat := (s.link.tx.filter fun t => !t.isNotice).length

/-- Whether the Link Port may take a request, the buffer apart (R161). -/
def mayTake (s : State) : Bool := decide (repliesWaiting s < Config.replyRoom) && !s.link.resetTaken

/-- Queue the reply of an answer at the tail of the transmit queue (R161, R163). -/
def queueReply (f : Frame) (a : Answer) : State :=
  let reply : Frame := ⟨f.kind ||| 0x80#8, f.tag, put8 a.result.code ++ a.data⟩
  a.state.setLink
    { a.state.link with
      tx := a.state.link.tx ++ [.reply reply a.resetFull]
      resetTaken := a.state.link.resetTaken || a.resetFull }

/-- Take the head frame of the receive buffer, if it may be taken and is of the wanted sort, have it carried out, and queue
its reply (R161). Where it may not be taken, nothing happens (log 1, log 2). -/
def serve (wanted : Frame → Bool) (carryOut : Frame → State → Answer) (s : State) : State :=
  match s.link.buffer with
  | [] => s
  | f :: rest =>
    if mayTake s ∧ wanted f then queueReply f (carryOut f (s.setLink { s.link with buffer := rest })) else s

/-- The request kinds (section 9.2, the table of requests). -/
def requestKinds : List Byte :=
  [0x01#8, 0x02#8, 0x10#8, 0x11#8, 0x12#8, 0x13#8, 0x14#8, 0x20#8, 0x21#8, 0x22#8, 0x23#8, 0x30#8, 0x31#8, 0x32#8,
    0x33#8, 0x34#8, 0x35#8, 0x36#8, 0x40#8, 0x41#8, 0x42#8, 0x43#8, 0x44#8, 0x45#8]

/-- Whether a frame carries a kind. -/
def isKind (k : Byte) (f : Frame) : Bool := decide (f.kind = k)

/-- Check the length of a request that is not a plan request (R162). -/
def withLen (n : Nat) (f : Frame) (s : State) (a : Answer) : Answer :=
  if f.payload.length = n then a else refuse .badLength s

/-- Check the length of a plan request (R162, R163). -/
def withPlanLen (n : Nat) (f : Frame) (s : State) (a : Answer) : Answer :=
  if f.payload.length = n then a else refusePlan .badLength s

/-! ## Resets -/

/-- The motion state of every block reset, the configuration, counters, fault record, event flags, time base, straps and
Link Port kept (R33, R37, R48, R57, R96, R141, R156, R165). -/
def motionReset (s : State) : State :=
  { s with
    feet := Quad.const Foot.reset
    att := Attitude.reset s.balCfg
    bal := Balance.reset s.geo s.surf s.balCfg
    plan := Planner.reset
    legs := Quad.const (LegSeq.reset s.geo)
    bus := Bus.reset s.geo
    sup :=
      { s.sup with
        riseSettle := none, supportLow := true, supportLost := none, pendingSettle := false, silenceInRise := false }
    link := { s.link with silence := none } }

/-- The whole part reset as at power-on, with the given straps; the command queue is no part of it (R154, R155; log 24). -/
def powerOnValues (linkRate : Nat) (imuFlip : Bool) (s : State) : State :=
  { State.reset with sup := Supervisor.reset linkRate imuFlip, pending := s.pending }

/-- RESET FULL: as at power-on, but the straps are not sampled again (R155). -/
def fullReset (s : State) : State := powerOnValues s.sup.linkRate s.sup.imuFlip s

end Sys2Proof.Machine
end

