-- ==== Sys2Proof/Machine/AttitudePort.lean ====
section
/-! DEFINITION. The commands of the Attitude Port (R34 to R43). -/

namespace Sys2Proof.Machine

/-- Intake: the flip, then the clamps (R36). -/
def intake (flip : Bool) (fx fy fz : Int) : Vec3 :=
  let x := if flip then -fx else fx
  let y := if flip then -fy else fy
  ⟨clampInt (-2000) 2000 x, clampInt (-2000) 2000 y, clampInt 400 3000 fz⟩

/-- ATTITUDE_READ_START: data-ready is asserted; a read begins if none is in progress (R34). -/
def attitudeReadStart (s : State) : State :=
  match s.att.reading with
  | none => s.setAtt { s.att with reading := some Config.readTimeoutMs }
  | some _ => s

/-- The meaning of ATTITUDE_READ_START. -/
def execAttitudeReadStart (s : State) : Host.Outcome State Fault Refusal := .next (attitudeReadStart s)

/-- An accepted sample: held, the stale flag cleared, which re-tests issue, the timers restarted, the evaluation triggered
(R35, R40, R76). -/
def acceptSample (v : Vec3) (s : State) : State :=
  let s1 := s.setAtt { s.att with sample := v, stale := false }
  let s2 := issue s1
  let s3 := s2.setAtt { s2.att with staleTimer := s2.balCfg.staleLimit, lostTimer := s2.balCfg.lostLimit }
  trigger s3

/-- ATTITUDE_READ_DONE: the read in progress ends; a clear validity flag discards it (R34, R35). -/
def attitudeReadDone (fx fy fz : Half) (valid : Bool) (s : State) : State :=
  match s.att.reading with
  | none => s
  | some _ =>
    let s1 := s.setAtt { s.att with reading := none }
    if valid then acceptSample (intake s.sup.imuFlip fx.toInt fy.toInt fz.toInt) s1 else s1

/-- The meaning of ATTITUDE_READ_DONE. -/
def execAttitudeReadDone (fx fy fz : Half) (valid : Bool) (s : State) : Host.Outcome State Fault Refusal :=
  .next (attitudeReadDone fx fy fz valid s)

/-- ATTITUDE_READ_TIMEOUT: the read in progress is abandoned (R34). -/
def attitudeReadTimeout (s : State) : State :=
  if ranOut s.att.reading then s.setAtt { s.att with reading := none } else s

/-- The meaning of ATTITUDE_READ_TIMEOUT. -/
def execAttitudeReadTimeout (s : State) : Host.Outcome State Fault Refusal := .next (attitudeReadTimeout s)

/-- The flag is set, a stale episode begun if it was clear, the timer restarted, the evaluation triggered (R38, R39). -/
def goStale (s : State) : State :=
  let s1 := s.setAtt { s.att with stale := true }
  let s2 := if s.att.stale then s1 else bump .attitudeStale (raise .sensorFault s1)
  trigger (s2.setAtt { s2.att with staleTimer := s2.balCfg.staleLimit })

/-- ATTITUDE_STALE_EXPIRY, which an accepted sample taken before it prevents by its restart of the timer (R38, R42). -/
def attitudeStaleExpiry (s : State) : State := if ranOut (some s.att.staleTimer) then goStale s else s

/-- The meaning of ATTITUDE_STALE_EXPIRY. -/
def execAttitudeStaleExpiry (s : State) : Host.Outcome State Fault Refusal := .next (attitudeStaleExpiry s)

/-- ATTITUDE_LOST: the timer restarts and ATTITUDE_LOST is reported (R41); an accepted sample taken before it prevents it by its
restart of the timer (R42). -/
def attitudeLost (s : State) : State :=
  if ranOut (some s.att.lostTimer) then
    reportFault .attitudeLost none (s.setAtt { s.att with lostTimer := s.balCfg.lostLimit })
  else s

/-- The meaning of ATTITUDE_LOST. -/
def execAttitudeLost (s : State) : Host.Outcome State Fault Refusal := .next (attitudeLost s)

end Sys2Proof.Machine
end

