-- ==== Sys2Proof/Machine/BalanceEngine.lean ====
section
/-! DEFINITION. The commands of the Balance Engine: the completion of an evaluation with its brace test, its arbiter and
its grants (R50, R61 to R63, R100, R113 to R117), and the pre-shift timeout (R117). -/

namespace Sys2Proof.Machine

/-- Whether a live margin is below the brace margin for its support count (R63). -/
def belowBrace (b : BalanceCfg) (fig : Figures) : Bool :=
  if 3 ≤ fig.count then decide (fig.margin < b.brace34)
  else if fig.count = 2 then decide (fig.margin < b.brace2)
  else true

/-- Replace the below count. -/
def setBelow (n : Nat) (s : State) : State := s.setBal { s.bal with below := n }

/-- The brace test at the completion of an evaluation (R62). -/
def braceTest (b : BalanceCfg) (fig : Figures) (s : State) : State :=
  if s.sup.mode = .standing ∧ planRuns s then
    if belowBrace b fig then
      if b.braceCount ≤ s.bal.below + 1 then setBelow 0 (requestBrace s) else setBelow (s.bal.below + 1) s
    else setBelow 0 s
  else setBelow 0 s

/-! ## Grants -/

/-- The data of a step granted to a leg now (R100). -/
def stepDataFor (l : Leg) (r : PlanRecord) (c : SurfaceClass) (s : State) : StepData :=
  let origin := bodyPos s l
  { origin := origin
    originClass := (s.feet.get l).cls
    target := origin.add r.disp
    liftLevel := origin.z + (s.surf.get c).lift
    reachDepth := (s.surf.get c).reachDepth
    targetClass := c }

/-- Whether any of the three setpoints of a step is a clamped target (R100). -/
def stepClamped (g : Geometry) (l : Leg) (d : StepData) : Bool :=
  isClamped g l (atLevel d.origin d.liftLevel) || isClamped g l (atLevel d.target d.liftLevel)
    || isClamped g l (atLevel d.target (d.target.z - d.reachDepth))

/-- Whether the grant of a leg marks its record CLAMPED: the target the leg receives, the lifted position above it, the descent
toward it, or the lift from the origin is a clamped target (R10, R100). -/
def grantMarks (g : Geometry) (l : Leg) (d : StepData) : Bool := isClamped g l d.target || stepClamped g l d

/-- A granted leg records its origin, forms its step and enters LIFT (R100). The leg CLAMPED mark follows the three setpoints
alone, the record's mark the target too (R10; log 37). -/
def grantLeg (r : PlanRecord) (l : Leg) (s : State) : State :=
  match r.cls with
  | none => s
  | some c =>
    let d := stepDataFor l r c s
        let s1 := modLeg l (fun q =>
      { q with step := some d, clamped := stepClamped s.geo l d, motion := some .step, record := some r.id }) s
    let s2 := if grantMarks s.geo l d then markRecord r.id s1 else s1

    let s3 := startPhase l .lift s.gait.liftTimeout s2
    phaseChanged (sendSetpoint l (atLevel d.origin d.liftLevel) s.gait.liftSpeed s3)

/-- Remove the head of the grant queue. -/
def dropRequest (s : State) : State := s.setBal { s.bal with queue := s.bal.queue.tail }

/-- Grant the head request: it leaves the queue, its record becomes GRANTED, its legs begin their steps (R75, R113). -/
def grant (q : SwingRequest) (s : State) : State :=
  let s1 := modWindow q.id (fun w => { w with cond := .granted }) (dropRequest s)
  match findWindow q.id s1 with
  | none => s1
  | some w => forLegs (grantLeg w.body) q.legs s1

/-- Order a pre-shift for the head request: attempts and counts, shifted setpoints for every leg in STANCE, the timer
(R117). -/
def orderPreshift (q : SwingRequest) (o : Int × Int) (s : State) : State :=
  let legs := legsInOrder.filter fun l => decide ((s.legs.get l).phase = .stance)
  let s1 := s.setBal
    { s.bal with queue := s.bal.queue.map fun r => if r.id = q.id then { r with attempts := r.attempts + 1 } else r }
  let s2 := bump .preshifts
    (modWindow q.id (fun w => { w with body := { w.body with preshifts := w.body.preshifts + 1 } }) s1)
  let s3 := forLegs (sendShifted ⟨-o.1, -o.2, 0⟩) legs s2
  s3.setBal { s3.bal with preshift := some ⟨q.id, o.1, o.2, legs, shiftTime s3 legs⟩ }

/-- A head that fails on margin: a pre-shift while attempts are left and it is allowed and long enough, else withdrawn as
unstable (R115, R116). -/
def failsOnMargin (e : EvalInputs) (set : List Leg) (q : SwingRequest) (s : State) : State :=
  let o := aimOffset e set
  if q.attempts < s.gait.attempts ∧ q.noPreshift = false ∧ (Config.preshiftMin : Int) ≤ lengthXY o.1 o.2 then
    orderPreshift q (limitOffset s.gait.maxPreshift o) s
  else completeRecord q.id .unstable (dropRequest s)

/-- The arbiter considers the requests the evaluation read, from the head on, while it grants them (R60, R113 to R115). -/
def arbiter (e : EvalInputs) : List SwingRequest → List Leg → State → State
  | [], _, s => s
  | r :: rest, granted, s =>
    match s.bal.queue with
    | [] => s
    | q :: _ =>
      if q.id = r.id then
        if Config.airborneMax < airborneCount e granted q.legs ∨ (predictedSet e granted q.legs).length < 2 then s
        else if passesOnMargin e granted q.legs then arbiter e rest (granted ++ q.legs) (grant q s)
        else failsOnMargin e (predictedSet e granted q.legs) q s
      else s

/-- The predicted figures go to the arbiter in STANDING, with the plan running, no brace outstanding and no pre-shift
running (R61, R113). -/
def considerGrants (e : EvalInputs) (s : State) : State :=
  if s.sup.mode = .standing ∧ planRuns s ∧ s.bal.braceOut = false ∧ s.bal.preshift = none then
    arbiter e e.requests [] s
  else s

/-- The next evaluation begins if a trigger was taken meanwhile (R48). -/
def nextEvaluation (s : State) : State :=
  if s.bal.evalPending then startEvaluation (s.setBal { s.bal with evalPending := false }) else s

/-- EVALUATION_COMPLETE: the held figures, the brace test, the arbiter, then the next evaluation (R48, R50). -/
def evaluationComplete (s : State) : State :=
  match s.bal.eval with
  | none => s
  | some e =>
    let fig := figuresOf e
    let s1 := s.setBal { s.bal with held := fig, eval := none }
    nextEvaluation (considerGrants e (braceTest e.balCfg fig s1))

/-- The meaning of EVALUATION_COMPLETE. -/
def execEvaluationComplete (s : State) : Host.Outcome State Fault Refusal := .next (evaluationComplete s)

/-- PRESHIFT_TIMEOUT: the commanded legs are held and the pre-shift ends (R117). -/
def preshiftTimeout (s : State) : State :=
  match s.bal.preshift with
  | none => s
  | some p =>
    if ranOut (some p.timer) then
      let s1 := holdLegs p.legs s
      s1.setBal { s1.bal with preshift := none }
    else s

/-- The meaning of PRESHIFT_TIMEOUT. -/
def execPreshiftTimeout (s : State) : Host.Outcome State Fault Refusal := .next (preshiftTimeout s)

end Sys2Proof.Machine
end

