-- ==== Sys2Proof/Machine/ConfigRequests.lean ====
section
/-! DEFINITION. The configuration requests: SET_GEOMETRY, SET_SURFACE, SET_BALANCE, SET_GAIT, SET_SUPERVISION. -/

namespace Sys2Proof.Machine

/-- SET_GEOMETRY (R7). -/
def answerSetGeometry (f : Frame) (s : State) : Answer :=
  withLen 30 f s <|
    if s.sup.mode = .parked then
      match decodeGeometry f.payload with
      | none => refuse .badValue s
      | some g => okWith [] (s.setGeo g)
    else refuse .wrongMode s

/-- The meaning of SET_GEOMETRY. -/
def execSetGeometry (s : State) : Host.Outcome State Fault Refusal := .next (serve (isKind 0x10#8) answerSetGeometry s)

/-- SET_SURFACE (R12). -/
def answerSetSurface (f : Frame) (s : State) : Answer :=
  withLen 17 f s <|
    if s.sup.mode = .parked then
      match decodeSurface f.payload with
      | none => refuse .badValue s
      | some (c, r) => okWith [] (s.setSurf (s.surf.set c r))
    else refuse .wrongMode s

/-- The meaning of SET_SURFACE. -/
def execSetSurface (s : State) : Host.Outcome State Fault Refusal := .next (serve (isKind 0x11#8) answerSetSurface s)

/-- SET_BALANCE (R68). -/
def answerSetBalance (f : Frame) (s : State) : Answer :=
  withLen 14 f s <|
    if s.sup.mode = .parked then
      match decodeBalanceCfg f.payload with
      | none => refuse .badValue s
      | some b => okWith [] (s.setBalCfg b)
    else refuse .wrongMode s

/-- The meaning of SET_BALANCE. -/
def execSetBalance (s : State) : Host.Outcome State Fault Refusal := .next (serve (isKind 0x12#8) answerSetBalance s)

/-- SET_GAIT (R124). -/
def answerSetGait (f : Frame) (s : State) : Answer :=
  withLen 26 f s <|
    if s.sup.mode = .parked then
      match decodeGaitCfg f.payload with
      | none => refuse .badValue s
      | some g => okWith [] (s.setGait g)
    else refuse .wrongMode s

/-- The meaning of SET_GAIT. -/
def execSetGait (s : State) : Host.Outcome State Fault Refusal := .next (serve (isKind 0x13#8) answerSetGait s)

/-- The limit and the policy replaced together, the latch set by SETTLE, and the silence timer restarted, or stopped by a
limit of 0 (R151, R152). -/
def takeSupervision (limit : Nat) (p : Policy) (s : State) : State :=
  let s1 := s.setSup
    { s.sup with silenceLimit := limit, policy := p, latch := s.sup.latch || decide (p = .settle) }
  if limit = 0 then stopSilence s1 else restartSilence s1

/-- SET_SUPERVISION (R151). -/
def answerSetSupervision (f : Frame) (s : State) : Answer :=
  withLen 3 f s <|
    match decodeSupervision s.sup.latch f.payload with
    | none => refuse .badValue s
    | some (limit, p) => okWith [] (takeSupervision limit p s)

/-- The meaning of SET_SUPERVISION. -/
def execSetSupervision (s : State) : Host.Outcome State Fault Refusal :=
  .next (serve (isKind 0x14#8) answerSetSupervision s)

end Sys2Proof.Machine
end

