-- ==== Sys2Proof/Machine/DriveBus.lean ====
section
/-! DEFINITION. The commands of the Drive Bus Controller (R126 to R140), and what an accepted reply completes: a pre-shift
(R117), a SHIFT (R120), a rise (R144), a settle (R146). -/

namespace Sys2Proof.Machine

/-- Replace what the line is doing. -/
def setLine (b : BusLine) (s : State) : State := s.setBus { s.bus with line := b }

/-- DRIVE_TRANSACTION_SEND: on a free bus the head entry becomes the transaction in flight and its request is sent
(R131). -/
def driveTransactionSend (s : State) : State :=
  match s.bus.line, s.bus.queue with
  | .idle, t :: rest => s.setBus { s.bus with queue := rest, line := .sending t (requestFrame t) }
  | _, _ => s

/-- The meaning of DRIVE_TRANSACTION_SEND. -/
def execDriveTransactionSend (s : State) : Host.Outcome State Fault Refusal := .next (driveTransactionSend s)

/-- DRIVE_REQUEST_SENT: the reply window opens and the reply timer starts (R126). -/
def driveRequestSent (s : State) : State :=
  match s.bus.line with
  | .sending t _ => setLine (.window t Config.replyUs []) s
  | .idle => s
  | .window _ _ _ => s
  | .guard _ => s

/-- The meaning of DRIVE_REQUEST_SENT. -/
def execDriveRequestSent (s : State) : Host.Outcome State Fault Refusal := .next (driveRequestSent s)

/-! ## A transaction that fails -/

/-- The consecutive-timeout count rises, to 3 at most; the rise from 2 to 3 makes the drive LOST, which is raised and
reported (R137, R138). -/
def countFailure (l : Leg) (s : State) : State :=
  let n := (s.bus.drives.get l).timeouts
  if Config.lostCount ≤ n then s
  else
    let s1 := modDrive l (fun d => { d with timeouts := n + 1 }) s
    if n + 1 = Config.lostCount then reportFault .driveLost (some l) (raise .driveFault s1) else s1

/-- A SETPOINT that failed is queued again, unless a newer one waits or the mode is PARKED (R136). -/
def resend (t : Txn) (s : State) : State :=
  if t.isSetpoint ∧ ¬ s.bus.queue.any (Txn.isSetpointFor t.leg) ∧ s.sup.mode ≠ .parked then
    s.setBus { s.bus with queue := s.bus.queue ++ [t] }
  else s

/-- What a TIMEOUT and a bad reply share: the count, the resend, the guard (R133, R134). DESIGN CHOICE: in the order R133 lists them, so
that the HOLD setpoints of a DRIVE_LOST are queued before the failed SETPOINT is looked at (log 41). -/
def closeFailed (t : Txn) (s : State) : State :=
  setLine (.guard Config.guardUs) (resend t (countFailure t.leg s))

/-- DRIVE_REPLY_TIMEOUT: the transaction closes as TIMEOUT (R133). -/
def driveReplyTimeout (s : State) : State :=
  match s.bus.line with
  | .window t _ _ => closeFailed t (bump .driveTimeouts s)
  | .idle => s
  | .sending _ _ => s
  | .guard _ => s

/-- The meaning of DRIVE_REPLY_TIMEOUT. -/
def execDriveReplyTimeout (s : State) : Host.Outcome State Fault Refusal := .next (driveReplyTimeout s)

/-! ## A good reply -/

/-- A running pre-shift completes when every commanded leg has its reached flag set (R117). -/
def preshiftTest (s : State) : State :=
  match s.bal.preshift with
  | none => s
  | some p =>
    if p.legs.all fun l => (s.legs.get l).reached then s.setBal { s.bal with preshift := none } else s

/-- A RUNNING SHIFT completes when all four legs have their reached flags set; an AT_LIMIT arrival marks it (R120,
R122). -/
def shiftTest (s : State) : State :=
  match s.plan.window.find? fun w => decide (w.cond = .running) with
  | none => s
  | some w =>
    if s.legs.all LegSeq.reached then
      let s1 := s.setLegs (s.legs.map fun q => if q.limitReached then { q with clamped := true } else q)
      let s2 := if s.legs.any LegSeq.limitReached then markRecord w.body.id s1 else s1
      completeRecord w.body.id .ok s2
    else s

/-- The drive state test: FAULT after another state, or after no reply, is raised and reported (R139). -/
def driveStateTest (l : Leg) (before : Option LastReply) (now : DriveState) (s : State) : State :=
  let was := match before with | none => false | some r => decide (r.state = .fault)
  if now = .fault ∧ was = false then reportFault .driveFault (some l) (raise .driveFault s) else s

/-- A good reply closes the transaction (R132). DESIGN CHOICE: what it completes is tested after the sequencer has taken it
and before the drive state test (log 8). -/
def goodReply (l : Leg) (pos : Vec3) (st : DriveState) (flag : Bool) (s : State) : State :=
  let before := (s.bus.drives.get l).last
  let s1 := setLine .idle
    (modDrive l (fun d => { d with pos := pos, last := some ⟨st, flag⟩, timeouts := 0, poll := Config.pollMs }) s)
  let s2 := shiftTest (preshiftTest (seqReply l pos st flag s1))
  driveStateTest l before st (settleCompleteTest (riseTest s2))

/-- A bad reply (R134). -/
def badReply (t : Txn) (s : State) : State := closeFailed t (bump .driveCrcErrors s)

/-- One byte received: outside a reply window it is discarded; in one it is collected, and the twelfth makes a reply, which
is judged (R127, R135, R180). -/
def busByte (b : Byte) (s : State) : State :=
  match s.bus.line with
  | .window t timer got =>
    let bs := got ++ [b]
    if bs.length < Config.replyBytes then setLine (.window t timer bs) s
    else
      match judgeReply t bs with
      | .bad => badReply t s
      | .stray => setLine (.window t timer []) s
      | .good pos st flag => goodReply t.leg pos st flag s
  | .idle => s
  | .sending _ _ => s
  | .guard _ => s

/-- DRIVE_REPLY: the bytes are received in order (R127; log 13). -/
def driveReply : List Byte → State → State
  | [], s => s
  | b :: rest, s => driveReply rest (busByte b s)

/-- The meaning of DRIVE_REPLY. -/
def execDriveReply (bytes : List Byte) (s : State) : Host.Outcome State Fault Refusal := .next (driveReply bytes s)

/-- GUARD_END: the bus becomes free (R131). -/
def guardEnd (s : State) : State :=
  match s.bus.line with
  | .guard _ => setLine .idle s
  | .idle => s
  | .sending _ _ => s
  | .window _ _ _ => s

/-- The meaning of GUARD_END. -/
def execGuardEnd (s : State) : Host.Outcome State Fault Refusal := .next (guardEnd s)

/-- Whether a transaction for a drive is in flight (R128). -/
def inFlightFor (l : Leg) (b : BusLine) : Bool :=
  match b with
  | .sending t _ => decide (t.leg = l)
  | .window t _ _ => decide (t.leg = l)
  | .idle => false
  | .guard _ => false

/-- The poll timer restarts, and a POLL is queued unless a transaction for the drive is queued or in flight (R130). -/
def pollDrive (l : Leg) (s : State) : State :=
  let s1 := modDrive l (fun d => { d with poll := Config.pollMs }) s
  if s.bus.queue.any (fun t => decide (t.leg = l)) || inFlightFor l s.bus.line then s1
  else s1.setBus { s1.bus with queue := s1.bus.queue ++ [⟨l, .poll⟩] }

/-- POLL_TIMER_EXPIRY (R130). -/
def pollTimerExpiry (l : Leg) (s : State) : State := if ranOut (some (s.bus.drives.get l).poll) then pollDrive l s else s

/-- The meaning of POLL_TIMER_EXPIRY. -/
def execPollTimerExpiry (leg : Leg) (s : State) : Host.Outcome State Fault Refusal := .next (pollTimerExpiry leg s)

end Sys2Proof.Machine
end

