-- ==== Sys2Proof/Machine/Feet.lean ====
section
/-! DEFINITION. The commands of the Contact Monitor: the load measurement and its classification (R16 to R19), the contact
state machine (R20 to R25), slip (R26 to R28), two feet in FAULT (R31). -/

namespace Sys2Proof.Machine

/-- How a completed period is classified (R18). -/
inductive LoadSample where
  | badPeriod
  | openCircuit
  | short
  | valid (load : Nat)
deriving DecidableEq, Repr

/-- The duty in permille (R18). -/
def dutyOf (high period : Nat) : Nat := high * 1000 / period

/-- The load of a valid duty (R18). -/
def loadOf (duty : Nat) : Nat := (clampInt 0 1600 (((duty : Int) - 100) * 2)).toNat

/-- Classify a completed period (R18). -/
def classify (high period : Nat) : LoadSample :=
  if period < Config.periodMinUs ∨ Config.periodMaxUs < period then .badPeriod
  else if dutyOf high period < Config.dutyMin then .openCircuit
  else if Config.dutyMax < dutyOf high period then .short
  else .valid (loadOf (dutyOf high period))

/-- A valid sample judged from AIR (R20). -/
def judgeAir (r : ClassRecord) (load : Nat) (f : Foot) : Foot :=
  if r.touch ≤ load then { f with contact := .touch, qualify := if r.threshold ≤ load then 1 else 0 } else f

/-- A valid sample judged from TOUCH (R21). -/
def judgeTouch (r : ClassRecord) (load : Nat) (f : Foot) : Foot :=
  if load < r.touch then { f with contact := .air, qualify := 0 }
  else if load < r.threshold then { f with qualify := 0 }
  else if 3 ≤ f.qualify + 1 then { f with contact := .loaded, qualify := 0, slip := 0 }
  else { f with qualify := f.qualify + 1 }

/-- A valid sample judged by the contact state machine (R20 to R23, R25). -/
def judgeSample (r : ClassRecord) (load : Nat) (f : Foot) : Foot :=
  match f.contact with
  | .air => judgeAir r load f
  | .touch => judgeTouch r load f
  | .loaded => if load < r.release then { f with contact := .touch, qualify := 0, slip := 0 } else f
  | .slipping => if load < r.touch then { f with contact := .air } else f
  | .fault => judgeAir r load { f with contact := .air, qualify := 0, slip := 0 }

/-- The class record a foot is judged by (R13, R15). -/
def recordInForce (s : State) (l : Leg) : ClassRecord := s.surf.get (s.feet.get l).cls

/-- Feet in FAULT (R31). -/
def feetInFault (s : State) : Nat := (legsInOrder.filter fun l => decide ((s.feet.get l).contact = .fault)).length

/-- A fault entry, its LOAD_SENSOR test and its contact change report (R24, R29, R31). DESIGN CHOICE: the LOAD_SENSOR report, with
the SAFE_HOLD entry it may cause, acts before the entry's own contact change report (log 35). -/
def faultEntry (l : Leg) (s : State) : State :=
  let s1 := modFoot l (fun f => { f with contact := .fault, qualify := 0, slip := 0 }) s
  let s2 := raise .sensorFault (bump .loadSensorFaults s1)
  let s3 := if 2 ≤ feetInFault s2 then reportFault .loadSensor (some l) s2 else s2
  contactReport l .fault s3

/-- An invalid sample or a STALE judgement: the last load 0, and a fault entry unless the foot is in FAULT (R19, R24). -/
def takeInvalid (l : Leg) (s : State) : State :=
  let s1 := modFoot l (fun f => { f with lastLoad := 0 }) s
  if (s.feet.get l).contact = .fault then s1 else faultEntry l s1

/-- A valid sample: the last load, the judgement, and a report if the contact state has changed (R19, R29). -/
def takeValid (l : Leg) (load : Nat) (s : State) : State :=
  let f := s.feet.get l
  let g := judgeSample (recordInForce s l) load { f with lastLoad := load }
  let s1 := modFoot l (fun _ => g) s
  if g.contact = f.contact then s1 else contactReport l g.contact s1

/-- A classified sample acts on its foot (R18). -/
def takeSample (l : Leg) (c : LoadSample) (s : State) : State :=
  match c with
  | .valid load => takeValid l load s
  | .badPeriod => takeInvalid l s
  | .openCircuit => takeInvalid l s
  | .short => takeInvalid l s

/-- LOAD_SAMPLE: a rising edge begins a measurement; it completes the one in progress, if any, restarts the stale timer
and takes its sample, with the high time the whole period if no falling edge was seen (R16, R17). -/
def loadSample (l : Leg) (period : Nat) (s : State) : State :=
  match (s.feet.get l).measurement with
  | .waiting => modFoot l (fun f => { f with measurement := .measuring none }) s
  | .measuring high =>
    let s1 := modFoot l
      (fun f => { f with measurement := .measuring none, stale := some Config.loadStaleMs }) s
    takeSample l (classify (high.getD period) period) s1

/-- The meaning of LOAD_SAMPLE. -/
def execLoadSample (foot : Leg) (period : Nat) (s : State) : Host.Outcome State Fault Refusal :=
  .next (loadSample foot period s)

/-- LOAD_FALLING_EDGE: the falling edge that follows the rising edge marks the end of the high time (R16). -/
def loadFallingEdge (l : Leg) (high : Nat) (s : State) : State :=
  match (s.feet.get l).measurement with
  | .measuring none => modFoot l (fun f => { f with measurement := .measuring (some high) }) s
  | .measuring (some _) => s
  | .waiting => s

/-- The meaning of LOAD_FALLING_EDGE. -/
def execLoadFallingEdge (foot : Leg) (high : Nat) (s : State) : Host.Outcome State Fault Refusal :=
  .next (loadFallingEdge foot high s)

/-- LOAD_STALE: the timer stops, the measurement is abandoned, and the STALE judgement acts as an invalid sample (R17). -/
def loadStale (l : Leg) (s : State) : State :=
  if ranOut (s.feet.get l).stale then
    takeInvalid l (modFoot l (fun f => { f with stale := none, measurement := .waiting }) s)
  else s

/-- The meaning of LOAD_STALE. -/
def execLoadStale (foot : Leg) (s : State) : Host.Outcome State Fault Refusal := .next (loadStale foot s)

/-- SLIP_PULSE: counted while LOADED; a count above twice the slip limit takes the foot to SLIPPING (R26). -/
def slipPulse (l : Leg) (s : State) : State :=
  let f := s.feet.get l
  if f.contact = .loaded then
    if 2 * (recordInForce s l).slipLimit < f.slip + 1 then
      let s1 := modFoot l (fun g => { g with contact := .slipping, slip := g.slip + 1 }) s
      contactReport l .slipping (bump .slips (raise .slip s1))
    else modFoot l (fun g => { g with slip := g.slip + 1 }) s
  else s

/-- The meaning of SLIP_PULSE. -/
def execSlipPulse (foot : Leg) (s : State) : Host.Outcome State Fault Refusal := .next (slipPulse foot s)

end Sys2Proof.Machine
end

