-- ==== Sys2Proof/Machine/LegSequencer.lean ====
section
/-! DEFINITION. The command of the Leg Sequencers: the phase timer's expiry. -/

namespace Sys2Proof.Machine

/-- PHASE_TIMER_EXPIRY (R101 to R103, R107, R108). -/
def phaseTimerExpiry (l : Leg) (s : State) : State := if ranOut (s.legs.get l).timer then timerRunsOut l s else s

/-- The meaning of PHASE_TIMER_EXPIRY. -/
def execPhaseTimerExpiry (leg : Leg) (s : State) : Host.Outcome State Fault Refusal := .next (phaseTimerExpiry leg s)

end Sys2Proof.Machine
end

