-- ==== Sys2Proof/Machine/Link.lean ====
section
/-! DEFINITION. The commands of the Link Port: the receiver, the transmitter, PING, STATUS and the unknown kind. -/

namespace Sys2Proof.Machine

/-- LINK_BYTE: while hunting a byte with a stop-bit error is dropped; while assembling it discards the frame; any other
byte is taken (R158, R159). -/
def linkByte (byte : Byte) (stopError : Bool) (s : State) : State :=
  if stopError then if s.link.held.isEmpty then s else discardAndGoBack s
  else receive (s.link.held ++ [byte]) 0 s

/-- The meaning of LINK_BYTE. -/
def execLinkByte (byte : Byte) (stopError : Bool) (s : State) : Host.Outcome State Fault Refusal :=
  .next (linkByte byte stopError s)

/-- GAP_TIMER_EXPIRY: the frame being assembled is discarded (R159). -/
def gapTimerExpiry (s : State) : State := if ranOut s.link.gap then discardAndGoBack s else s

/-- The meaning of GAP_TIMER_EXPIRY. -/
def execGapTimerExpiry (s : State) : Host.Outcome State Fault Refusal := .next (gapTimerExpiry s)

/-- REQUEST_UNKNOWN_KIND is answered UNKNOWN_KIND (R162). -/
def answerUnknownKind (_ : Frame) (s : State) : Answer := refuse .unknownKind s

/-- The meaning of REQUEST_UNKNOWN_KIND. -/
def execRequestUnknownKind (s : State) : Host.Outcome State Fault Refusal :=
  .next (serve (fun f => !(requestKinds.contains f.kind)) answerUnknownKind s)

/-- PING (R166). -/
def answerPing (f : Frame) (s : State) : Answer := withLen 0 f s (okWith (modePlanTime s) s)

/-- The meaning of PING. -/
def execPing (s : State) : Host.Outcome State Fault Refusal := .next (serve (isKind 0x01#8) answerPing s)

/-- STATUS (R167). -/
def answerStatus (f : Frame) (s : State) : Answer := withLen 0 f s (okWith (statusFields s) s)

/-- The meaning of STATUS. -/
def execStatus (s : State) : Host.Outcome State Fault Refusal := .next (serve (isKind 0x02#8) answerStatus s)

/-- FRAME_SEND_START: the idle transmitter removes the head frame and begins to send it; a notice's content is fixed now,
or it is removed unsent (R164). DESIGN CHOICE: whether a notice has anything to report is tested here and at no earlier moment, so a
notice that stands at the head while another frame is being sent stays there (log 34). -/
def frameSendStart (s : State) : State :=
  match s.link.sending, s.link.tx with
  | none, .reply f full :: rest =>
    s.setLink { s.link with tx := rest, sending := some ⟨linkFrameBytes f, full⟩ }
  | none, .notice :: rest =>
    if pendingUnmasked s = 0 then s.setLink { s.link with tx := rest }
    else s.setLink { s.link with tx := rest, sending := some ⟨linkFrameBytes (noticeFrame s), false⟩ }
  | none, [] => s
  | some _, _ => s

/-- The meaning of FRAME_SEND_START. -/
def execFrameSendStart (s : State) : Host.Outcome State Fault Refusal := .next (frameSendStart s)

/-- FRAME_SEND_END: the transmitter is free; the end of RESET FULL's reply resets the part (R155, R164). -/
def frameSendEnd (s : State) : State :=
  match s.link.sending with
  | none => s
  | some f => if f.resetFull then fullReset s else s.setLink { s.link with sending := none }

/-- The meaning of FRAME_SEND_END. -/
def execFrameSendEnd (s : State) : Host.Outcome State Fault Refusal := .next (frameSendEnd s)

end Sys2Proof.Machine
end

