-- ==== Sys2Proof/Machine/Report.lean ====
section
/-! DEFINITION. The requests on the Event Unit: EVENT_MASK, EVENT_ACK, FAULT_READ, FAULT_CLEAR, COUNTERS_READ,
COUNTERS_READ_CLEAR. -/

namespace Sys2Proof.Machine

/-- EVENT_MASK replaces the mask; a kind it unmasks while pending requests a notice (R169, R170). -/
def replaceMask (m : EventSet) (s : State) : State :=
  let unmasked := s.ev.mask &&& ~~~m &&& s.ev.pending
  let s1 := s.setEv { s.ev with mask := m }
  if unmasked = 0 then s1 else requestNotice s1

/-- EVENT_MASK (R170). -/
def answerEventMask (f : Frame) (s : State) : Answer :=
  withLen 2 f s <|
    match decodeEventSet f.payload with
    | none => refuse .badValue s
    | some m =>
      let s1 := replaceMask m s
      okWith (eventSetBytes s1.ev.mask ++ eventSetBytes s1.ev.pending) s1

/-- The meaning of EVENT_MASK. -/
def execEventMask (s : State) : Host.Outcome State Fault Refusal := .next (serve (isKind 0x40#8) answerEventMask s)

/-- EVENT_ACK (R171). -/
def answerEventAck (f : Frame) (s : State) : Answer :=
  withLen 2 f s <|
    match decodeEventSet f.payload with
    | none => refuse .badValue s
    | some m =>
      let s1 := s.setEv { s.ev with pending := s.ev.pending &&& ~~~m }
      okWith (eventSetBytes s1.ev.pending) s1

/-- The meaning of EVENT_ACK. -/
def execEventAck (s : State) : Host.Outcome State Fault Refusal := .next (serve (isKind 0x41#8) answerEventAck s)

/-- FAULT_READ (R173). -/
def answerFaultRead (f : Frame) (s : State) : Answer := withLen 0 f s (okWith (faultBlock s) s)

/-- The meaning of FAULT_READ. -/
def execFaultRead (s : State) : Host.Outcome State Fault Refusal := .next (serve (isKind 0x42#8) answerFaultRead s)

/-- FAULT_CLEAR: the reply carries what it cleared (R173). -/
def answerFaultClear (f : Frame) (s : State) : Answer :=
  withLen 0 f s (okWith (faultBlock s) (s.setEv { s.ev with fault := none, overflow := false }))

/-- The meaning of FAULT_CLEAR. -/
def execFaultClear (s : State) : Host.Outcome State Fault Refusal := .next (serve (isKind 0x43#8) answerFaultClear s)

/-- COUNTERS_READ (R175). -/
def answerCountersRead (f : Frame) (s : State) : Answer := withLen 0 f s (okWith (counterBlock s.ev.counters) s)

/-- The meaning of COUNTERS_READ. -/
def execCountersRead (s : State) : Host.Outcome State Fault Refusal :=
  .next (serve (isKind 0x44#8) answerCountersRead s)

/-- COUNTERS_READ_CLEAR: read and set to 0 at the same moment (R175). -/
def answerCountersReadClear (f : Frame) (s : State) : Answer :=
  withLen 0 f s (okWith (counterBlock s.ev.counters) (s.setEv { s.ev with counters := Counters.zero }))

/-- The meaning of COUNTERS_READ_CLEAR. -/
def execCountersReadClear (s : State) : Host.Outcome State Fault Refusal :=
  .next (serve (isKind 0x45#8) answerCountersReadClear s)

end Sys2Proof.Machine
end

