-- ==== Sys2Proof/Machine/StepPlanner.lean ====
section
/-! DEFINITION. The commands of the Step Planner: the plan requests (R70 to R91), the brace (R92, R93), the shift timeout
(R120). -/

namespace Sys2Proof.Machine

/-- The legs of a braced record that have not reported an outcome. -/
def unreported (w : WindowRecord) : List Leg := w.body.legs.filter fun l => !(w.hasReported l)

/-- Complete the GRANTED and RUNNING records of a list BRACED: legs sent straight down, a SHIFT's legs held (R92).
DESIGN CHOICE: of two records that one brace completes, the log entries and the straight-down SETPOINTs of their legs come in
window order (log 36). -/
def braceRecords : List WindowRecord → State → State
  | [], s => s
  | w :: rest, s =>
    braceRecords rest
      (match w.cond with
       | .waiting => s
       | .granted => forLegs descend (unreported w) (finishRecord w (bracedStatus w) s)
       | .running => holdLegs legsInOrder (finishRecord w .braced s))

/-- A brace taken while the plan runs (R92). The settle and issue tests are made when it is done (log 9). DESIGN CHOICE: a below
count raised since the request is left as it is, for the next completed evaluation to clear (log 40). -/
def takeBrace (s : State) : State :=
  let s1 := withdrawWaiting (braceRecords s.plan.window (setPlanState .braced s))
  phaseChanged (bump .braces (raise .brace s1))

/-- BRACE_TAKEN: the brace-outstanding flag is cleared; the brace acts in ACTIVE and DRAINING and is discarded otherwise
(R65, R92, R93). -/
def braceTaken (s : State) : State :=
  if s.bal.braceOut then
    let s1 := s.setBal { s.bal with braceOut := false }
    if planRuns s then takeBrace s1 else issue s1
  else s

/-- The meaning of BRACE_TAKEN. -/
def execBraceTaken (s : State) : Host.Outcome State Fault Refusal := .next (braceTaken s)

/-- SHIFT_TIMEOUT: every leg is held and the RUNNING SHIFT completes STALLED (R120; log 9). -/
def shiftTimeout (s : State) : State :=
  if ranOut s.plan.shiftTimer then
    let s1 := s.setPlan { s.plan with shiftTimer := none }
    match s1.plan.window.find? fun w => decide (w.cond = .running) with
    | none => s1
    | some w => completeRecord w.body.id .stalled (holdLegs legsInOrder s1)
  else s

/-- The meaning of SHIFT_TIMEOUT. -/
def execShiftTimeout (s : State) : Host.Outcome State Fault Refusal := .next (shiftTimeout s)

/-! ## Requests -/

/-- The ids in the plan list and the issue window (R73). -/
def idsInPlan (s : State) : List Nat := s.plan.list.map PlanRecord.id ++ s.plan.window.map fun w => w.body.id

/-- Whether a record's id repeats one in the plan or in the same request (R73). -/
def hasDuplicate (s : State) (rs : List PlanRecord) : Bool :=
  decide (¬ (rs.map PlanRecord.id).Nodup) || rs.any fun r => (idsInPlan s).contains r.id

/-- An accepted append: the records join the tail, and an append to an empty list re-tests issue (R74, R76). -/
def appendRecords (rs : List PlanRecord) (s : State) : State :=
  let s1 := s.setPlan { s.plan with list := s.plan.list ++ rs }
  if s.plan.list.isEmpty then issue s1 else s1

/-- PLAN_APPEND (R70, R74). -/
def answerPlanAppend (f : Frame) (s : State) : Answer :=
  let n := f.payload.length / 12
  if f.payload.length % 12 = 0 ∧ 1 ≤ n ∧ n ≤ 4 then
    if s.sup.mode = .safeHold then refusePlan .wrongMode s
    else
      match decodeRecords n f.payload with
      | none => refusePlan .badValue s
      | some rs =>
        if hasDuplicate s rs then refusePlan .dupId s
        else if Config.planRoom < s.plan.list.length + s.plan.window.length + rs.length then refusePlan .planFull s
        else okPlan [] (appendRecords rs s)
  else refusePlan .badLength s

/-- The meaning of PLAN_APPEND. -/
def execPlanAppend (s : State) : Host.Outcome State Fault Refusal := .next (serve (isKind 0x30#8) answerPlanAppend s)

/-- The plan goes to ACTIVE: issue begins, and it goes on to IDLE if nothing is left (R83, R84, R89). -/
def activate (s : State) : State := idleIfEmpty (issue (setPlanState .active s))

/-- PLAN_START (R82, R83). -/
def answerPlanStart (f : Frame) (s : State) : Answer :=
  withPlanLen 0 f s <|
    if s.sup.mode = .standing then
      if s.plan.state = .idle then okPlan [] (activate s) else refusePlan .wrongState s
    else refusePlan .wrongMode s

/-- The meaning of PLAN_START. -/
def execPlanStart (s : State) : Host.Outcome State Fault Refusal := .next (serve (isKind 0x31#8) answerPlanStart s)

/-- PLAN_SUSPEND (R88). -/
def answerPlanSuspend (f : Frame) (s : State) : Answer := withPlanLen 0 f s (okPlan [] (drain s))

/-- The meaning of PLAN_SUSPEND. -/
def execPlanSuspend (s : State) : Host.Outcome State Fault Refusal :=
  .next (serve (isKind 0x32#8) answerPlanSuspend s)

/-- The three conditions on resuming a BRACED plan (R89). -/
def braceSettled (s : State) : Bool :=
  (s.legs.all fun q => decide (q.phase = .stance)) && (s.feet.all fun f => decide (f.contact = .loaded))
    && decide (s.bal.held.required ≤ s.bal.held.margin)

/-- PLAN_RESUME (R82, R89). -/
def answerPlanResume (f : Frame) (s : State) : Answer :=
  withPlanLen 0 f s <|
    if s.sup.mode = .standing then
      match s.plan.state with
      | .draining => okPlan [] (activate s)
      | .suspended => okPlan [] (activate s)
      | .braced => if braceSettled s then okPlan [] (activate s) else refusePlan .notSettled s
      | .idle => okPlan [] s
      | .active => okPlan [] s
    else refusePlan .wrongMode s

/-- The meaning of PLAN_RESUME. -/
def execPlanResume (s : State) : Host.Outcome State Fault Refusal := .next (serve (isKind 0x33#8) answerPlanResume s)

/-- Replace the plan list. -/
def setPlanList (rs : List PlanRecord) (s : State) : State := s.setPlan { s.plan with list := rs }

/-- The records of the plan list ahead of the first with an id. -/
def aheadOf (id : Nat) (rs : List PlanRecord) : List PlanRecord := rs.takeWhile fun r => decide (r.id ≠ id)

/-- PLAN_CANCEL (R90). -/
def answerPlanCancel (f : Frame) (s : State) : Answer :=
  withPlanLen 2 f s <|
    let id := u16At f.payload 0
    if id = 0 then refusePlan .badValue s
    else
      let kept := aheadOf id s.plan.list
      let removed := s.plan.list.length - kept.length
      if removed = 0 then refusePlan .notFound s else okPlan (put8 removed) (idleIfEmpty (setPlanList kept s))

/-- The meaning of PLAN_CANCEL. -/
def execPlanCancel (s : State) : Host.Outcome State Fault Refusal := .next (serve (isKind 0x34#8) answerPlanCancel s)

/-- PLAN_FLUSH (R91). -/
def answerPlanFlush (f : Frame) (s : State) : Answer :=
  withPlanLen 0 f s (okPlan (put8 s.plan.list.length) (idleIfEmpty (setPlanList [] s)))

/-- The meaning of PLAN_FLUSH. -/
def execPlanFlush (s : State) : Host.Outcome State Fault Refusal := .next (serve (isKind 0x35#8) answerPlanFlush s)

/-- PLAN_REPORT returns and removes up to four of the oldest entries (R81). -/
def answerPlanReport (f : Frame) (s : State) : Answer :=
  withPlanLen 0 f s <|
    let out := s.plan.log.take Config.reportMax
    let left := s.plan.log.drop Config.reportMax
    okPlan (put8 out.length ++ put8 left.length ++ (out.map logEntryBytes).flatten)
      (s.setPlan { s.plan with log := left })

/-- The meaning of PLAN_REPORT. -/
def execPlanReport (s : State) : Host.Outcome State Fault Refusal := .next (serve (isKind 0x36#8) answerPlanReport s)

end Sys2Proof.Machine
end

