-- ==== Sys2Proof/Machine/Supervision.lean ====
section
/-! DEFINITION. The commands of the Mode Supervisor: STAND, SIT, CLEAR_HOLD, the resets, its timers, the silence expiry,
and the millisecond tick. -/

namespace Sys2Proof.Machine

/-- Set every foot's class in force (R13, R143). -/
def setClasses (c : SurfaceClass) (s : State) : State := s.setFeet (s.feet.map fun f => { f with cls := c })

/-- An accepted STAND: the classes, RISING, the stance-pose setpoints, the rise/settle timer (R143). -/
def standUp (c : SurfaceClass) (s : State) : State :=
  let s1 := changeMode .rising (setClasses c s)
  let s2 := s1.setLegs (s1.legs.map fun q => { q with phase := .posture })
  let s3 := sendPose s2.geo.stancePose s2
  s3.setSup { s3.sup with riseSettle := some (riseTime s3) }

/-- STAND (R143). -/
def answerStand (f : Frame) (s : State) : Answer :=
  withLen 1 f s <|
    if s.sup.mode = .parked then
      match classOf (u8At f.payload 0) with
      | none => refuse .badValue s
      | some c => okWith [] (standUp c s)
    else refuse .wrongMode s

/-- The meaning of STAND. -/
def execStand (s : State) : Host.Outcome State Fault Refusal := .next (serve (isKind 0x20#8) answerStand s)

/-- Whether a leg lets SIT be accepted in STANDING: in STANCE, or held (R145). -/
def LegSeq.sitsFrom (q : LegSeq) : Bool := decide (q.phase = .stance) || decide (q.motion = some .held)

/-- Whether a drive is LOST (R137). -/
def Drive.isLost (d : Drive) : Bool := decide (d.link = .lost)

/-- SIT, judged by mode (R145). -/
def answerSit (f : Frame) (s : State) : Answer :=
  withLen 0 f s <|
    match s.sup.mode with
    | .parked => refuse .wrongMode s
    | .rising => refuse .wrongMode s
    | .settling => okWith [] s
    | .standing =>
      if planRuns s ∨ ¬ s.legs.all LegSeq.sitsFrom then refuse .wrongState s else okWith [] (enterSettling s)
    | .safeHold => if s.bus.drives.any Drive.isLost then refuse .notSettled s else okWith [] (enterSettling s)

/-- The meaning of SIT. -/
def execSit (s : State) : Host.Outcome State Fault Refusal := .next (serve (isKind 0x21#8) answerSit s)

/-- Whether a drive's last reply reports FAULT (R140, R149). -/
def Drive.reportsFault (d : Drive) : Bool :=
  match d.last with
  | none => false
  | some r => decide (r.state = .fault)

/-- The held live margin is at least the held required margin (R57, R89, R149). -/
def marginMet (s : State) : Bool := decide (s.bal.held.required ≤ s.bal.held.margin)

/-- The four conditions of CLEAR_HOLD (R149). -/
def holdClearable (s : State) : Bool :=
  !(s.bus.drives.any Drive.isLost) && !(s.bus.drives.any Drive.reportsFault)
    && (s.feet.all fun f => decide (f.contact = .loaded)) && marginMet s

/-- An accepted CLEAR_HOLD (R149). -/
def clearHold (s : State) : State :=
  startSupportLost (phaseChanged (setAllPhases .stance (changeMode .standing s)))

/-- CLEAR_HOLD (R149). -/
def answerClearHold (f : Frame) (s : State) : Answer :=
  withLen 0 f s <|
    if s.sup.mode = .safeHold then if holdClearable s then okWith [] (clearHold s) else refuse .notSettled s
    else refuse .wrongMode s

/-- The meaning of CLEAR_HOLD. -/
def execClearHold (s : State) : Host.Outcome State Fault Refusal := .next (serve (isKind 0x22#8) answerClearHold s)

/-- RESET by its scope: FULL is taken and its reply will reset the part (R155); MOTION resets the motion state at once, in
PARKED only (R156); another scope is refused BAD_VALUE. -/
def answerReset (f : Frame) (s : State) : Answer :=
  withLen 1 f s <|
    match u8At f.payload 0 with
    | 0 => ⟨.ok, [], s, true⟩
    | 1 => if s.sup.mode = .parked then okWith [] (motionReset s) else refuse .wrongMode s
    | _ => refuse .badValue s

/-- A RESET frame that does not spell a given scope whole: each of the two rows takes its own scope and what is malformed
(log 3). -/
def isResetBut (scope : Nat) (f : Frame) : Bool :=
  isKind 0x23#8 f && !(decide (f.payload.length = 1) && decide (u8At f.payload 0 = scope))

/-- The meaning of RESET_FULL. -/
def execResetFull (s : State) : Host.Outcome State Fault Refusal := .next (serve (isResetBut 1) answerReset s)

/-- The meaning of RESET_MOTION. -/
def execResetMotion (s : State) : Host.Outcome State Fault Refusal := .next (serve (isResetBut 0) answerReset s)

/-- The number the two LINK_RATE pins read as (R154). -/
def rateOf (rate0 rate1 : Bool) : Nat := flagBit 0 rate0 + flagBit 1 rate1

/-- The meaning of POWER_ON_RESET: the straps are sampled and every block takes its power-on values (R154). -/
def execPowerOnReset (rate0 rate1 flip : Bool) (s : State) : Host.Outcome State Fault Refusal :=
  .next (powerOnValues (rateOf rate0 rate1) flip s)

/-- RISE_SETTLE_TIMEOUT: the rise or the settle has failed (R144, R146). -/
def riseSettleTimeout (s : State) : State :=
  if ranOut s.sup.riseSettle then
    let s1 := s.setSup { s.sup with riseSettle := none }
    match s1.sup.mode with
    | .rising => reportFault .riseFailed none s1
    | .settling => reportFault .settleFailed none s1
    | .parked => s1
    | .standing => s1
    | .safeHold => s1
  else s

/-- The meaning of RISE_SETTLE_TIMEOUT. -/
def execRiseSettleTimeout (s : State) : Host.Outcome State Fault Refusal := .next (riseSettleTimeout s)

/-- SUPPORT_LOST: the support-lost timer expires (R150). -/
def supportLostExpiry (s : State) : State :=
  if ranOut s.sup.supportLost then reportFault .supportLost none (s.setSup { s.sup with supportLost := none }) else s

/-- The meaning of SUPPORT_LOST. -/
def execSupportLost (s : State) : Host.Outcome State Fault Refusal := .next (supportLostExpiry s)

/-- What the Mode Supervisor does at a silence expiry, by mode and policy (R153). -/
def silenceActs (s : State) : State :=
  match s.sup.mode with
  | .standing => setPendingSettle (drain s)
  | .rising => s.setSup { s.sup with silenceInRise := true }
  | .parked => s
  | .settling => s
  | .safeHold => s

/-- SILENCE_EXPIRY: the timer stops and SILENCE is raised (R152, R153). -/
def silenceExpiry (s : State) : State :=
  if ranOut s.link.silence then silenceActs (raise .silence (stopSilence s)) else s

/-- The meaning of SILENCE_EXPIRY. -/
def execSilenceExpiry (s : State) : Host.Outcome State Fault Refusal := .next (silenceExpiry s)

/-! ## The millisecond tick -/

/-- A running timer has one millisecond less to run; it stays at 0 until its expiry is taken (log 4). -/
def tickTimer (t : Option Nat) : Option Nat := t.map Nat.pred

/-- TIME_BASE_TICK: the time base advances by one and wraps; the running millisecond timers count on the same clock (R1;
log 5). -/
def tick (s : State) : State :=
  { s with
    ev := { s.ev with time := s.ev.time + 1 }
    feet := s.feet.map fun f => { f with stale := tickTimer f.stale }
    att :=
      { s.att with
        staleTimer := s.att.staleTimer.pred, lostTimer := s.att.lostTimer.pred, reading := tickTimer s.att.reading }
    bal := { s.bal with preshift := s.bal.preshift.map fun p => { p with timer := p.timer.pred } }
    plan := { s.plan with shiftTimer := tickTimer s.plan.shiftTimer }
    legs := s.legs.map fun q => { q with timer := tickTimer q.timer }
    bus := { s.bus with drives := s.bus.drives.map fun d => { d with poll := d.poll.pred } }
    sup := { s.sup with riseSettle := tickTimer s.sup.riseSettle, supportLost := tickTimer s.sup.supportLost }
    link := { s.link with gap := tickTimer s.link.gap, silence := tickTimer s.link.silence } }

/-- The meaning of TIME_BASE_TICK. -/
def execTimeBaseTick (s : State) : Host.Outcome State Fault Refusal := .next (tick s)

end Sys2Proof.Machine
end

