-- ==== Sys2Proof/Machine/Dispatch.lean ====
section
/-! DEFINITION. The dispatch: one arm per command, each one call of its meaning. -/

namespace Sys2Proof.Machine

def exec (i : Instr) (s : State) : Host.Outcome State Fault Refusal :=
  match i with
  | .powerOnReset rate0 rate1 flip => Sys2Proof.Machine.execPowerOnReset rate0 rate1 flip s
  | .timeBaseTick => Sys2Proof.Machine.execTimeBaseTick s
  | .linkByte byte stopError => Sys2Proof.Machine.execLinkByte byte stopError s
  | .gapTimerExpiry => Sys2Proof.Machine.execGapTimerExpiry s
  | .requestUnknownKind => Sys2Proof.Machine.execRequestUnknownKind s
  | .ping => Sys2Proof.Machine.execPing s
  | .status => Sys2Proof.Machine.execStatus s
  | .setGeometry => Sys2Proof.Machine.execSetGeometry s
  | .setSurface => Sys2Proof.Machine.execSetSurface s
  | .setBalance => Sys2Proof.Machine.execSetBalance s
  | .setGait => Sys2Proof.Machine.execSetGait s
  | .setSupervision => Sys2Proof.Machine.execSetSupervision s
  | .stand => Sys2Proof.Machine.execStand s
  | .sit => Sys2Proof.Machine.execSit s
  | .clearHold => Sys2Proof.Machine.execClearHold s
  | .resetFull => Sys2Proof.Machine.execResetFull s
  | .resetMotion => Sys2Proof.Machine.execResetMotion s
  | .planAppend => Sys2Proof.Machine.execPlanAppend s
  | .planStart => Sys2Proof.Machine.execPlanStart s
  | .planSuspend => Sys2Proof.Machine.execPlanSuspend s
  | .planResume => Sys2Proof.Machine.execPlanResume s
  | .planCancel => Sys2Proof.Machine.execPlanCancel s
  | .planFlush => Sys2Proof.Machine.execPlanFlush s
  | .planReport => Sys2Proof.Machine.execPlanReport s
  | .eventMask => Sys2Proof.Machine.execEventMask s
  | .eventAck => Sys2Proof.Machine.execEventAck s
  | .faultRead => Sys2Proof.Machine.execFaultRead s
  | .faultClear => Sys2Proof.Machine.execFaultClear s
  | .countersRead => Sys2Proof.Machine.execCountersRead s
  | .countersReadClear => Sys2Proof.Machine.execCountersReadClear s
  | .frameSendStart => Sys2Proof.Machine.execFrameSendStart s
  | .frameSendEnd => Sys2Proof.Machine.execFrameSendEnd s
  | .silenceExpiry => Sys2Proof.Machine.execSilenceExpiry s
  | .loadSample foot period => Sys2Proof.Machine.execLoadSample foot period s
  | .loadStale foot => Sys2Proof.Machine.execLoadStale foot s
  | .slipPulse foot => Sys2Proof.Machine.execSlipPulse foot s
  | .attitudeReadStart => Sys2Proof.Machine.execAttitudeReadStart s
  | .attitudeReadDone fx fy fz valid => Sys2Proof.Machine.execAttitudeReadDone fx fy fz valid s
  | .attitudeReadTimeout => Sys2Proof.Machine.execAttitudeReadTimeout s
  | .attitudeStaleExpiry => Sys2Proof.Machine.execAttitudeStaleExpiry s
  | .attitudeLost => Sys2Proof.Machine.execAttitudeLost s
  | .evaluationComplete => Sys2Proof.Machine.execEvaluationComplete s
  | .braceTaken => Sys2Proof.Machine.execBraceTaken s
  | .preshiftTimeout => Sys2Proof.Machine.execPreshiftTimeout s
  | .shiftTimeout => Sys2Proof.Machine.execShiftTimeout s
  | .phaseTimerExpiry leg => Sys2Proof.Machine.execPhaseTimerExpiry leg s
  | .driveTransactionSend => Sys2Proof.Machine.execDriveTransactionSend s
  | .driveRequestSent => Sys2Proof.Machine.execDriveRequestSent s
  | .driveReply bytes => Sys2Proof.Machine.execDriveReply bytes s
  | .driveReplyTimeout => Sys2Proof.Machine.execDriveReplyTimeout s
  | .guardEnd => Sys2Proof.Machine.execGuardEnd s
  | .pollTimerExpiry leg => Sys2Proof.Machine.execPollTimerExpiry leg s
  | .riseSettleTimeout => Sys2Proof.Machine.execRiseSettleTimeout s
  | .supportLost => Sys2Proof.Machine.execSupportLost s
  | .loadFallingEdge foot high => Sys2Proof.Machine.execLoadFallingEdge foot high s

end Sys2Proof.Machine
end

