-- ==== Sys2Proof/Safety.lean ====
section
/-! DEFINITION. What the claims speak of: what a safe state of the part is (the invariants every step keeps), what taking a
request and entering SAFE_HOLD leave, and the payloads a host or a drive writes by the layouts of chapter 11. -/

namespace Sys2Proof.Machine

/-! ## Invariants -/

/-- The plan is ACTIVE or DRAINING only while the mode is STANDING (R82). -/
def PlanStands (s : State) : Prop := planRuns s = true → s.sup.mode = .standing

/-- Once the silence policy has been set to SETTLE it stays SETTLE (R151). -/
def LatchKept (s : State) : Prop := s.sup.latch = true → s.sup.policy = .settle

/-- A foot belongs to the support set exactly when its contact state is LOADED (R51). -/
def SupportIsLoaded (s : State) : Prop := ∀ l, s.bal.support.get l = true ↔ (s.feet.get l).contact = .loaded

/-- What the plan can hold: 32 records in the list and the window together, no id twice, 16 log entries (R72, R73, R80). -/
def PlanRoom (s : State) : Prop :=
  s.plan.list.length + s.plan.window.length ≤ 32 ∧ s.plan.log.length ≤ 16 ∧ (idsInPlan s).Nodup

/-- What the Link Port can hold: 4 good frames, 4 replies, one notice; and of a frame being assembled only bytes from a SYNC
on that are not yet a whole frame, with the gap timer running (R158 to R160, R164). -/
def LinkRoom (s : State) : Prop :=
  s.link.buffer.length ≤ 4 ∧ repliesWaiting s ≤ 4 ∧ (s.link.tx.filter TxItem.isNotice).length ≤ 1 ∧
    (s.link.held = [] ∧ s.link.gap = none ∨
      s.link.held.head? = some syncByte ∧ assemble s.link.held = .incomplete ∧ s.link.gap.isSome = true)

/-- Whether a transaction is a POLL of a drive. -/
def Txn.isPollFor (l : Leg) (t : Txn) : Bool :=
  match t.op with
  | .setpoint _ _ _ => false
  | .poll => decide (t.leg = l)

/-- What the transaction queue can hold: one SETPOINT and one POLL for each drive (R128); and the consecutive-timeout counts
stay within 0 to 3 (R137). -/
def BusRoom (s : State) : Prop :=
  ∀ l, (s.bus.queue.filter (Txn.isSetpointFor l)).length ≤ 1 ∧ (s.bus.queue.filter (Txn.isPollFor l)).length ≤ 1 ∧
    (s.bus.drives.get l).timeouts ≤ 3

/-- How many legs are airborne. -/
def airborneLegs (s : State) : Nat := (legsInOrder.filter fun l => (s.legs.get l).phase.airborne).length

/-- At most two legs are airborne (R113); only an airborne leg has a motion (R96), and only while the part stands or is held
(R98); and a leg that is airborne now was read as airborne by the evaluation that is running, since no grant falls between
(R49, R113). -/
def AirborneRoom (s : State) : Prop :=
  airborneLegs s ≤ 2 ∧
    (∀ l, (s.legs.get l).motion ≠ none →
      (s.legs.get l).phase.airborne = true ∧ (s.sup.mode = .standing ∨ s.sup.mode = .safeHold)) ∧
    ∀ e, s.bal.eval = some e → ∀ l, (s.legs.get l).phase.airborne = true → (e.phases.get l).airborne = true

/-- What the running evaluation read of the grant queue still stands at the head of it, in the same order: a request leaves
before its turn only by withdrawal, which the evaluation forgets with it, and a new one joins at the tail (R49, R61, R111). -/
def EvalReadsQueue (s : State) : Prop :=
  ∀ e, s.bal.eval = some e → ∃ later,
    s.bal.queue.map (fun q => (q.id, q.legs)) = e.requests.map (fun q => (q.id, q.legs)) ++ later

/-- What waits for a grant stands: every request of the grant queue has its WAITING record in the issue window, with the same legs;
the legs of a WAITING record are in STANCE and named by no other record of the window (R76, R111, R113). With it stands what makes
it so: no id twice in the queue or the plan, a plan that does not run has nothing in its window, and only an airborne leg has a
motion. -/
def WaitingStands (s : State) : Prop :=
  (∀ q ∈ s.bal.queue, ∃ w ∈ s.plan.window, w.cond = .waiting ∧ w.body.id = q.id ∧ w.body.legs = q.legs) ∧
    (∀ w ∈ s.plan.window, w.cond = .waiting → ∀ l ∈ w.body.legs,
      (s.legs.get l).phase = .stance ∧ ∀ v ∈ s.plan.window, l ∈ v.body.legs → v = w) ∧
    (s.bal.queue.map SwingRequest.id).Nodup ∧ (idsInPlan s).Nodup ∧ PlanStands s ∧
    (planRuns s = false → s.plan.window = []) ∧
    ∀ l, (s.legs.get l).motion ≠ none →
      (s.legs.get l).phase.airborne = true ∧ (s.sup.mode = .standing ∨ s.sup.mode = .safeHold)

/-- The Step Planner may issue a record, were it the head of the plan list (R76). -/
def MayIssue (s : State) (r : PlanRecord) : Prop :=
  let ready := fun (l : Leg) => (s.legs.get l).phase = .stance ∧ (∀ w ∈ s.plan.window, l ∉ w.body.legs) ∧
    ((s.feet.get l).contact = .loaded ∨ (s.feet.get l).contact = .slipping)
  s.plan.state = .active ∧ s.sup.mode = .standing ∧ s.att.stale = false ∧ s.bal.braceOut = false ∧
    s.plan.window.length < s.gait.window ∧ (∀ w ∈ s.plan.window, w.body.hold = false ∧ w.body.kind ≠ .shift) ∧
    (r.kind ≠ .shift → ∀ l ∈ r.legs, ready l) ∧
    (r.kind = .shift → s.plan.window = [] ∧ ∀ l, (s.legs.get l).phase = .stance)

/-- The head of the plan list waits for a condition of its issue: none that may be issued is left there (R76). -/
def HeadWaits (s : State) : Prop := ∀ r rest, s.plan.list = r :: rest → ¬ MayIssue s r

/-- A leg with motion STEP serves a record, outside SAFE_HOLD: its step's data stand, and its record is GRANTED in the issue
window, names it and has no report from it yet (R75, R95, R96, R100). No leg of a WAITING record has reported. -/
def SteppingServes (s : State) : Prop :=
  (∀ w ∈ s.plan.window, w.cond = .waiting → w.reports = []) ∧
    (s.sup.mode ≠ .safeHold → ∀ l, (s.legs.get l).motion = some .step →
      (s.legs.get l).step ≠ none ∧ ∃ w ∈ s.plan.window, w.cond = .granted ∧ (s.legs.get l).record = some w.body.id ∧
        l ∈ w.body.legs ∧ ∀ r ∈ w.reports, r.leg ≠ l)

/-- What SAFE_HOLD holds still: no plan runs, no timer of a leg, a pre-shift or the Mode Supervisor runs, nothing of the
silence supervision is left to act (R94, R98, R118, R147, R152). With it stands what makes it so at the entry: a plan runs only
in STANDING, and one that does not run has nothing in its window (R82, R84, R86, R92, R94). -/
def HoldsStill (s : State) : Prop :=
  PlanStands s ∧ (planRuns s = false → s.plan.window = []) ∧
    (s.sup.mode = .safeHold →
      (∀ l, (s.legs.get l).timer = none) ∧ s.bal.preshift = none ∧ s.sup.riseSettle = none ∧ s.sup.supportLost = none ∧
        s.sup.pendingSettle = false ∧ s.sup.silenceInRise = false ∧ s.link.silence = none)

/-- The overflow flag is set only while the record holds a fault (R172). -/
def OverflowNeedsFault (s : State) : Prop := s.ev.overflow = true → s.ev.fault.isSome = true

/-- A pending settle waits only while it must: in STANDING, with the plan ACTIVE or DRAINING or some leg off STANCE (R153). -/
def SettleWaits (s : State) : Prop :=
  s.sup.pendingSettle = true → s.sup.mode = .standing ∧
    ((s.plan.state = .idle ∨ s.plan.state = .suspended ∨ s.plan.state = .braced) → ∃ l, (s.legs.get l).phase ≠ .stance)

/-- The ranges of the geometry record (R6). -/
def Geometry.inRange (g : Geometry) : Prop :=
  (∀ l, -600 ≤ g.hipX.get l ∧ g.hipX.get l ≤ 600 ∧ -400 ≤ g.hipY.get l ∧ g.hipY.get l ≤ 400) ∧
    (-200 ≤ g.com.x ∧ g.com.x ≤ 200 ∧ -200 ≤ g.com.y ∧ g.com.y ≤ 200 ∧ -200 ≤ g.com.z ∧ g.com.z ≤ 200) ∧
    (100 ≤ g.reach ∧ g.reach ≤ 400) ∧ (150 ≤ g.zMin ∧ g.zMin ≤ 400 ∧ 300 ≤ g.zMax ∧ g.zMax ≤ 700 ∧ g.zMin < g.zMax) ∧
    (g.zMin ≤ g.standing ∧ g.standing ≤ g.zMax) ∧ (g.zMin ≤ g.park ∧ g.park ≤ g.standing - 50)

/-- The ranges of a surface class record (R11). -/
def ClassRecord.inRange (r : ClassRecord) : Prop :=
  (10 ≤ r.touch ∧ r.touch ≤ 400 ∧ r.touch ≤ r.release ∧ r.release ≤ r.threshold ∧ r.threshold ≤ 1200) ∧
    (0 ≤ r.margin34 ∧ r.margin34 ≤ 200 ∧ -200 ≤ r.margin2 ∧ r.margin2 ≤ 0) ∧
    (1 ≤ r.slipLimit ∧ r.slipLimit ≤ 60 ∧ 20 ≤ r.lift ∧ r.lift ≤ 250 ∧ 10 ≤ r.reachDepth ∧ r.reachDepth ≤ 150)

/-- The ranges of the balance configuration (R67). -/
def BalanceCfg.inRange (b : BalanceCfg) : Prop :=
  (-50 ≤ b.brace34 ∧ b.brace34 ≤ 100 ∧ -300 ≤ b.brace2 ∧ b.brace2 ≤ 0) ∧
    (1 ≤ b.braceCount ∧ b.braceCount ≤ 5 ∧ b.stalePenalty ≤ 100) ∧
    (5 ≤ b.staleLimit ∧ b.staleLimit ≤ 50 ∧ 50 ≤ b.lostLimit ∧ b.lostLimit ≤ 1000 ∧ 20 ≤ b.supportLost ∧ b.supportLost ≤ 500)

/-- The ranges of the gait configuration (R123). -/
def GaitCfg.inRange (g : GaitCfg) : Prop :=
  (100 ≤ g.liftTimeout ∧ g.liftTimeout ≤ 2000 ∧ 100 ≤ g.swingTimeout ∧ g.swingTimeout ≤ 3000 ∧ 100 ≤ g.reachTimeout ∧
      g.reachTimeout ≤ 3000) ∧
    (50 ≤ g.liftSpeed ∧ g.liftSpeed ≤ 1500 ∧ 50 ≤ g.swingSpeed ∧ g.swingSpeed ≤ 1500 ∧ 50 ≤ g.reachSpeed ∧
      g.reachSpeed ≤ 1500 ∧ 20 ≤ g.shiftSpeed ∧ g.shiftSpeed ≤ 500) ∧
    (200 ≤ g.shiftTimeout ∧ g.shiftTimeout ≤ 5000 ∧ 10 ≤ g.maxPreshift ∧ g.maxPreshift ≤ 120 ∧ g.attempts ≤ 3) ∧
    (1 ≤ g.window ∧ g.window ≤ 2 ∧ 2 ≤ g.tolerance ∧ g.tolerance ≤ 20 ∧ 1000 ≤ g.riseTimeout ∧ g.riseTimeout ≤ 10000)

/-- These fields are within the ranges the manual gives them: the configuration records (R6, R11, R67, R123), the silence limit
(R151), the held sample (R36), and of each foot the slip count (R26), the last load (R19) and the qualify counter (R21). -/
def InRange (s : State) : Prop :=
  s.geo.inRange ∧ (∀ c, (s.surf.get c).inRange) ∧ s.balCfg.inRange ∧ s.gait.inRange ∧
    (s.sup.silenceLimit = 0 ∨ 50 ≤ s.sup.silenceLimit ∧ s.sup.silenceLimit ≤ 5000) ∧
    (-2000 ≤ s.att.sample.x ∧ s.att.sample.x ≤ 2000 ∧ -2000 ≤ s.att.sample.y ∧ s.att.sample.y ≤ 2000 ∧
      400 ≤ s.att.sample.z ∧ s.att.sample.z ≤ 3000) ∧
    ∀ l, (s.feet.get l).slip ≤ 121 ∧ ((s.feet.get l).contact = .loaded → (s.feet.get l).slip ≤ 120) ∧
      (s.feet.get l).lastLoad ≤ 1600 ∧ (s.feet.get l).qualify ≤ 3

/-! ## Taking a request -/

/-- The reply to a request: its KIND with the high bit set, its TAG, the result code, then the data (R163). -/
def replyTo (f : Frame) (r : Result) (data : List Byte) : Frame := ⟨f.kind ||| 0x80#8, f.tag, put8 r.code ++ data⟩

/-- The Link Port may take a request now, and `f` is the head frame of the receive buffer (R161). -/
def Taking (s : State) (f : Frame) (rest : List Frame) : Prop :=
  s.link.buffer = f :: rest ∧ (s.link.tx.filter fun t => !t.isNotice).length < 4 ∧ s.link.resetTaken = false

/-- The head frame has left the receive buffer and its reply stands at the tail of the transmit queue (R161, R164). -/
def State.replied (s : State) (rest : List Frame) (reply : Frame) : State :=
  s.setLink { s.link with buffer := rest, tx := s.link.tx ++ [.reply reply false] }

/-- Which head frame a request command takes (log 2, log 3). -/
def takes : Instr → Frame → Bool
  | .requestUnknownKind, f => !(requestKinds.contains f.kind)
  | .ping, f => decide (f.kind = 0x01#8)
  | .status, f => decide (f.kind = 0x02#8)
  | .setGeometry, f => decide (f.kind = 0x10#8)
  | .setSurface, f => decide (f.kind = 0x11#8)
  | .setBalance, f => decide (f.kind = 0x12#8)
  | .setGait, f => decide (f.kind = 0x13#8)
  | .setSupervision, f => decide (f.kind = 0x14#8)
  | .stand, f => decide (f.kind = 0x20#8)
  | .sit, f => decide (f.kind = 0x21#8)
  | .clearHold, f => decide (f.kind = 0x22#8)
  | .resetFull, f => decide (f.kind = 0x23#8 ∧ f.payload ≠ [1#8])
  | .resetMotion, f => decide (f.kind = 0x23#8 ∧ f.payload ≠ [0#8])
  | .planAppend, f => decide (f.kind = 0x30#8)
  | .planStart, f => decide (f.kind = 0x31#8)
  | .planSuspend, f => decide (f.kind = 0x32#8)
  | .planResume, f => decide (f.kind = 0x33#8)
  | .planCancel, f => decide (f.kind = 0x34#8)
  | .planFlush, f => decide (f.kind = 0x35#8)
  | .planReport, f => decide (f.kind = 0x36#8)
  | .eventMask, f => decide (f.kind = 0x40#8)
  | .eventAck, f => decide (f.kind = 0x41#8)
  | .faultRead, f => decide (f.kind = 0x42#8)
  | .faultClear, f => decide (f.kind = 0x43#8)
  | .countersRead, f => decide (f.kind = 0x44#8)
  | .countersReadClear, f => decide (f.kind = 0x45#8)
  | _, _ => false

/-- The command resets the whole part: power-on, or the end of RESET FULL's reply (R154, R155). -/
def resetsPart (c : Instr) (s : State) : Prop :=
  (∃ a b f, c = .powerOnReset a b f) ∨ c = .frameSendEnd ∧ ∃ f, s.link.sending = some f ∧ f.resetFull = true

/-! ## What completes -/

/-- From `s` to `t` some entries have joined the completion log at its newest end, in order; beyond 16 the oldest are lost and
counted (R80). -/
def Logged (s t : State) (entries : List LogEntry) : Prop :=
  let lost := s.plan.log.length + entries.length - 16
  t.plan.log = (s.plan.log ++ entries).drop lost ∧
    t.ev.counters.logOverwrites = s.ev.counters.logOverwrites + BitVec.ofNat 32 lost

/-- The log entry of a record that completes in `s` (R79). -/
def entryOf (s : State) (w : WindowRecord) (status : Status) (footholds : List Vec3) : LogEntry :=
  ⟨w.body.id, w.body.kind, w.body.legs, status, w.body.preshifts, s.ev.time, footholds⟩

/-- The WAITING records of a window, in its order (R75). -/
def waitingOf (ws : List WindowRecord) : List WindowRecord := ws.filter fun w => decide (w.cond = .waiting)

/-- The GRANTED and RUNNING records of a window, in its order (R75). -/
def servedOf (ws : List WindowRecord) : List WindowRecord := ws.filter fun w => decide (w.cond ≠ .waiting)

/-- From `s`, whose plan was ACTIVE with `window` to see to, a drain has left `t`: WAITING records back at the head of the list and
their requests gone, the rest still in the window, the plan DRAINING or, with nothing left, SUSPENDED (R85, R86). -/
def Drained (s t : State) (window : List WindowRecord) : Prop :=
  t.plan.window = servedOf window ∧ t.plan.list = (waitingOf window).map WindowRecord.body ++ s.plan.list ∧
    t.plan.state = (if servedOf window = [] then .suspended else .draining) ∧
    (servedOf window = [] → hasEvent t.ev.pending .planSuspended = true) ∧
    ∀ q ∈ t.bal.queue, ∀ w ∈ waitingOf window, q.id ≠ w.body.id

/-- In `t` a leg is held where its drive stood in `s`: a SETPOINT with the HOLD flag waits for it (R5, R97, R126). -/
def HeldAt (s t : State) (l : Leg) : Prop :=
  (t.legs.get l).commanded = (s.bus.drives.get l).pos ∧ (t.legs.get l).reached = false ∧
    (⟨l, .setpoint (s.bus.drives.get l).pos 0 true⟩ : Txn) ∈ t.bus.queue

/-- From `s` to `t` the running pre-shift has ended if its owner is one of some withdrawn records, and runs on if not (R118). -/
def StopsPreshift (s t : State) (withdrawn : List WindowRecord) : Prop :=
  ∀ p, s.bal.preshift = some p →
    ((∃ w ∈ withdrawn, w.body.id = p.owner) → t.bal.preshift = none) ∧
      ((∀ w ∈ withdrawn, w.body.id ≠ p.owner) → t.bal.preshift = some p)

/-- The worst of the outcomes of a record's legs, OK as CLAMPED for a record that carries the mark (R78). -/
def worstOf (reports : List LegReport) (mark : Bool) : Status :=
  if ∃ r ∈ reports, r.outcome = .missed then .missed
  else if ∃ r ∈ reports, r.outcome = .snagged then .snagged
  else if mark = true ∨ ∃ r ∈ reports, r.outcome = .clamped then .clamped
  else .ok

/-- From `s`, a leg that serves a GRANTED record has reported its landing and has left `t`; `limit` says whether an AT_LIMIT
arrival helped. With the other leg of a PAIR still to report the record stays; with the last it completes with the worst
outcome, its log entry with the final footholds, its counter and its STEP_DONE, and the plan goes on as R87 says (R78, R79, R84,
R86, R103, R122). That the setpoint which stops the landing marks nothing is log 39. -/
def LandingReported (s t : State) (l : Leg) (limit : Bool) : Prop :=
  ∀ w, s.plan.window = [w] → s.plan.list = [] → s.plan.log.length ≤ 16 → (s.legs.get l).record = some w.body.id →
    w.cond = .granted → w.body.kind ≠ .shift →
    let mine : Outcome := if (s.legs.get l).clamped = true ∨ limit = true then .clamped else .ok
    let reports := w.reports ++ [⟨l, mine, some (bodyPos t l)⟩]
    let mark := w.body.clamped || limit
    let done := worstOf reports mark
    let good : Prop := done = .ok ∨ done = .clamped
    ((∃ m ∈ w.body.legs, ∀ r ∈ reports, r.leg ≠ m) →
      t.plan = { s.plan with window := [{ w with body := { w.body with clamped := mark }, reports := reports }] }) ∧
    ((∀ m ∈ w.body.legs, ∃ r ∈ reports, r.leg = m) →
      t.plan.window = [] ∧ t.plan.list = [] ∧
      Logged s t [entryOf s w done
        (if good then w.body.legs.filterMap fun m => (reports.find? fun r => decide (r.leg = m)).bind LegReport.foothold else [])] ∧
      t.ev.counters.stepsOk = s.ev.counters.stepsOk + (if done = .ok then 1 else 0) ∧
      t.ev.counters.stepsClamped = s.ev.counters.stepsClamped + (if done = .clamped then 1 else 0) ∧
      t.ev.counters.stepsMissed = s.ev.counters.stepsMissed + (if done = .missed then 1 else 0) ∧
      (w.body.notify = true → hasEvent t.ev.pending .stepDone = true) ∧
      (s.plan.state = .active → good → w.body.hold = false →
        t.plan.state = .idle ∧ hasEvent t.ev.pending .planIdle = true) ∧
      (s.plan.state = .active → ¬ good ∨ w.body.hold = true →
        t.plan.state = .suspended ∧ hasEvent t.ev.pending .planSuspended = true) ∧
      (s.plan.state = .draining → t.plan.state = .suspended ∧ hasEvent t.ev.pending .planSuspended = true))

/-! ## SAFE_HOLD -/

/-- From `s`, SAFE_HOLD entry has left the plan in `t`: of a running plan GRANTED and RUNNING records complete CANCELLED with their log
entries, in window order (log 36), and count in no step counter, WAITING ones return to the head of the list with their requests
gone, and the window is empty; a running or BRACED plan raises PLAN_SUSPENDED; any other is as it was (R94). -/
def PlanHeld (s t : State) : Prop :=
  (planRuns s = true → (idsInPlan s).Nodup → s.plan.log.length ≤ 16 →
    t.plan.window = [] ∧ t.plan.list = (waitingOf s.plan.window).map WindowRecord.body ++ s.plan.list ∧
      Logged s t ((servedOf s.plan.window).map fun w => entryOf s w .cancelled []) ∧
      (∀ w ∈ servedOf s.plan.window, w.body.notify = true → hasEvent t.ev.pending .stepDone = true) ∧
      ∀ q ∈ t.bal.queue, ∀ w ∈ waitingOf s.plan.window, q.id ≠ w.body.id) ∧
    (planRuns s = false → t.plan.window = s.plan.window ∧ t.plan.list = s.plan.list ∧ t.plan.log = s.plan.log) ∧
    (planRuns s = true ∨ s.plan.state = .braced → hasEvent t.ev.pending .planSuspended = true) ∧
    t.ev.counters.stepsOk = s.ev.counters.stepsOk ∧ t.ev.counters.stepsClamped = s.ev.counters.stepsClamped ∧
    t.ev.counters.stepsMissed = s.ev.counters.stepsMissed ∧ t.ev.counters.shiftsDone = s.ev.counters.shiftsDone

/-- From `s`, a fault has taken the part to SAFE_HOLD in `t`: the fault offered first, MODE_CHANGE raised, every leg held at its
measured position with its phase kept, the timers stopped, the plan suspended and its records seen to (R94, R98, R147, R172). -/
def EntersSafeHold (k : FaultKind) (leg : Option Leg) (s t : State) : Prop :=
  PlanHeld s t ∧ t.sup.mode = .safeHold ∧ hasEvent t.ev.pending .modeChange = true ∧
    (s.ev.fault = none →
      t.ev.fault = some ⟨k, leg, s.sup.mode, s.plan.window.head?.map fun w => w.body.id, s.ev.time⟩ ∧
        t.ev.overflow = s.ev.overflow) ∧
    (∀ r, s.ev.fault = some r → t.ev.fault = some r ∧ t.ev.overflow = true) ∧
    (∀ l, (t.legs.get l).phase = (s.legs.get l).phase ∧ (t.legs.get l).motion = (s.legs.get l).motion ∧
      (t.legs.get l).timer = none ∧ (t.legs.get l).commanded = (s.bus.drives.get l).pos ∧
      (⟨l, .setpoint (s.bus.drives.get l).pos 0 true⟩ : Txn) ∈ t.bus.queue) ∧
    t.bal.preshift = none ∧ t.sup.riseSettle = none ∧ t.sup.supportLost = none ∧ t.link.silence = none ∧
    t.sup.pendingSettle = false ∧
    t.plan.state = (match s.plan.state with
      | .idle => .idle
      | .active => .suspended
      | .draining => .suspended
      | .suspended => .suspended
      | .braced => .suspended)

/-- From `s`, already in SAFE_HOLD, a fault that acts has been taken and has left `t`: it is offered to the fault record, the mode is
kept, no MODE_CHANGE is raised, and no leg is commanded (R148, R172). -/
def FaultInSafeHold (k : FaultKind) (leg : Option Leg) (s t : State) : Prop :=
  t.sup.mode = .safeHold ∧ hasEvent t.ev.pending .modeChange = hasEvent s.ev.pending .modeChange ∧
    (s.ev.fault = none →
      t.ev.fault = some ⟨k, leg, .safeHold, s.plan.window.head?.map fun w => w.body.id, s.ev.time⟩ ∧
        t.ev.overflow = s.ev.overflow) ∧
    (∀ r, s.ev.fault = some r → t.ev.fault = some r ∧ t.ev.overflow = true) ∧
    ∀ l, (t.legs.get l).phase = (s.legs.get l).phase ∧ (t.legs.get l).motion = (s.legs.get l).motion ∧
      (t.legs.get l).commanded = (s.legs.get l).commanded

/-! ## What a step of a leg leaves -/

/-- The speed a setpoint carries while its leg is derated or not (R121). -/
def spared (hot : Bool) (speed : Nat) : Nat := if hot then max 20 (speed / 2) else speed

/-- The time a timer starts with while its leg is derated or not (R121). -/
def allowed (hot : Bool) (timeout : Nat) : Nat := if hot then 2 * timeout else timeout

/-- In `t` a leg is in a phase with a motion, its setpoint to a body-frame target formed, commanded and queued, and its phase timer
started; `hot` is its derating flag (R5, R97, R121, R129). -/
def Moves (g : Geometry) (hot : Bool) (l : Leg) (p : Phase) (m : Motion) (body : Vec3) (speed timeout : Nat) (t : State) :
    Prop :=
  (t.legs.get l).phase = p ∧ (t.legs.get l).motion = some m ∧ (t.legs.get l).commanded = hipTarget g l body ∧
    (t.legs.get l).reached = false ∧ (t.legs.get l).timer = some (allowed hot timeout) ∧
    (⟨l, .setpoint (hipTarget g l body) (spared hot speed) false⟩ : Txn) ∈ t.bus.queue

/-- In `t` a leg has landed: STANCE, its phase timer stopped, no motion and no record (R103, R107 to R109;
log 18, log 23). -/
def Lands (l : Leg) (t : State) : Prop :=
  (t.legs.get l).phase = .stance ∧ (t.legs.get l).timer = none ∧ (t.legs.get l).motion = none ∧ (t.legs.get l).record = none

/-- The target of a leg in the step that a grant now would begin (R100). -/
def stepTarget (s : State) (r : PlanRecord) (l : Leg) : Vec3 :=
  let o := bodyPos s l
  ⟨o.x + r.disp.x, o.y + r.disp.y, o.z + r.disp.z⟩

/-- The LIFT, SWING and REACH setpoints of a leg in that step, in the body frame (R100). -/
def stepSetpoints (s : State) (r : PlanRecord) (c : SurfaceClass) (l : Leg) : List Vec3 :=
  let o := bodyPos s l
  let target := stepTarget s r l
  let level := o.z + (s.surf.get c).lift
  [⟨o.x, o.y, level⟩, ⟨target.x, target.y, level⟩, ⟨target.x, target.y, target.z - (s.surf.get c).reachDepth⟩]

/-- Some of these body-frame positions is a clamped target for a leg: its hip-frame target is moved by the workspace clamp (R5, R10).
-/
def SomeClamped (g : Geometry) (l : Leg) (vs : List Vec3) : Prop := ∃ v ∈ vs, hipTarget g l v ≠ toHip g l v

/-- The grant of a record from `s` has left it in the window of `t`: GRANTED, and CLAMPED where it was so before or where the target
of one of its legs or one of that leg's three setpoints is a clamped target (R10, R75, R100). -/
def GrantedRecord (s t : State) (r : PlanRecord) (c : SurfaceClass) (legs : List Leg) : Prop :=
  ∃ v ∈ t.plan.window, v.body.id = r.id ∧ v.cond = .granted ∧
    (v.body.clamped = true ↔
      r.clamped = true ∨ ∃ l ∈ legs, SomeClamped s.geo l (stepTarget s r l :: stepSetpoints s r c l))

/-- What the grant of a record with a target class has left in one of its legs: origin, target and heights fixed, the leg CLAMPED
mark set exactly where one of the three setpoints is a clamped target (log 37), the record served, and the leg in LIFT (R100). -/
def EntersLift (s t : State) (r : PlanRecord) (c : SurfaceClass) (l : Leg) : Prop :=
    let o := bodyPos s l
  let level := o.z + (s.surf.get c).lift
  (t.legs.get l).step =
      some ⟨o, (s.feet.get l).cls, stepTarget s r l, level, (s.surf.get c).reachDepth, c⟩ ∧
    (t.legs.get l).record = some r.id ∧
    ((t.legs.get l).clamped = true ↔ SomeClamped s.geo l (stepSetpoints s r c l)) ∧

    Moves s.geo (s.legs.get l).derating l .lift .step ⟨o.x, o.y, level⟩ s.gait.liftSpeed s.gait.liftTimeout t

/-- `q` is `a / b` rounded to the nearest whole number, halves away from zero (00_scope, Rounding words). -/
def IsNearest (a b q : Int) : Prop := 2 * |q * b - a| ≤ b ∧ (2 * |q * b - a| = b → |a| < |q * b|)

/-- From `s` to `t` a foot has joined or left LOADED. If it was on the other side, the support set follows, which triggers an
evaluation, one now or, while one runs, one after it; and the support-low flag and the support-lost timer follow the count as it
passes two. If it was on that side already, none of this happens (R48, R51, R150). -/
def SupportFollows (l : Leg) (joins : Bool) (s t : State) : Prop :=
  let count := fun (q : Quad Bool) => (([.fl, .fr, .rl, .rr] : List Leg).filter fun m => q.get m).length
  let before := count s.bal.support
  let now := count t.bal.support
  t.bal.support = s.bal.support.set l joins ∧
    (s.bal.support.get l = joins → t.bal.evalPending = s.bal.evalPending ∧ t.bal.eval.isSome = s.bal.eval.isSome ∧
      t.sup.supportLow = s.sup.supportLow) ∧
    (s.bal.support.get l ≠ joins →
      (s.bal.eval = none → ∃ e, t.bal.eval = some e ∧ e.support = t.bal.support ∧ e.sample = s.att.sample ∧
        t.bal.evalPending = s.bal.evalPending) ∧
      (s.bal.eval.isSome = true → t.bal.evalPending = true) ∧
      (2 ≤ before → now < 2 → t.sup.supportLow = true ∧
        (s.sup.mode = .standing → t.sup.supportLost = some s.balCfg.supportLost)) ∧
      (before < 2 → 2 ≤ now → t.sup.supportLow = false ∧ t.sup.supportLost = none) ∧
      ((before < 2 ↔ now < 2) → t.sup.supportLow = s.sup.supportLow))

/-! ## What commands do one after another, and what a sample does -/

/-- Take bytes from the line one after another. -/
def takeBytes : List Byte → State → Option State
  | [], s => some s
  | b :: rest, s =>
    match exec (.linkByte b false) s with
    | .next t => takeBytes rest t
    | .fault _ => none
    | .refused _ => none

/-- The foot a valid sample of `load` newtons leaves, by the contact state it finds (R20 to R23, R25). -/
def sampledFoot (r : ClassRecord) (load : Nat) (f : Foot) : Foot :=
  let fromAir : Foot :=
    if r.touch ≤ load then { f with contact := .touch, qualify := if r.threshold ≤ load then 1 else 0 } else f
  match f.contact with
  | .air => fromAir
  | .touch =>
    if load < r.touch then { f with contact := .air, qualify := 0 }
    else if load < r.threshold then { f with qualify := 0 }
    else if 3 ≤ f.qualify + 1 then { f with contact := .loaded, qualify := 0, slip := 0 }
    else { f with qualify := f.qualify + 1 }
  | .loaded => if load < r.release then { f with contact := .touch, qualify := 0, slip := 0 } else f
  | .slipping => if load < r.touch then { f with contact := .air } else f
  | .fault =>
    if r.touch ≤ load then { f with contact := .touch, qualify := if r.threshold ≤ load then 1 else 0, slip := 0 }
    else { f with contact := .air, qualify := 0, slip := 0 }

/-! ## Payloads as a host or a drive writes them (chapter 11) -/

/-- A signed part of nine bits. -/
def nineBits (v : Int) : Nat := (BitVec.ofInt 9 v).toNat

/-- A SET_GEOMETRY payload (R176, R177). -/
def geometryPayload (g : Geometry) : List Byte :=
  putI16 g.hipX.fl ++ putI16 g.hipX.fr ++ putI16 g.hipX.rl ++ putI16 g.hipX.rr
    ++ putI16 g.hipY.fl ++ putI16 g.hipY.fr ++ putI16 g.hipY.rl ++ putI16 g.hipY.rr
    ++ put32 (BitVec.ofNat 32 (nineBits g.com.x + 512 * nineBits g.com.y + 262144 * nineBits g.com.z))
    ++ putI16 g.reach ++ putI16 g.zMin ++ putI16 g.zMax ++ putI16 g.standing ++ putI16 g.park

/-- A SET_SURFACE payload (R177). -/
def surfacePayload (c : SurfaceClass) (r : ClassRecord) : List Byte :=
  put8 c.code ++ put16 r.touch ++ put16 r.release ++ put16 r.threshold ++ putI16 r.margin34 ++ putI16 r.margin2
    ++ put16 r.slipLimit ++ putI16 r.lift ++ putI16 r.reachDepth

/-- A SET_BALANCE payload (R177). -/
def balancePayload (b : BalanceCfg) : List Byte :=
  putI16 b.brace34 ++ putI16 b.brace2 ++ put16 b.braceCount ++ put16 b.stalePenalty ++ put16 b.staleLimit
    ++ put16 b.lostLimit ++ put16 b.supportLost

/-- A SET_GAIT payload (R177). -/
def gaitPayload (g : GaitCfg) : List Byte :=
  put16 g.liftTimeout ++ put16 g.swingTimeout ++ put16 g.reachTimeout ++ put16 g.liftSpeed ++ put16 g.swingSpeed
    ++ put16 g.reachSpeed ++ put16 g.shiftSpeed ++ put16 g.shiftTimeout ++ put16 g.maxPreshift ++ put16 g.attempts
    ++ put16 g.window ++ put16 g.tolerance ++ put16 g.riseTimeout

/-- The twelve bytes of a plan record with an unclamped displacement (R178). -/
def recordBytes (id : Nat) (k : RecordKind) (legs : List Leg) (disp : Vec3) (cls : Option SurfaceClass)
    (hold notify noPreshift : Bool) : List Byte :=
  put16 id ++ put8 k.code ++ put8 (legSetCode legs) ++ putVec disp
    ++ put8 (match cls with | none => 255 | some c => c.code)
    ++ put8 (flagBit 0 hold + flagBit 1 notify + flagBit 2 noPreshift)

/-- The legs and the class a plan record of a kind may carry, and its NO_PRESHIFT flag (R70). -/
def recordOk (k : RecordKind) (legs : List Leg) (cls : Option SurfaceClass) (noPreshift : Bool) : Prop :=
  match k with
  | .step => (∃ l, legs = [l]) ∧ cls ≠ none
  | .pair => (legs = [.fl, .rr] ∨ legs = [.fr, .rl]) ∧ cls ≠ none
  | .shift => legs = [] ∧ cls = none ∧ noPreshift = false

/-- A number as a field of `w` bytes, least significant byte first (R2, R176). -/
def leBytes (w n : Nat) : List Byte := (List.range w).map fun i => BitVec.ofNat 8 (n / 256 ^ i)

/-- A signed number as a field of two bytes, in two's complement (R2, R176). -/
def leSigned (v : Int) : List Byte := leBytes 2 (v % 65536).toNat

/-- A coordinate a signed 16-bit field can carry. -/
def fits16 (v : Int) : Prop := -32768 ≤ v ∧ v ≤ 32767

/-- The ten bytes of a drive reply before its check (R180). -/
def replyFields (t : Txn) (pos : Vec3) (st : DriveState) (flags : Byte) : List Byte :=
  put8 (Leg.index t.leg) ++ put8 t.op.code ++ putVec pos ++ put8 st.code ++ [flags]

/-- The twelve bytes of a drive reply (R180). -/
def driveReplyBytes (t : Txn) (pos : Vec3) (st : DriveState) (flags : Byte) : List Byte :=
  replyFields t pos st flags ++ putCheck (crc16 (replyFields t pos st flags))

end Sys2Proof.Machine
end

