-- ==== Sys2Proof/Certificates/Slice0/Obligations.lean ====
section
/-! DEFINITION. The statements about the GB-4 that the provers are given. `exec c s = .next t` says that command `c` taken in
state `s` leaves `t`. -/

open Sys2Proof Sys2Proof.Machine

/-! ## The machine -/

/-- A step runs the command at the front of the queue on the state with the queue's rest; with no command waiting the part
idles, which is the model's choice (log 11). -/
def Obligations.StepRunsTheFrontCommand : Prop :=
  ∀ s : State, (∀ c rest, s.pending = c :: rest → step s = exec c (s.setPending rest)) ∧
    (s.pending = [] → step s = .next s)

/-- Every command completes in every state, and no command touches the commands that wait. These are the model's choices: that
nothing stops the part (log 30), that a command whose event cannot happen has no effect (log 1), and that the resets keep the
queue (log 24). -/
def Obligations.EveryCommandCompletes : Prop :=
  ∀ (c : Instr) (s : State), ∃ t, exec c s = .next t ∧ t.pending = s.pending

/-! ## Resets -/

/-- POWER_ON_RESET gives every block its power-on value and samples the straps (R154); the waiting commands stay (log 24). The
power-on values are named field by field, the straps and what the manual gives no value apart. -/
def Obligations.PowerOnValues : Prop :=
  (∀ (rate0 rate1 flip : Bool) (s : State),
    exec (.powerOnReset rate0 rate1 flip) s = .next
      { State.reset with
        sup := { State.reset.sup with
          linkRate := (if rate0 then 1 else 0) + (if rate1 then 2 else 0), imuFlip := flip }
        pending := s.pending }) ∧
  let s := State.reset
  s.geo = ⟨⟨300, 300, -300, -300⟩, ⟨120, -120, 120, -120⟩, ⟨10, 0, 20⟩, 260, 200, 600, 430, 210⟩ ∧
  s.surf = ⟨⟨40, 90, 150, 30, -60, 12, 60, 40⟩, ⟨40, 90, 150, 30, -60, 8, 50, 30⟩, ⟨40, 90, 160, 45, -40, 6, 90, 50⟩,
    ⟨40, 90, 150, 50, -30, 4, 50, 30⟩, ⟨40, 90, 180, 60, -30, 4, 80, 60⟩⟩ ∧
  s.balCfg = ⟨5, -90, 2, 30, 10, 200, 100⟩ ∧
  s.gait = ⟨400, 800, 600, 400, 600, 200, 150, 1500, 60, 2, 2, 5, 4000⟩ ∧
  (∀ l, s.feet.get l = ⟨.air, 0, 0, 0, .waiting, some 3, .unsurveyed⟩) ∧
  s.att = ⟨⟨0, 0, 1000⟩, true, 10, 200, none⟩ ∧
  (∀ l, s.bal.support.get l = false) ∧ s.bal.held = ⟨10, 0, -1000, 0, false, true, 90⟩ ∧
  s.bal.eval = none ∧ s.bal.evalPending = false ∧ s.bal.below = 0 ∧ s.bal.braceOut = false ∧ s.bal.queue = [] ∧
  s.bal.preshift = none ∧ s.plan = ⟨[], [], [], .idle, none⟩ ∧
  (∀ l, (s.legs.get l).phase = .folded ∧ (s.legs.get l).motion = none ∧ (s.legs.get l).record = none ∧
    (s.legs.get l).step = none ∧ (s.legs.get l).commanded = ⟨0, 0, -210⟩ ∧ (s.legs.get l).reached = false ∧
    (s.legs.get l).timer = none ∧ (s.legs.get l).clamped = false ∧ (s.legs.get l).derating = false) ∧
  s.bus.queue = [] ∧ s.bus.line = .guard 400 ∧
  (∀ l, s.bus.drives.get l = ⟨⟨0, 0, -210⟩, none, 0, 5⟩ ∧ (s.bus.drives.get l).link = .online) ∧
  s.sup.mode = .parked ∧ s.sup.riseSettle = none ∧ s.sup.supportLow = true ∧ s.sup.supportLost = none ∧
  s.sup.silenceLimit = 0 ∧ s.sup.policy = .suspend ∧ s.sup.latch = false ∧ s.sup.pendingSettle = false ∧
  s.sup.silenceInRise = false ∧ s.link = ⟨[], none, [], false, [], none, none⟩ ∧
  s.ev.time = 0 ∧ (∀ e, hasEvent s.ev.pending e = false ∧ hasEvent s.ev.mask e = true) ∧ s.ev.fault = none ∧
  s.ev.overflow = false ∧ s.ev.counters = ⟨0, 0, 0, 0, 0, 0, 0, 0, 0, 0, 0, 0, 0, 0, 0, 0⟩

/-- RESET FULL is taken in every mode and its reply queued; RESET MOTION resets the motion state at once, in PARKED only;
another scope is refused BAD_VALUE in every mode, by whichever of the two commands takes it (log 3). Of the values RESET MOTION
sets, that no speed and no AT_LIMIT arrival is remembered is the model's choice (log 15, log 16). -/
def Obligations.ResetRequests : Prop :=
  ∀ (s : State) (f : Frame) (rest : List Frame), Taking s f rest → f.kind = 0x23#8 →
    (f.payload = [0#8] →
      exec .resetFull s = .next (s.setLink
        { s.link with buffer := rest, tx := s.link.tx ++ [.reply (replyTo f .ok []) true], resetTaken := true })) ∧
    (f.payload = [1#8] → s.sup.mode ≠ .parked →
      exec .resetMotion s = .next (s.replied rest (replyTo f .wrongMode []))) ∧
    (f.payload = [1#8] → s.sup.mode = .parked →
      exec .resetMotion s = .next
        { s with
          feet := Quad.const ⟨.air, 0, 0, 0, .waiting, some 3, .unsurveyed⟩
          att := ⟨⟨0, 0, 1000⟩, true, s.balCfg.staleLimit, s.balCfg.lostLimit, none⟩
          bal := ⟨Quad.const false,
            ⟨s.geo.com.x, s.geo.com.y, -1000, 0, false, true, s.surf.unsurveyed.margin34 + s.balCfg.stalePenalty⟩,
            none, false, 0, false, [], none⟩
          plan := ⟨[], [], [], .idle, none⟩
          legs := Quad.const ⟨.folded, none, none, none, ⟨0, 0, -s.geo.park⟩, none, false, false, none, false, false⟩
          bus := ⟨[], .guard 400, Quad.const ⟨⟨0, 0, -s.geo.park⟩, none, 0, 5⟩⟩
          sup := { s.sup with
            riseSettle := none, supportLow := true, supportLost := none, pendingSettle := false, silenceInRise := false }
          link := { s.link with
            silence := none, buffer := rest, tx := s.link.tx ++ [.reply (replyTo f .ok []) false] } }) ∧
    (∀ b, f.payload = [b] → b ≠ 0#8 → b ≠ 1#8 →
      exec .resetFull s = .next (s.replied rest (replyTo f .badValue [])) ∧
        exec .resetMotion s = .next (s.replied rest (replyTo f .badValue [])))

/-- Every invariant of Safety.lean holds after power-on. -/
def Obligations.ResetMeetsEveryInvariant : Prop :=
  PlanStands State.reset ∧ LatchKept State.reset ∧ SupportIsLoaded State.reset ∧ PlanRoom State.reset ∧
    LinkRoom State.reset ∧ BusRoom State.reset ∧ AirborneRoom State.reset ∧ EvalReadsQueue State.reset ∧ WaitingStands State.reset ∧
    HoldsStill State.reset ∧ OverflowNeedsFault State.reset ∧ InRange State.reset ∧ SettleWaits State.reset ∧
    SteppingServes State.reset ∧ HeadWaits State.reset

/-! ## Event Unit -/

/-- What raising an event does (R169): nothing to a kind that is pending; else its flag is set, and if it is unmasked and no
notice waits, a notice joins the tail of the transmit queue. -/
def Obligations.RaisingAnEvent : Prop :=
  ∀ (e : Event) (s : State),
    (hasEvent s.ev.pending e = true → raise e s = s) ∧
    (hasEvent s.ev.pending e = false →
      (raise e s).ev = { s.ev with pending := (raise e s).ev.pending } ∧
      (∀ k, hasEvent (raise e s).ev.pending k = (hasEvent s.ev.pending k || decide (k = e))) ∧
      (hasEvent s.ev.mask e = false → (∀ i ∈ s.link.tx, i ≠ .notice) →
        (raise e s).link = { s.link with tx := s.link.tx ++ [.notice] }) ∧
      (hasEvent s.ev.mask e = true ∨ .notice ∈ s.link.tx → (raise e s).link = s.link) ∧
      raise e s = (s.setEv (raise e s).ev).setLink (raise e s).link)

/-- EVENT_MASK, EVENT_ACK, FAULT_READ, FAULT_CLEAR, COUNTERS_READ and COUNTERS_READ_CLEAR (R170, R171, R173, R175). -/
def Obligations.EventUnitRequests : Prop :=
  ∀ (s : State) (f : Frame) (rest : List Frame), Taking s f rest →
    (f.kind = 0x40#8 → ∀ lo hi : Byte, f.payload = [lo, hi] → hi.toNat < 16 →
      let mask : EventSet := BitVec.ofNat 12 (lo.toNat + 256 * hi.toNat)
      let reply := replyTo f .ok (put16 mask.toNat ++ put16 s.ev.pending.toNat)
      let s1 := s.setEv { s.ev with mask := mask }
      let notice : Prop := (∃ e, hasEvent s.ev.mask e = true ∧ hasEvent mask e = false ∧ hasEvent s.ev.pending e = true) ∧
        TxItem.notice ∉ s.link.tx
      (notice → exec .eventMask s = .next
        (s1.setLink { s.link with buffer := rest, tx := s.link.tx ++ [.notice, .reply reply false] })) ∧
      (¬ notice → exec .eventMask s = .next (s1.replied rest reply))) ∧
    (f.kind = 0x41#8 → ∀ lo hi : Byte, f.payload = [lo, hi] → hi.toNat < 16 →
      let left : EventSet := s.ev.pending &&& ~~~BitVec.ofNat 12 (lo.toNat + 256 * hi.toNat)
      exec .eventAck s = .next
        ((s.setEv { s.ev with pending := left }).replied rest (replyTo f .ok (put16 left.toNat)))) ∧
    (f.kind = 0x40#8 → ∀ lo hi : Byte, f.payload = [lo, hi] → 16 ≤ hi.toNat →
      exec .eventMask s = .next (s.replied rest (replyTo f .badValue []))) ∧
    (f.kind = 0x41#8 → ∀ lo hi : Byte, f.payload = [lo, hi] → 16 ≤ hi.toNat →
      exec .eventAck s = .next (s.replied rest (replyTo f .badValue []))) ∧
    (f.kind = 0x42#8 → f.payload = [] → exec .faultRead s = .next (s.replied rest (replyTo f .ok (faultBlock s)))) ∧
    (f.kind = 0x43#8 → f.payload = [] →
      exec .faultClear s = .next
        ((s.setEv { s.ev with fault := none, overflow := false }).replied rest (replyTo f .ok (faultBlock s)))) ∧
    (f.kind = 0x44#8 → f.payload = [] →
      exec .countersRead s = .next (s.replied rest (replyTo f .ok (counterBlock s.ev.counters)))) ∧
    (f.kind = 0x45#8 → f.payload = [] →
      exec .countersReadClear s = .next
        ((s.setEv { s.ev with counters := ⟨0, 0, 0, 0, 0, 0, 0, 0, 0, 0, 0, 0, 0, 0, 0, 0⟩ }).replied rest
          (replyTo f .ok (counterBlock s.ev.counters))))

/-- A captured fault stays as it was captured until FAULT_CLEAR, power-on or the end of RESET FULL; and the overflow flag is set
only while the record holds a fault, which every step keeps so (R172). -/
def Obligations.FaultRecordIsKept : Prop :=
  (∀ (c : Instr) (s t : State) (r : FaultRecord), exec c s = .next t → s.ev.fault = some r → c ≠ .faultClear →
    ¬ resetsPart c s → t.ev.fault = some r) ∧
  ∀ s t : State, OverflowNeedsFault s → step s = .next t → OverflowNeedsFault t

/-- A pending event flag is cleared only by EVENT_ACK and by the resets of the whole part (R168, R171). -/
def Obligations.PendingFlagsStay : Prop :=
  ∀ (c : Instr) (s t : State) (e : Event), exec c s = .next t → hasEvent s.ev.pending e = true → c ≠ .eventAck →
    ¬ resetsPart c s → hasEvent t.ev.pending e = true

/-- What only its own command changes: the time base (R1), the event mask (R170), the configuration records (R6, R11, R67,
R123), the silence settings (R151) and the straps (R154), the resets of the whole part apart. -/
def Obligations.EachRecordHasOneWriter : Prop :=
  ∀ (c : Instr) (s t : State), exec c s = .next t → ¬ resetsPart c s →
    (c ≠ .timeBaseTick → t.ev.time = s.ev.time) ∧ (c ≠ .eventMask → t.ev.mask = s.ev.mask) ∧
    (c ≠ .setGeometry → t.geo = s.geo) ∧ (c ≠ .setSurface → t.surf = s.surf) ∧
    (c ≠ .setBalance → t.balCfg = s.balCfg) ∧ (c ≠ .setGait → t.gait = s.gait) ∧
    (c ≠ .setSupervision → t.sup.silenceLimit = s.sup.silenceLimit ∧ t.sup.policy = s.sup.policy ∧
      t.sup.latch = s.sup.latch) ∧
    t.sup.linkRate = s.sup.linkRate ∧ t.sup.imuFlip = s.sup.imuFlip

/-- TIME_BASE_TICK advances the time base by one, wrapping from 2^32 − 1 to 0, and takes one millisecond from every running
millisecond timer, down to 0; a stopped timer stays stopped and nothing else changes. That the timers are counted by this tick is
DEDUCED (log 5). -/
def Obligations.TickAdvancesTheTimeBase : Prop :=
  ∀ s : State, ∃ t, exec .timeBaseTick s = .next t ∧
    let down := fun (timer : Option Nat) => timer.map fun n => n - 1
    t.ev = { s.ev with time := BitVec.ofNat 32 (s.ev.time.toNat + 1) } ∧
    t.geo = s.geo ∧ t.surf = s.surf ∧ t.balCfg = s.balCfg ∧ t.gait = s.gait ∧ t.pending = s.pending ∧
    (∀ l, t.feet.get l = { s.feet.get l with stale := down (s.feet.get l).stale } ∧
      t.legs.get l = { s.legs.get l with timer := down (s.legs.get l).timer } ∧
      t.bus.drives.get l = { s.bus.drives.get l with poll := (s.bus.drives.get l).poll - 1 }) ∧
    t.bus.queue = s.bus.queue ∧ t.bus.line = s.bus.line ∧
    t.att = { s.att with
      staleTimer := s.att.staleTimer - 1, lostTimer := s.att.lostTimer - 1, reading := down s.att.reading } ∧
    t.bal = { s.bal with preshift := s.bal.preshift.map fun p => { p with timer := p.timer - 1 } } ∧
    t.plan = { s.plan with shiftTimer := down s.plan.shiftTimer } ∧
    t.sup = { s.sup with riseSettle := down s.sup.riseSettle, supportLost := down s.sup.supportLost } ∧
    t.link = { s.link with gap := down s.link.gap, silence := down s.link.silence }

/-! ## Link Port -/

/-- A hunting receiver drops every byte but a SYNC and every byte with a stop-bit error; a SYNC begins a frame; a byte that leaves
the frame short of its LEN is held and restarts the gap timer (R158). A frame is discarded by a LEN above 96, by the gap timer's
expiry, by a byte with a stop-bit error and by a CHECK that does not match: the discard is counted and LINK_ERROR raised, and the
bytes after the SYNC are then taken again one after another, as if each had just arrived; with no SYNC among them the receiver is
left hunting, and of two SYNCs in a row the second begins a frame (R159). Nothing else changes. A gap timer that has not run out
does not expire (log 1, log 4). -/
def Obligations.ReceiverHunts : Prop :=
  ∀ (b : Byte) (s : State),
    let counted := raise .linkError
      (s.setEv { s.ev with counters := { s.ev.counters with framesBadCheck := s.ev.counters.framesBadCheck + 1 } })
    let discards := fun (c : Instr) (later : List Byte) =>
      c = .linkByte b false ∧ s.link.held = [0xA5#8] ∧ 96 < b.toNat ∧ later = [b] ∨
      c = .gapTimerExpiry ∧ s.link.gap = some 0 ∧ s.link.held = 0xA5#8 :: later ∨
      c = .linkByte b true ∧ s.link.held = 0xA5#8 :: later ∨
      c = .linkByte b false ∧ (∃ len rest, later = len :: rest ∧ s.link.held ++ [b] = 0xA5#8 :: later ∧ len.toNat ≤ 96 ∧
        rest.length = len.toNat + 4 ∧ putCheck (crc16 (later.take (len.toNat + 3))) ≠ later.drop (len.toNat + 3))
    (s.link.held = [] →
      exec (.linkByte b true) s = .next s ∧
      (b ≠ 0xA5#8 → exec (.linkByte b false) s = .next (s.setLink { s.link with held := [], gap := none })) ∧
      exec (.linkByte 0xA5#8 false) s = .next (s.setLink { s.link with held := [0xA5#8], gap := some 2 })) ∧
    (∀ len rest, s.link.held ++ [b] = 0xA5#8 :: len :: rest → len.toNat ≤ 96 → rest.length < len.toNat + 4 →
      exec (.linkByte b false) s = .next (s.setLink { s.link with held := s.link.held ++ [b], gap := some 2 })) ∧
    (∀ c later, discards c later →
      ∃ t, exec c s = .next t ∧
        takeBytes later (counted.setLink { counted.link with held := [], gap := none }) = some t ∧
        (0xA5#8 ∉ later → t = counted.setLink { counted.link with held := [], gap := none }) ∧
        (later = [0xA5#8] → t = counted.setLink { counted.link with held := [0xA5#8], gap := some 2 })) ∧
    (s.link.gap ≠ some 0 → exec .gapTimerExpiry s = .next s)

/-- The part receives what it would send: a frame of at most 96 payload bytes, laid out as R157 says and taken byte by byte by
a hunting receiver, is one good frame and is counted; with fewer than 4 frames buffered it joins the tail of the receive buffer
with its KIND, TAG and payload and the silence timer is restarted where it may run; with 4 it is dropped as an overrun, counted
and LINK_ERROR raised, and the silence timer is not restarted (R152, R157, R158, R160). -/
def Obligations.FrameIsReceivedWhole : Prop :=
  ∀ (f : Frame) (s : State), f.payload.length ≤ 96 → s.link.held = [] →
    (s.link.buffer.length < 4 →
      takeBytes (linkFrameBytes f) s = some
        ((s.setEv { s.ev with counters := { s.ev.counters with framesGood := s.ev.counters.framesGood + 1 } }).setLink
          { s.link with
            held := [], gap := none, buffer := s.link.buffer ++ [f]
            silence :=
              if (s.sup.mode = .rising ∨ s.sup.mode = .standing) ∧ s.sup.silenceLimit ≠ 0 then some s.sup.silenceLimit
              else s.link.silence })) ∧
    (4 ≤ s.link.buffer.length →
      ∃ t, takeBytes (linkFrameBytes f) s = some t ∧ t.link.held = [] ∧ t.link.gap = none ∧
        t.link.buffer = s.link.buffer ∧ t.link.silence = s.link.silence ∧
        t.ev.counters = { s.ev.counters with
          framesGood := s.ev.counters.framesGood + 1, framesOverrun := s.ev.counters.framesOverrun + 1 } ∧
        hasEvent t.ev.pending .linkError = true)

/-- What the receiver takes for a good frame is the layout of R157, byte for byte: no other bytes pass. -/
def Obligations.OnlyWholeFramesAreGood : Prop :=
  ∀ (bs : List Byte) (f : Frame), assemble (0xA5#8 :: bs) = .good f →
    f.payload.length ≤ 96 ∧ (0xA5#8 :: bs).take (f.payload.length + 6) = linkFrameBytes f

/-- The transmitter: it sends the head frame when idle, a notice with the content of that moment or not at all if nothing
unmasked is pending; at the end of a frame it is free, and the end of RESET FULL's reply resets the part with its straps kept
(R155, R164, R165). The model's choices: a frame being sent is not disturbed (log 1), after a notice removed unsent the next
frame waits for the next command and a notice is removed at no earlier moment (log 27, log 34), and the full reset keeps the
commands that wait (log 24). -/
def Obligations.TransmitterSends : Prop :=
  ∀ s : State,
    (∀ f full rest, s.link.sending = none → s.link.tx = .reply f full :: rest →
      exec .frameSendStart s = .next (s.setLink { s.link with tx := rest, sending := some ⟨linkFrameBytes f, full⟩ })) ∧
    (∀ rest, s.link.sending = none → s.link.tx = .notice :: rest → s.ev.pending &&& ~~~s.ev.mask ≠ 0#12 →
      exec .frameSendStart s = .next (s.setLink
        { s.link with
          tx := rest
          sending := some ⟨linkFrameBytes ⟨0x7E#8, 0#8, put16 (s.ev.pending &&& ~~~s.ev.mask).toNat
            ++ put8 s.sup.mode.code ++ put8 s.plan.state.code ++ put32 s.ev.time⟩, false⟩ })) ∧
    (∀ rest, s.link.sending = none → s.link.tx = .notice :: rest → s.ev.pending &&& ~~~s.ev.mask = 0#12 →
      exec .frameSendStart s = .next (s.setLink { s.link with tx := rest })) ∧
    (∀ f, s.link.sending = some f → exec .frameSendStart s = .next s) ∧
    (∀ bytes, s.link.sending = some ⟨bytes, false⟩ →
      exec .frameSendEnd s = .next (s.setLink { s.link with sending := none })) ∧
    (∀ bytes, s.link.sending = some ⟨bytes, true⟩ →
      exec .frameSendEnd s = .next
        { State.reset with
          sup := { State.reset.sup with linkRate := s.sup.linkRate, imuFlip := s.sup.imuFlip }
          pending := s.pending })

/-- PING, STATUS and a request of no known kind change nothing but the receive buffer and the transmit queue, and what PING and
STATUS answer is read at the taking (R162, R166, R167); the bytes of the STATUS fields are those of RepliesAreLaidOut. A request
of the wrong length is refused BAD_LENGTH in every mode and changes nothing, a RESET of wrong length by whichever of its two
commands takes it (log 3); a plan request's refusal carries the plan state and the count (R162, R163). -/
def Obligations.ReadingAndMalformedRequests : Prop :=
  ∀ (s : State) (f : Frame) (rest : List Frame), Taking s f rest →
    (f.kind ∉ requestKinds → exec .requestUnknownKind s = .next (s.replied rest (replyTo f .unknownKind []))) ∧
    (f.kind = 0x01#8 → f.payload = [] →
      exec .ping s = .next (s.replied rest
        (replyTo f .ok (put8 s.sup.mode.code ++ put8 s.plan.state.code ++ put32 s.ev.time)))) ∧
    (f.kind = 0x02#8 → f.payload = [] → exec .status s = .next (s.replied rest (replyTo f .ok (statusFields s)))) ∧
    (statusFields s).length = 76 ∧
    (∀ c k n, (c, k, n) ∈ ([(.ping, 0x01#8, 0), (.status, 0x02#8, 0), (.setGeometry, 0x10#8, 30), (.setSurface, 0x11#8, 17),
        (.setBalance, 0x12#8, 14), (.setGait, 0x13#8, 26), (.setSupervision, 0x14#8, 3), (.stand, 0x20#8, 1),
        (.sit, 0x21#8, 0), (.clearHold, 0x22#8, 0), (.resetFull, 0x23#8, 1), (.resetMotion, 0x23#8, 1),
        (.eventMask, 0x40#8, 2), (.eventAck, 0x41#8, 2), (.faultRead, 0x42#8, 0), (.faultClear, 0x43#8, 0),
        (.countersRead, 0x44#8, 0), (.countersReadClear, 0x45#8, 0)] : List (Instr × Byte × Nat)) →
      f.kind = k → f.payload.length ≠ n → exec c s = .next (s.replied rest (replyTo f .badLength []))) ∧
    (∀ c k n, (c, k, n) ∈ ([(.planStart, 0x31#8, 0), (.planSuspend, 0x32#8, 0), (.planResume, 0x33#8, 0),
        (.planCancel, 0x34#8, 2), (.planFlush, 0x35#8, 0), (.planReport, 0x36#8, 0)] : List (Instr × Byte × Nat)) →
      f.kind = k → f.payload.length ≠ n →
      exec c s = .next (s.replied rest
        (replyTo f .badLength (put8 s.plan.state.code ++ put8 s.plan.list.length)))) ∧
    (f.kind = 0x30#8 → f.payload.length ∉ [12, 24, 36, 48] →
      exec .planAppend s = .next (s.replied rest
        (replyTo f .badLength (put8 s.plan.state.code ++ put8 s.plan.list.length))))

/-- The layouts the part sends, byte by byte: the fault block, the counter block, a completion log entry and the fields of a
STATUS reply, with the values of the enumerations, the absence markers and the byte order (R176, R178, R179). -/
def Obligations.RepliesAreLaidOut : Prop :=
  (∀ m, Mode.code m = ([.parked, .rising, .standing, .settling, .safeHold] : List Mode).idxOf m) ∧
  (∀ p, PlanState.code p = ([.idle, .active, .draining, .suspended, .braced] : List PlanState).idxOf p) ∧
  ∀ (s : State) (e : LogEntry),
    let bit := fun (n : Nat) (b : Bool) => if b then 2 ^ n else 0
    let signed3 := fun (v : Vec3) => leSigned v.x ++ leSigned v.y ++ leSigned v.z
    let foothold := fun (i : Nat) => signed3 (e.footholds.getD i ⟨0, 0, 0⟩)
    let held := leBytes 1 (bit 0 s.ev.fault.isSome + bit 1 s.ev.overflow)
    let leg := fun (l : Leg) =>
      leBytes 1 (([.folded, .posture, .stance, .lift, .swing, .reach] : List Phase).idxOf (s.legs.get l).phase) ++
      leBytes 1 (([.air, .touch, .loaded, .slipping, .fault] : List Contact).idxOf (s.feet.get l).contact) ++
      leBytes 2 (s.feet.get l).lastLoad ++
      leBytes 1 (([.grating, .chequer, .tread, .dusted, .unsurveyed] : List SurfaceClass).idxOf (s.feet.get l).cls) ++
      signed3 (bodyPos s l) ++
      leBytes 1 (([.online, .suspect, .lost] : List LinkState).idxOf (s.bus.drives.get l).link) ++
      leBytes 1 (match (s.bus.drives.get l).last with
        | none => 0xFF
        | some r => ([.ready, .moving, .atLimit, .hot, .fault] : List DriveState).idxOf r.state)
    (s.ev.fault = none → faultBlock s = held ++ [0x00#8, 0xFF#8, 0x00#8, 0x00#8, 0x00#8, 0x00#8, 0x00#8, 0x00#8, 0x00#8]) ∧
    (∀ r, s.ev.fault = some r → faultBlock s = held ++
      leBytes 1 (([.driveLost, .driveFault, .loadSensor, .attitudeLost, .supportLost, .riseFailed, .settleFailed] :
        List FaultKind).idxOf r.kind) ++
      leBytes 1 (match r.leg with | none => 0xFF | some l => ([.fl, .fr, .rl, .rr] : List Leg).idxOf l) ++
      leBytes 1 r.mode.code ++ leBytes 2 (r.oldest.getD 0) ++ leBytes 4 r.time.toNat) ∧
    (let c := s.ev.counters
     counterBlock c = (([c.stepsOk, c.stepsClamped, c.stepsMissed, c.snags, c.slips, c.braces, c.preshifts, c.shiftsDone,
      c.driveTimeouts, c.driveCrcErrors, c.framesGood, c.framesBadCheck, c.framesOverrun, c.loadSensorFaults, c.attitudeStale,
      c.logOverwrites] : List Word).map fun w => leBytes 4 w.toNat).flatten) ∧
    logEntryBytes e =
      leBytes 2 e.id ++ leBytes 1 (([.step, .pair, .shift] : List RecordKind).idxOf e.kind) ++
      leBytes 1 ((e.legs.map fun l => 2 ^ ([.fl, .fr, .rl, .rr] : List Leg).idxOf l).sum) ++
      leBytes 1 (([.ok, .clamped, .missed, .snagged, .unstable, .braced, .stalled, .cancelled] : List Status).idxOf e.status) ++
      leBytes 1 e.preshifts ++ leBytes 4 e.time.toNat ++ foothold 0 ++ foothold 1 ∧
    statusFields s =
      leBytes 1 s.sup.mode.code ++ leBytes 1 s.plan.state.code ++ leBytes 1 s.plan.list.length ++
      leBytes 2 ((s.plan.window.map fun w => w.body.id).getD 0 0) ++
      leBytes 2 ((s.plan.window.map fun w => w.body.id).getD 1 0) ++
      leSigned s.bal.held.margin ++ leSigned s.bal.held.required ++ leBytes 1 s.bal.held.count ++
      leBytes 1 (bit 0 s.bal.held.degenerate + bit 1 s.bal.held.noSupport + bit 2 s.att.stale) ++
      leSigned s.bal.held.px ++ leSigned s.bal.held.py ++ leg .fl ++ leg .fr ++ leg .rl ++ leg .rr ++
      leBytes 2 s.ev.pending.toNat ++ held ++ leBytes 4 s.ev.time.toNat

/-- Every request taken leaves the receive buffer from its head and receives exactly one reply, of its KIND with the high bit
set and its TAG, at the tail of the replies; a request command whose request is not there to be taken changes nothing, be the
receive buffer empty, its head a request of another kind, or the taking closed (R161, R164), which is the model's choice (log 1,
log 2). -/
def Obligations.EachRequestGetsOneReply : Prop :=
  ∀ (c : Instr) (s t : State), exec c s = .next t → (∃ g, takes c g = true) →
    (s.link.buffer = [] → t = s) ∧
    ∀ (f : Frame) (rest : List Frame), s.link.buffer = f :: rest →
      (takes c f = false → t = s) ∧
      (takes c f = true → Taking s f rest →
        ∃ r data full, t.link.buffer = rest ∧
          (t.link.tx.filter fun i => !i.isNotice) =
            (s.link.tx.filter fun i => !i.isNotice) ++ [.reply (replyTo f r data) full]) ∧
      (takes c f = true → ¬ Taking s f rest → t = s)

/-- The Link Port never holds more than it has room for, and its receiver never holds a whole frame (R158 to R160, R164). The
transaction queue of the Drive Bus Controller holds at most one SETPOINT and one POLL for each drive, and the timeout counts stay
within 0 to 3 (R128, R137). Every step keeps both so. -/
def Obligations.LinkAndBusRoomAreKept : Prop :=
  (∀ s t : State, LinkRoom s → step s = .next t → LinkRoom t) ∧
  ∀ s t : State, BusRoom s → step s = .next t → BusRoom t

/-! ## Configuration -/

/-- The four configuration records: outside PARKED a request is refused WRONG_MODE; in PARKED one whose fields are all in range
replaces the whole record and is answered OK, and every other one of the right length is refused BAD_VALUE; a refusal changes
nothing (R2, R7, R12, R68, R124). -/
def Obligations.ConfigurationRequests : Prop :=
  ∀ (s : State) (f : Frame) (rest : List Frame), Taking s f rest →
    (s.sup.mode ≠ .parked →
      (f.kind = 0x10#8 → f.payload.length = 30 → exec .setGeometry s = .next (s.replied rest (replyTo f .wrongMode []))) ∧
      (f.kind = 0x11#8 → f.payload.length = 17 → exec .setSurface s = .next (s.replied rest (replyTo f .wrongMode []))) ∧
      (f.kind = 0x12#8 → f.payload.length = 14 → exec .setBalance s = .next (s.replied rest (replyTo f .wrongMode []))) ∧
      (f.kind = 0x13#8 → f.payload.length = 26 → exec .setGait s = .next (s.replied rest (replyTo f .wrongMode [])))) ∧
    (s.sup.mode = .parked →
      (∀ g : Geometry, f.kind = 0x10#8 → f.payload = geometryPayload g → g.inRange →
        exec .setGeometry s = .next ((s.setGeo g).replied rest (replyTo f .ok []))) ∧
      (∀ c (r : ClassRecord), f.kind = 0x11#8 → f.payload = surfacePayload c r → r.inRange →
        exec .setSurface s = .next ((s.setSurf (s.surf.set c r)).replied rest (replyTo f .ok []))) ∧
      (∀ b : BalanceCfg, f.kind = 0x12#8 → f.payload = balancePayload b → b.inRange →
        exec .setBalance s = .next ((s.setBalCfg b).replied rest (replyTo f .ok []))) ∧
      (∀ g : GaitCfg, f.kind = 0x13#8 → f.payload = gaitPayload g → g.inRange →
        exec .setGait s = .next ((s.setGait g).replied rest (replyTo f .ok []))) ∧
      (f.kind = 0x10#8 → f.payload.length = 30 → (¬ ∃ g : Geometry, g.inRange ∧ f.payload = geometryPayload g) →
        exec .setGeometry s = .next (s.replied rest (replyTo f .badValue []))) ∧
      (f.kind = 0x11#8 → f.payload.length = 17 →
        (¬ ∃ c, ∃ r : ClassRecord, r.inRange ∧ f.payload = surfacePayload c r) →
        exec .setSurface s = .next (s.replied rest (replyTo f .badValue []))) ∧
      (f.kind = 0x12#8 → f.payload.length = 14 → (¬ ∃ b : BalanceCfg, b.inRange ∧ f.payload = balancePayload b) →
        exec .setBalance s = .next (s.replied rest (replyTo f .badValue []))) ∧
      (f.kind = 0x13#8 → f.payload.length = 26 → (¬ ∃ g : GaitCfg, g.inRange ∧ f.payload = gaitPayload g) →
        exec .setGait s = .next (s.replied rest (replyTo f .badValue []))))

/-- SET_SUPERVISION replaces the limit and the policy together in every mode; SETTLE sets the latch; a limit of 1 to 49 or
above 5000, another policy value, or SUSPEND while the latch is set is refused BAD_VALUE and changes nothing (R151, R152). After
the policy has been set to SETTLE it stays SETTLE until power-on or full reset: every step keeps it so, and the latch falls only
at those resets (R151). -/
def Obligations.SilenceSettings : Prop :=
  (∀ s t : State, LatchKept s → step s = .next t →
    LatchKept t ∧ ∀ c rest, s.pending = c :: rest → s.sup.latch = true → ¬ resetsPart c s → t.sup.latch = true) ∧
  ∀ (s : State) (f : Frame) (rest : List Frame) (lo hi p : Byte), Taking s f rest → f.kind = 0x14#8 →
    f.payload = [lo, hi, p] →
    let limit := lo.toNat + 256 * hi.toNat
    let ok : Prop := (limit = 0 ∨ 50 ≤ limit ∧ limit ≤ 5000) ∧ (p = 0#8 ∧ s.sup.latch = false ∨ p = 1#8)
    (ok → exec .setSupervision s = .next
      ((s.setSup { s.sup with
          silenceLimit := limit, policy := if p = 0#8 then .suspend else .settle
          latch := s.sup.latch || decide (p = 1#8) }).setLink
        { s.link with
          buffer := rest, tx := s.link.tx ++ [.reply (replyTo f .ok []) false]
          silence :=
            if limit = 0 then none
            else if s.sup.mode = .rising ∨ s.sup.mode = .standing then some limit
            else s.link.silence })) ∧
    (¬ ok → exec .setSupervision s = .next (s.replied rest (replyTo f .badValue [])))

/-- The configuration records, the silence limit, the held attitude sample, and of each foot the slip count, the last load and the
qualify counter stay within the ranges the manual gives them, at every step (R6, R11, R19, R21, R26, R36, R67, R123, R151). -/
def Obligations.RangesAreKept : Prop :=
  ∀ s t : State, InRange s → step s = .next t → InRange t

/-- A plan record as R178 lays it out is read back with every field, its displacement clamped to the limits of its kind and the
CLAMPED mark set exactly where the clamp acted (R70, R71). Twelve bytes that lay out no accepted record are refused: an id of 0,
a kind, legs or a class not of the kind, a reserved flag, NO_PRESHIFT on a SHIFT (R70). A payload is accepted only if every one
of its records is. -/
def Obligations.PlanRecordIsReadBack : Prop :=
  (∀ (id : Nat) (k : RecordKind) (legs : List Leg) (d : Vec3) (cls : Option SurfaceClass) (hold notify np : Bool),
    1 ≤ id → id ≤ 65535 → recordOk k legs cls np → fits16 d.x → fits16 d.y → fits16 d.z →
    let xy : Int := if k = .shift then 150 else 400
    let z : Int := if k = .shift then 100 else 300
    let stored : Vec3 := ⟨max (-xy) (min xy d.x), max (-xy) (min xy d.y), max (-z) (min z d.z)⟩
    decodeRecord (recordBytes id k legs d cls hold notify np) =
      some ⟨id, k, legs, stored, cls, hold, notify, np, decide (stored ≠ d), 0⟩) ∧
  (∀ p : List Byte, p.length = 12 →
    (¬ ∃ id k legs, ∃ d : Vec3, ∃ cls hold notify np, 1 ≤ id ∧ id ≤ 65535 ∧ recordOk k legs cls np ∧ fits16 d.x ∧ fits16 d.y ∧
      fits16 d.z ∧ p = recordBytes id k legs d cls hold notify np) →
    decodeRecord p = none) ∧
  ∀ ps : List (List Byte), (∀ p ∈ ps, p.length = 12) →
    (∀ rs, decodeRecords ps.length ps.flatten = some rs ↔ ps.map decodeRecord = rs.map some) ∧
    (decodeRecords ps.length ps.flatten = none ↔ ∃ p ∈ ps, decodeRecord p = none)

/-! ## Contact Monitor -/

/-- How a completed period is classified (R18), and LOAD_SAMPLE with a valid sample: the last load, the contact state, the
counts, a new measurement and the stale timer of that foot as the manual says, under the class in force when the sample is
taken; every other foot keeps its contact state and counts (R15 to R23, R25). A foot that joins or leaves LOADED by it joins or
leaves the support set, with the evaluation and the support-lost supervision that follow (R48, R51, R150). -/
def Obligations.ValidSampleMovesContact : Prop :=
  (∀ high period : Nat,
    (period < 800 ∨ 1250 < period → classify high period = .badPeriod) ∧
    (800 ≤ period → period ≤ 1250 →
      (high * 1000 / period < 50 → classify high period = .openCircuit) ∧
      (950 < high * 1000 / period → classify high period = .short) ∧
      (50 ≤ high * 1000 / period → high * 1000 / period ≤ 950 →
        classify high period = .valid (min 1600 (2 * (high * 1000 / period - 100)))))) ∧
  ∀ (s : State) (l : Leg) (h : Option Nat) (period load : Nat), (s.feet.get l).measurement = .measuring h →
    classify (h.getD period) period = .valid load →
    ∃ t, exec (.loadSample l period) s = .next t ∧
      t.feet.get l = sampledFoot (s.surf.get (s.feet.get l).cls) load
        { s.feet.get l with lastLoad := load, measurement := .measuring none, stale := some 3 } ∧
      (∀ m, m ≠ l → t.feet.get m = s.feet.get m) ∧
      ((t.feet.get l).contact ≠ (s.feet.get l).contact → SupportFollows l (decide ((t.feet.get l).contact = .loaded)) s t) ∧
      ((t.feet.get l).contact = (s.feet.get l).contact → t.bal = s.bal ∧ t.sup = s.sup)

/-- An invalid load: a STALE judgement, whose measurement is abandoned and whose timer stops, or a completed period classified
BAD_PERIOD, OPEN or SHORT, which begins a new measurement and restarts the timer. In AIR, TOUCH, LOADED or SLIPPING it is a
fault entry: the foot goes to FAULT with its counts and last load 0, and SENSOR_FAULT is counted and raised; with another foot
in FAULT it is a LOAD_SENSOR fault, which enters SAFE_HOLD or is taken in it; that this acts before the entry's contact change
report is the model's choice (log 35), as is the log order of two records that the entry cancels (log 36). In FAULT it counts
and raises nothing and changes only that foot (R17, R19, R24, R31, R148). -/
def Obligations.StaleLoadIsAFaultEntry : Prop :=
  ∀ (s : State) (l : Leg) (c : Instr) (m : Measurement) (timer : Option Nat),
    (c = .loadStale l ∧ (s.feet.get l).stale = some 0 ∧ m = .waiting ∧ timer = none ∨
      ∃ h period, c = .loadSample l period ∧ (s.feet.get l).measurement = .measuring h ∧
        classify (h.getD period) period ∈ ([.badPeriod, .openCircuit, .short] : List LoadSample) ∧ m = .measuring none ∧
        timer = some 3) →
    let f := s.feet.get l
    let another : Prop := ∃ o, o ≠ l ∧ (s.feet.get o).contact = .fault
    (f.contact = .fault →
      exec c s = .next (s.setFeet (s.feet.set l { f with lastLoad := 0, stale := timer, measurement := m }))) ∧
    (f.contact ≠ .fault →
      ∃ t, exec c s = .next t ∧
        t.feet.get l =
          { f with contact := .fault, lastLoad := 0, stale := timer, measurement := m, qualify := 0, slip := 0 } ∧
        (∀ o, o ≠ l → t.feet.get o = s.feet.get o) ∧
        t.ev.counters.loadSensorFaults = s.ev.counters.loadSensorFaults + 1 ∧ hasEvent t.ev.pending .sensorFault = true ∧
        (¬ another → t.ev.fault = s.ev.fault) ∧
        (another → s.sup.mode ≠ .safeHold → EntersSafeHold .loadSensor (some l) s t) ∧
        (another → s.sup.mode = .safeHold →
          FaultInSafeHold .loadSensor (some l) s t ∧ t.legs = s.legs ∧ t.bus = s.bus ∧ t.plan = s.plan))

/-- SLIP_PULSE is counted while LOADED and ignored otherwise; the pulse that takes the count above twice the slip limit of the
class in force takes the foot to SLIPPING, raises SLIP and counts it (R26); the foot leaves the support set, with what follows
(R48, R51, R150). The edges of a load line that complete no period: the first rising edge begins a measurement, the first
falling edge after it marks the high time, and nothing else changes (R16; log 31); a stale timer that has not run out does
nothing (log 1, log 4). -/
def Obligations.SlipPulseCounts : Prop :=
  (∀ (s : State) (l : Leg),
    let f := s.feet.get l
    ((f.contact ≠ .loaded → exec (.slipPulse l) s = .next s) ∧
    (f.contact = .loaded → f.slip + 1 ≤ 2 * (s.surf.get f.cls).slipLimit →
      exec (.slipPulse l) s = .next (s.setFeet (s.feet.set l { f with slip := f.slip + 1 }))) ∧
    (f.contact = .loaded → 2 * (s.surf.get f.cls).slipLimit < f.slip + 1 →
      ∃ t, exec (.slipPulse l) s = .next t ∧ t.feet.get l = { f with contact := .slipping, slip := f.slip + 1 } ∧
        (∀ m, m ≠ l → t.feet.get m = s.feet.get m) ∧ SupportFollows l false s t ∧
        hasEvent t.ev.pending .slip = true ∧ t.ev.counters.slips = s.ev.counters.slips + 1 ∧
        (s.sup.mode = .standing → planRuns s = true → s.bal.support.get l = true →
          t.bal.braceOut = true ∧ t.bal.below = 0)))) ∧
  ∀ (s : State) (l : Leg) (n : Nat),
    ((s.feet.get l).measurement = .waiting →
      exec (.loadSample l n) s = .next
        (s.setFeet (s.feet.set l { s.feet.get l with measurement := .measuring none })) ∧
      exec (.loadFallingEdge l n) s = .next s) ∧
    ((s.feet.get l).measurement = .measuring none →
      exec (.loadFallingEdge l n) s = .next
        (s.setFeet (s.feet.set l { s.feet.get l with measurement := .measuring (some n) }))) ∧
    (∀ h, (s.feet.get l).measurement = .measuring (some h) → exec (.loadFallingEdge l n) s = .next s) ∧
    ((s.feet.get l).stale ≠ some 0 → exec (.loadStale l) s = .next s)

/-- The support set is the set of LOADED feet, and every step keeps it so (R51). -/
def Obligations.SupportSetFollowsContact : Prop :=
  ∀ s t : State, SupportIsLoaded s → step s = .next t → SupportIsLoaded t

/-! ## Attitude Port -/

/-- A read begins at data-ready if none is in progress; it ends at its timeout, or with a clear validity flag, without any
effect but its end; without a read in progress a completion does nothing, nor does a timeout whose time is not up (R34, R35; log
1, log 4). An accepted read replaces the held sample by its intake, x and y negated where the IMU_FLIP strap was high and then
clamped (R36), clears the stale flag, restarts the stale and the lost timer and triggers one evaluation (R35). -/
def Obligations.AttitudeReads : Prop :=
  ∀ (s : State) (fx fy fz : Half),
    (s.att.reading = none →
      exec .attitudeReadStart s = .next (s.setAtt { s.att with reading := some 1 }) ∧
      ∀ v, exec (.attitudeReadDone fx fy fz v) s = .next s) ∧
    (∀ n, s.att.reading = some n →
      exec .attitudeReadStart s = .next s ∧
      exec (.attitudeReadDone fx fy fz false) s = .next (s.setAtt { s.att with reading := none })) ∧
    (s.att.reading = some 0 → exec .attitudeReadTimeout s = .next (s.setAtt { s.att with reading := none })) ∧
    (s.att.reading ≠ some 0 → exec .attitudeReadTimeout s = .next s) ∧
    (∀ n, s.att.reading = some n →
      ∃ t, exec (.attitudeReadDone fx fy fz true) s = .next t ∧
        (let x : Int := if s.sup.imuFlip then -fx.toInt else fx.toInt
         let y : Int := if s.sup.imuFlip then -fy.toInt else fy.toInt
         t.att = ⟨⟨max (-2000) (min 2000 x), max (-2000) (min 2000 y), max 400 (min 3000 fz.toInt)⟩, false,
           s.balCfg.staleLimit, s.balCfg.lostLimit, none⟩) ∧
        (s.bal.eval = none → ∃ e, t.bal.eval = some e ∧ e.sample = t.att.sample ∧ e.stale = false ∧
          e.support = s.bal.support ∧ t.bal.evalPending = s.bal.evalPending) ∧
        (∀ e, s.bal.eval = some e → t.bal.eval = some e ∧ t.bal.evalPending = true) ∧
        t.sup = s.sup ∧ t.ev = s.ev ∧ t.link = s.link ∧ ∀ l, t.feet.get l = s.feet.get l)

/-- ATTITUDE_STALE_EXPIRY sets the stale flag, restarts the timer and triggers an evaluation; from a clear flag it begins an
episode, raising SENSOR_FAULT and counting attitude_stale once (R38, R39). ATTITUDE_LOST restarts the lost timer; in STANDING it
enters SAFE_HOLD, with its records seen to (R94; their log order is log 36), and in any other mode it is not a fault (R41). A
timer that has not run out does not expire (log 1, log 4), so after an accepted sample taken first neither expiry happens (R42).
-/
def Obligations.AttitudeTimersExpire : Prop :=
  ∀ s : State,
    (s.att.staleTimer = 0 →
      ∃ t, exec .attitudeStaleExpiry s = .next t ∧ t.att = { s.att with stale := true, staleTimer := s.balCfg.staleLimit } ∧
        (s.att.stale = true → t.ev = s.ev ∧ t.link = s.link) ∧
        (s.att.stale = false → hasEvent t.ev.pending .sensorFault = true ∧
          t.ev.counters = { s.ev.counters with attitudeStale := s.ev.counters.attitudeStale + 1 }) ∧
        (s.bal.eval = none → ∃ e, t.bal.eval = some e ∧ e.sample = s.att.sample ∧ e.stale = true) ∧
        (∀ e, s.bal.eval = some e → t.bal = { s.bal with evalPending := true }) ∧
        t.plan = s.plan ∧ t.legs = s.legs ∧ t.bus = s.bus ∧ t.sup = s.sup) ∧
    (s.att.lostTimer = 0 → s.sup.mode ≠ .standing →
      exec .attitudeLost s = .next (s.setAtt { s.att with lostTimer := s.balCfg.lostLimit })) ∧
    (s.att.lostTimer = 0 → s.sup.mode = .standing →
      ∃ t, exec .attitudeLost s = .next t ∧ t.att = { s.att with lostTimer := s.balCfg.lostLimit } ∧
        EntersSafeHold .attitudeLost none s t) ∧
    (s.att.staleTimer ≠ 0 → exec .attitudeStaleExpiry s = .next s) ∧
    (s.att.lostTimer ≠ 0 → exec .attitudeLost s = .next s) ∧
    ∀ n fx fy fz, s.att.reading = some n → s.balCfg.staleLimit ≠ 0 → s.balCfg.lostLimit ≠ 0 →
      ∃ t, exec (.attitudeReadDone fx fy fz true) s = .next t ∧ exec .attitudeStaleExpiry t = .next t ∧
        exec .attitudeLost t = .next t

/-! ## Arithmetic -/

/-- The integer square root is the floor of the true root. The height is c_z less the mean z of the LOADED feet, truncated
toward zero, or with fewer than two of them c_z plus the standing height, clamped to 50 to 1200 (R44). The offset of the
pressure point is h·f divided by f_z, rounded to the nearest whole number with halves away from zero, then clamped to −1000 to
+1000 (R45). The pressure point is the centre of mass less the offset, clamped to −2000 to +2000 (R46). -/
def Obligations.RootAndRounding : Prop :=
  (∀ n : Nat, isqrt n * isqrt n ≤ n ∧ n < (isqrt n + 1) * (isqrt n + 1)) ∧
  (∀ h f fz : Int, 0 < fz → ∃ q : Int, IsNearest (h * f) fz q ∧ offset h f fz = max (-1000) (min 1000 q)) ∧
  ∀ e : EvalInputs,
    let loaded := ([.fl, .rl, .rr, .fr] : List Leg).filter fun l => e.support.get l
    let z := (loaded.map fun l => (e.feet.get l).z).sum
    let h : Int := max 50 (min 1200
      (if 2 ≤ loaded.length then e.geo.com.z - z.tdiv loaded.length else e.geo.com.z + e.geo.standing))
    pressurePoint e =
      (max (-2000) (min 2000 (e.geo.com.x - offset h e.sample.x e.sample.z)),
        max (-2000) (min 2000 (e.geo.com.y - offset h e.sample.y e.sample.z)))

/-- The in-plane part of the workspace clamp keeps a target whose integer length L is at most R, else scales x and y by R/L
truncated toward zero; the depth part brings z into −z_max to −z_min; and what it gives it keeps if clamped again (R9, R10). The
body-frame measured position adds the hip offsets and is clamped, and a body-frame target loses them and is put through the
workspace clamp (R4, R5). -/
def Obligations.WorkspaceClampSettles : Prop :=
  (∀ (g : Geometry) (v : Vec3), 0 < g.reach → g.zMin ≤ g.zMax →
    (∃ n : Nat, (n * n : Int) ≤ v.x * v.x + v.y * v.y ∧ v.x * v.x + v.y * v.y < (n + 1) * (n + 1) ∧
      let w := workspaceClamp g v
      ((n : Int) ≤ g.reach → w.x = v.x ∧ w.y = v.y) ∧
      (g.reach < n → w.x = (v.x * g.reach).tdiv n ∧ w.y = (v.y * g.reach).tdiv n) ∧
      w.z = max (-g.zMax) (min (-g.zMin) v.z)) ∧
    workspaceClamp g (workspaceClamp g v) = workspaceClamp g v) ∧
  ∀ (s : State) (l : Leg) (v : Vec3),
    let p := (s.bus.drives.get l).pos
    bodyPos s l = ⟨max (-2000) (min 2000 (p.x + s.geo.hipX.get l)), max (-2000) (min 2000 (p.y + s.geo.hipY.get l)),
      max (-1000) (min 500 p.z)⟩ ∧
    hipTarget s.geo l v = workspaceClamp s.geo ⟨v.x - s.geo.hipX.get l, v.y - s.geo.hipY.get l, v.z⟩

/-- The margin of two feet: with L the integer length from A to B, −1000 and DEGENERATE if L is below 20, else minus the floor
of the cross value's size over L, never positive (R56). Every margin lies within −1000 to +1000, DEGENERATE and NO_SUPPORT are
never both set, either of them goes with a margin of −1000, and fewer than two feet is exactly NO_SUPPORT (R53). Of three or
four feet in polygon order with a positive doubled area the margin is the least of the floored edge distances, clamped, an edge
shorter than 20 being skipped; with a doubled area of 0 or less, or every edge skipped, it is −1000 and DEGENERATE (R52, R54,
R55). The required margin of a set of feet is the largest of its classes' margins for its count, with the stale penalty (R58,
R59). The predicted set of a request is the support set less its legs, the airborne legs and the legs granted before it, and it
passes where its margin is at least its required margin (R60). -/
def Obligations.MarginRules : Prop :=
  (∀ (a b : Vec3) (px py : Int),
    ∃ n : Nat, (n * n : Int) ≤ (b.x - a.x) * (b.x - a.x) + (b.y - a.y) * (b.y - a.y) ∧
      (b.x - a.x) * (b.x - a.x) + (b.y - a.y) * (b.y - a.y) < (n + 1) * (n + 1) ∧
      (n < 20 → marginOf [a, b] px py = ⟨-1000, true, false⟩) ∧
      (20 ≤ n → ∃ m : Nat, marginOf [a, b] px py = ⟨-(min 1000 m : Nat), false, false⟩ ∧
        m * n ≤ ((b.x - a.x) * (py - a.y) - (b.y - a.y) * (px - a.x)).natAbs ∧
        ((b.x - a.x) * (py - a.y) - (b.y - a.y) * (px - a.x)).natAbs < (m + 1) * n)) ∧
  (∀ (pts : List Vec3) (px py : Int),
    let m := marginOf pts px py
    m.margin ≤ 1000 ∧ -1000 ≤ m.margin ∧ ¬ (m.degenerate = true ∧ m.noSupport = true) ∧
      (m.degenerate = true ∨ m.noSupport = true → m.margin = -1000) ∧ (m.noSupport = true ↔ pts.length < 2)) ∧
  (∀ (pts : List Vec3) (px py : Int), 3 ≤ pts.length →
    let edges := pts.zip (pts.tail ++ pts.take 1)
    let area := (edges.map fun e => e.1.x * e.2.y - e.2.x * e.1.y).sum
    let cross := fun (e : Vec3 × Vec3) => (e.2.x - e.1.x) * (py - e.1.y) - (e.2.y - e.1.y) * (px - e.1.x)
    let size := fun (e : Vec3 × Vec3) =>
      (isqrt ((e.2.x - e.1.x) * (e.2.x - e.1.x) + (e.2.y - e.1.y) * (e.2.y - e.1.y)).toNat : Int)
    let distances := (edges.filter fun e => decide (20 ≤ size e)).map fun e => (cross e).fdiv (size e)
    (area ≤ 0 ∨ distances = [] → marginOf pts px py = ⟨-1000, true, false⟩) ∧
    (0 < area → ∀ d ∈ distances, (∀ x ∈ distances, d ≤ x) →
      marginOf pts px py = ⟨max (-1000) (min 1000 d), false, false⟩)) ∧
  ∀ (e : EvalInputs) (set granted named : List Leg),
    let base := requiredMargin e set - (if e.stale then e.balCfg.stalePenalty else 0)
    let largest := fun (legs : List Leg) (field : ClassRecord → Int) =>
      (∃ l ∈ legs, base = field (e.surf.get (e.classes.get l))) ∧ ∀ l ∈ legs, field (e.surf.get (e.classes.get l)) ≤ base
    let airborne := fun (l : Leg) => decide (e.phases.get l ∈ ([.lift, .swing, .reach] : List Phase))
    let predicted := ([.fl, .rl, .rr, .fr] : List Leg).filter fun l =>
      e.support.get l && decide (l ∉ named) && !airborne l && decide (l ∉ granted)
    let p := pressurePoint e
    (3 ≤ set.length → largest set ClassRecord.margin34) ∧ (set.length = 2 → largest set ClassRecord.margin2) ∧
    (set.length < 2 → largest [.fl, .fr, .rl, .rr] ClassRecord.margin34) ∧
    predictedSet e granted named = predicted ∧
    (passesOnMargin e granted named = true ↔
      requiredMargin e predicted ≤ (marginOf (predicted.map fun l => e.feet.get l) p.1 p.2).margin) ∧
    airborneCount e granted named =
      (([.fl, .fr, .rl, .rr] : List Leg).filter airborne).length + granted.length + named.length

/-! ## Balance Engine -/

/-- The completion of an evaluation replaces all six held figures by what it read, formed from the support set, the pressure
point, the live margin and the required margin (R50, R53, R57, R58), and where the mode is not STANDING or the plan does not run
sets the below count to 0 and decides nothing else (R61, R62); the next evaluation begins if a trigger was taken meanwhile
(R48). That the class records and the balance configuration are among what was read at the start is DEDUCED from R15, R49 and
R69 (log 14). -/
def Obligations.EvaluationCompletes : Prop :=
  (∀ e : EvalInputs,
    let loaded := ([.fl, .rl, .rr, .fr] : List Leg).filter fun l => e.support.get l
    let p := pressurePoint e
    let m := marginOf (loaded.map fun l => e.feet.get l) p.1 p.2
    figuresOf e = ⟨p.1, p.2, m.margin, loaded.length, m.degenerate, m.noSupport, requiredMargin e loaded⟩) ∧
  ∀ (s : State) (e : EvalInputs), s.bal.eval = some e →
    (∃ t, exec .evaluationComplete s = .next t ∧ t.bal.held = figuresOf e ∧ t.bal.support = s.bal.support ∧
      t.att = s.att ∧ t.bus.drives = s.bus.drives ∧ t.bal.evalPending = false ∧
      (s.bal.evalPending = false → t.bal.eval = none) ∧ (s.bal.evalPending = true → t.bal.eval ≠ none)) ∧
    (s.bal.evalPending = false → (s.sup.mode ≠ .standing ∨ planRuns s = false) →
      exec .evaluationComplete s = .next (s.setBal { s.bal with held := figuresOf e, eval := none, below := 0 }))

/-- The brace test while the plan runs in STANDING: a live margin below the brace margin for its support count raises the below
count, and at the brace count requests a brace and sets it to 0; any other margin sets it to 0. An evaluation that asks for a
brace grants nothing (R50, R62, R63). That the brace margins and the brace count are those read at the evaluation's start is
DEDUCED from R49 and R69 (log 14). -/
def Obligations.BraceTest : Prop :=
  ∀ (s : State) (e : EvalInputs), s.bal.eval = some e → s.sup.mode = .standing → planRuns s = true →
    let fig := figuresOf e
    let low : Prop := 3 ≤ fig.count ∧ fig.margin < e.balCfg.brace34 ∨ fig.count = 2 ∧ fig.margin < e.balCfg.brace2 ∨
      fig.count < 2
    ∃ t, exec .evaluationComplete s = .next t ∧
      (low → e.balCfg.braceCount ≤ s.bal.below + 1 →
        t.bal.below = 0 ∧ t.bal.braceOut = true ∧ t.plan = s.plan ∧ t.legs = s.legs ∧ t.bus = s.bus ∧
          t.bal.queue = s.bal.queue) ∧
      (low → s.bal.below + 1 < e.balCfg.braceCount → t.bal.below = s.bal.below + 1) ∧
      (¬ low → t.bal.below = 0)

/-- A grant: a head request read by the evaluation, with room in the airborne count, two feet left and the margin met, leaves
the queue, its record becomes GRANTED, marked CLAMPED where it was before or where the target or a setpoint of one of its legs
is a clamped target (R10), and each leg it names, one or two, records its origin and target and enters LIFT with motion STEP,
with its leg CLAMPED mark (log 37), its LIFT setpoint clamped, commanded and queued and its phase timer started (R60, R75, R100,
R113, R121). The next request is then considered in the same evaluation, with the legs just granted counted as airborne and left
out of its predicted set, and is granted in the same way if it passes (R60, R113). -/
def Obligations.GrantBeginsAStep : Prop :=
  ∀ (s : State) (e : EvalInputs),
    s.bal.eval = some e → s.sup.mode = .standing → planRuns s = true → s.bal.braceOut = false →
    belowBrace e.balCfg (figuresOf e) = false → s.bal.preshift = none → s.bal.evalPending = false →
    e.requests = s.bal.queue →
    let passes := fun (granted : List Leg) (q : SwingRequest) =>
      airborneCount e granted q.legs ≤ 2 ∧ 2 ≤ (predictedSet e granted q.legs).length ∧
        passesOnMargin e granted q.legs = true
    (∀ (q : SwingRequest) (w : WindowRecord) (c : SurfaceClass), s.bal.queue = [q] → q.legs.Nodup → s.plan.window = [w] →
      w.body.id = q.id → w.body.cls = some c → passes [] q →
      ∃ t, exec .evaluationComplete s = .next t ∧ (∀ r ∈ t.bal.queue, r.id ∈ s.plan.list.map PlanRecord.id) ∧
        GrantedRecord s t w.body c q.legs ∧ (∀ l ∈ q.legs, EntersLift s t w.body c l) ∧
        ∀ m, m ∉ q.legs → (t.legs.get m).phase = (s.legs.get m).phase) ∧
    ∀ (q r : SwingRequest) (v w : WindowRecord) (c d : SurfaceClass), s.bal.queue = [q, r] → (q.legs ++ r.legs).Nodup →
      s.plan.window = [v, w] → v.body.id = q.id → w.body.id = r.id → q.id ≠ r.id → v.body.cls = some c →
      w.body.cls = some d → passes [] q → passes q.legs r →
      ∃ t, exec .evaluationComplete s = .next t ∧ (∀ x ∈ t.bal.queue, x.id ∈ s.plan.list.map PlanRecord.id) ∧
        GrantedRecord s t v.body c q.legs ∧ GrantedRecord s t w.body d r.legs ∧
        (∀ l ∈ q.legs, EntersLift s t v.body c l) ∧ ∀ l ∈ r.legs, EntersLift s t w.body d l

/-- A leg enters LIFT only from STANCE and only by a grant: at the completion of an evaluation, in STANDING with the plan
running, no brace outstanding and no pre-shift running, of a request that the evaluation read, that names the leg and that
passes on margin (R61, R113); counted as granted before it are the legs of the requests that stand ahead of it. The premises are
that what the evaluation read stands at the head of the grant queue, and that the legs of what waits stand; every step keeps
both. -/
def Obligations.LegsLiftOnlyByGrant : Prop :=
  (∀ s t : State, EvalReadsQueue s → step s = .next t → EvalReadsQueue t) ∧
  (∀ s t : State, WaitingStands s → step s = .next t → WaitingStands t) ∧
  ∀ (c : Instr) (s t : State) (l : Leg), EvalReadsQueue s → WaitingStands s → exec c s = .next t →
    (t.legs.get l).phase = .lift → (s.legs.get l).phase ≠ .lift →
    (s.legs.get l).phase = .stance ∧
    c = .evaluationComplete ∧ s.sup.mode = .standing ∧ planRuns s = true ∧ s.bal.braceOut = false ∧
      s.bal.preshift = none ∧
      ∃ e ahead r behind, s.bal.eval = some e ∧ e.requests = ahead ++ r :: behind ∧ l ∈ r.legs ∧
        let granted := ahead.flatMap SwingRequest.legs
        airborneCount e granted r.legs ≤ 2 ∧ 2 ≤ (predictedSet e granted r.legs).length ∧
          passesOnMargin e granted r.legs = true

/-- At every moment at most two legs are in LIFT, SWING or REACH (R113): every step keeps it so. -/
def Obligations.AtMostTwoLegsAirborne : Prop :=
  ∀ s t : State, AirborneRoom s → step s = .next t → AirborneRoom t

/-- A head request that fails on margin aims at the centroid of its predicted set, rounded to the nearest millimetre (R116).
With attempts left, NO_PRESHIFT clear and an aim at least 2 mm away a pre-shift is ordered, its offset limited to the maximum
length, counted on the request and on its record, every leg in STANCE sent the opposite way and the timer started; otherwise the
request is withdrawn, its record completes UNSTABLE and the plan no longer is ACTIVE (R115, R117, R78, R87). A head that fails
on the airborne count, or whose predicted set holds fewer than two feet, waits with its attempts unchanged, and none behind it
is considered (R114). -/
def Obligations.ShortMarginShiftsOrFails : Prop :=
  (∀ (s : State) (e : EvalInputs) (q : SwingRequest) (behind : List SwingRequest),
    s.bal.eval = some e → s.sup.mode = .standing → planRuns s = true → s.bal.braceOut = false →
    belowBrace e.balCfg (figuresOf e) = false → s.bal.preshift = none → s.bal.evalPending = false →
    s.bal.queue = q :: behind → e.requests.map SwingRequest.id = s.bal.queue.map SwingRequest.id →
    2 < airborneCount e [] q.legs ∨ (predictedSet e [] q.legs).length < 2 →
    exec .evaluationComplete s = .next (s.setBal { s.bal with held := figuresOf e, eval := none, below := 0 })) ∧
  ∀ (s : State) (e : EvalInputs) (q : SwingRequest) (w : WindowRecord) (ax ay : Int),
    s.bal.eval = some e → s.sup.mode = .standing → planRuns s = true → s.bal.braceOut = false →
    belowBrace e.balCfg (figuresOf e) = false → s.bal.preshift = none → s.bal.evalPending = false →
    s.bal.queue = [q] → e.requests = [q] → s.plan.window = [w] → w.body.id = q.id →
    airborneCount e [] q.legs ≤ 2 → passesOnMargin e [] q.legs = false →
    let set := predictedSet e [] q.legs
    2 ≤ set.length →
    IsNearest (set.map fun l => (e.feet.get l).x).sum set.length ax →
    IsNearest (set.map fun l => (e.feet.get l).y).sum set.length ay →
    let ox := ax - (pressurePoint e).1
    let oy := ay - (pressurePoint e).2
    let length : Int := isqrt (ox * ox + oy * oy).toNat
    let most : Int := s.gait.maxPreshift
    let sx := if length ≤ most then ox else (ox * most).tdiv length
    let sy := if length ≤ most then oy else (oy * most).tdiv length
    let stands := fun (l : Leg) => (s.legs.get l).phase = .stance
    let shifts : Prop := q.attempts < s.gait.attempts ∧ q.noPreshift = false ∧ 2 ≤ length
    ∃ t, exec .evaluationComplete s = .next t ∧
      (shifts →
        (∃ p, t.bal.preshift = some p ∧ p.owner = q.id ∧ (∀ l, l ∈ p.legs ↔ stands l) ∧ p.sx = sx ∧ p.sy = sy ∧
          ((∃ l, stands l ∧ (s.legs.get l).derating = true) → p.timer = 2 * s.gait.shiftTimeout) ∧
          ((∀ l, stands l → (s.legs.get l).derating = false) → p.timer = s.gait.shiftTimeout)) ∧
        t.bal.queue = [{ q with attempts := q.attempts + 1 }] ∧
        t.plan.window = [{ w with body := { w.body with preshifts := w.body.preshifts + 1 } }] ∧
        t.ev.counters = { s.ev.counters with preshifts := s.ev.counters.preshifts + 1 } ∧
        (∀ l, (t.legs.get l).phase = (s.legs.get l).phase) ∧ (∀ l, ¬ stands l → t.legs.get l = s.legs.get l) ∧
        ∀ l, stands l →
          let c := (s.legs.get l).commanded
          let target := workspaceClamp s.geo ⟨c.x - sx, c.y - sy, c.z⟩
          (t.legs.get l).commanded = target ∧ (t.legs.get l).reached = false ∧
            (⟨l, .setpoint target (spared (s.legs.get l).derating s.gait.shiftSpeed) false⟩ : Txn) ∈ t.bus.queue) ∧
      (¬ shifts →
        t.plan.window = [] ∧ t.plan.state = .suspended ∧ t.bal.queue = [] ∧ t.plan.list = s.plan.list ∧
        ∃ x, t.plan.log.getLast? = some x ∧ x.id = q.id ∧ x.status = .unstable ∧ x.time = s.ev.time)

/-! ## Step Planner -/

/-- PLAN_APPEND, checked in this order: WRONG_MODE in SAFE_HOLD, BAD_VALUE for a record that fails a check, DUP_ID, PLAN_FULL,
each changing nothing; else every record joins the tail of the list in order and the plan state is kept (R70, R73, R74, R162).
Where the plan is not ACTIVE or the list was not empty nothing more happens; an append to the empty list of an ACTIVE plan
issues what R76 allows, and the reply carries the state and the count after it. -/
def Obligations.PlanAppend : Prop :=
  ∀ (s : State) (f : Frame) (rest : List Frame) (n : Nat), Taking s f rest → f.kind = 0x30#8 → 1 ≤ n → n ≤ 4 →
    f.payload.length = 12 * n →
    let plan := fun (s : State) => put8 s.plan.state.code ++ put8 s.plan.list.length
    (s.sup.mode = .safeHold → exec .planAppend s = .next (s.replied rest (replyTo f .wrongMode (plan s)))) ∧
    (s.sup.mode ≠ .safeHold →
      (decodeRecords n f.payload = none →
        exec .planAppend s = .next (s.replied rest (replyTo f .badValue (plan s)))) ∧
      ∀ rs, decodeRecords n f.payload = some rs →
        let ids := s.plan.list.map PlanRecord.id ++ s.plan.window.map fun w => w.body.id
        let dup : Prop := ¬ (rs.map PlanRecord.id).Nodup ∨ ∃ r ∈ rs, r.id ∈ ids
        let full : Prop := 32 < s.plan.list.length + s.plan.window.length + rs.length
        (dup → exec .planAppend s = .next (s.replied rest (replyTo f .dupId (plan s)))) ∧
        (¬ dup → full → exec .planAppend s = .next (s.replied rest (replyTo f .planFull (plan s)))) ∧
        (¬ dup → ¬ full →
          ∃ t, exec .planAppend s = .next t ∧ t.plan.state = s.plan.state ∧
            (t.plan.list.length + t.plan.window.length = s.plan.list.length + s.plan.window.length + rs.length) ∧
            t.link.tx = s.link.tx ++ [.reply (replyTo f .ok (plan t)) false] ∧
            (s.plan.state ≠ .active ∨ s.plan.list ≠ [] →
              t = (s.setPlan { s.plan with list := s.plan.list ++ rs }).replied rest
                (replyTo f .ok (put8 s.plan.state.code ++ put8 (s.plan.list ++ rs).length))) ∧
            (s.plan.state = .active → s.plan.list = [] →
              t = (issue (s.setPlan { s.plan with list := rs })).replied rest (replyTo f .ok (plan t)))))

/-- The issue of the head record: where every condition of R76 holds a STEP or PAIR enters the window WAITING with its pre-shift
count 0 and its request joins the grant queue with no attempts, and the next head is considered in the same way; a SHIFT enters
the window RUNNING, every leg is sent the opposite of its displacement, the shift timer starts, and the record is marked CLAMPED
where a target is clamped (R76, R77, R119); the speed and the AT_LIMIT mark set with a setpoint are the model's own fields (log
15, log 16). Where one of them fails nothing is issued. An accepted sample issues what its clear flag allows (R76). -/
def Obligations.HeadIsIssued : Prop :=
  (∀ (s : State) (r : PlanRecord) (rest : List PlanRecord), s.plan.list = r :: rest →
    (¬ MayIssue s r → issue s = s) ∧
    (MayIssue s r → r.kind ≠ .shift → issue s = issue
      ((s.setPlan { s.plan with
          list := rest, window := s.plan.window ++ [⟨{ r with preshifts := 0 }, .waiting, []⟩] }).setBal
        { s.bal with queue := s.bal.queue ++ [⟨r.id, r.legs, r.noPreshift, 0⟩] })) ∧
    (MayIssue s r → r.kind = .shift →
      let moved := fun (l : Leg) =>
        let c := (s.legs.get l).commanded
        (⟨c.x - r.disp.x, c.y - r.disp.y, c.z - r.disp.z⟩ : Vec3)
      ∃ mark, (mark = true ↔ r.clamped = true ∨ ∃ l, workspaceClamp s.geo (moved l) ≠ moved l) ∧
        (issue s).plan = { s.plan with
          list := rest, window := [⟨{ r with preshifts := 0, clamped := mark }, .running, []⟩]
          shiftTimer := some (allowed (s.legs.any LegSeq.derating) s.gait.shiftTimeout) } ∧
        (∀ l, (issue s).legs.get l = { s.legs.get l with
            commanded := workspaceClamp s.geo (moved l), speed := some s.gait.shiftSpeed, reached := false
            limitReached := false } ∧
          (⟨l, .setpoint (workspaceClamp s.geo (moved l)) (spared (s.legs.get l).derating s.gait.shiftSpeed) false⟩ : Txn) ∈
            (issue s).bus.queue) ∧
        issue s = (((s.setPlan (issue s).plan).setLegs (issue s).legs).setBus
          { s.bus with queue := (issue s).bus.queue }))) ∧
  ∀ (s : State) (n : Nat) (fx fy fz : Half), s.att.reading = some n →
    ∃ t, exec (.attitudeReadDone fx fy fz true) s = .next t ∧
      t.plan = (issue (s.setAtt { s.att with stale := false })).plan

/-- A record is issued at the first moment at which every condition of its issue holds: whatever the command, none that may be
issued is left at the head of the plan list after it, for the conditions are tested again wherever one of them may have come to
hold (R76). The premise beside it is the invariant PlanStands. -/
def Obligations.NoReadyHeadWaits : Prop :=
  ∀ s t : State, PlanStands s → HeadWaits s → step s = .next t → HeadWaits t

/-- PLAN_START, PLAN_SUSPEND and PLAN_RESUME by mode and plan state (R82 to R86, R88, R89): where the plan state goes, which
WAITING records return to the head of the list, and which requests are refused with nothing changed. A start or a resume with
anything left goes to ACTIVE, issues what R76 allows, and does nothing more; with nothing left it goes on to IDLE. A pre-shift
whose owner is withdrawn by the drain ends, and each of its legs is held (R85, R118). -/
def Obligations.PlanStateRequests : Prop :=
  ∀ (s : State) (f : Frame) (rest : List Frame), Taking s f rest → f.payload = [] →
    let plan := fun (s : State) => put8 s.plan.state.code ++ put8 s.plan.list.length
    (f.kind = 0x31#8 →
      (s.sup.mode ≠ .standing → exec .planStart s = .next (s.replied rest (replyTo f .wrongMode (plan s)))) ∧
      (s.sup.mode = .standing → s.plan.state ≠ .idle →
        exec .planStart s = .next (s.replied rest (replyTo f .wrongState (plan s)))) ∧
      (s.sup.mode = .standing → s.plan.state = .idle →
        ∃ t, exec .planStart s = .next t ∧
          t.plan.list.length + t.plan.window.length = s.plan.list.length + s.plan.window.length ∧
          (s.plan.list = [] → s.plan.window = [] →
            t.plan.state = .idle ∧ hasEvent t.ev.pending .planIdle = true) ∧
          (s.plan.list ≠ [] ∨ s.plan.window ≠ [] → t.plan.state = .active ∧
            t = (issue (s.setPlan { s.plan with state := .active })).replied rest (replyTo f .ok (plan t))) ∧
          t.link.tx.getLast? = some (.reply (replyTo f .ok (plan t)) false))) ∧
    (f.kind = 0x32#8 →
      (s.plan.state ≠ .active → exec .planSuspend s = .next (s.replied rest (replyTo f .ok (plan s)))) ∧
      (s.plan.state = .active →
        let stays := s.plan.window.filter fun w => decide (w.cond ≠ .waiting)
        let back := s.plan.window.filter fun w => decide (w.cond = .waiting)
        ∃ t, exec .planSuspend s = .next t ∧ t.plan.window = stays ∧
          t.plan.list = back.map WindowRecord.body ++ s.plan.list ∧ t.plan.log = s.plan.log ∧
          t.plan.state = (if stays = [] then .suspended else .draining) ∧
          (stays = [] → hasEvent t.ev.pending .planSuspended = true) ∧
          (∀ q ∈ t.bal.queue, ∀ w ∈ back, q.id ≠ w.body.id) ∧ t.ev.counters = s.ev.counters ∧ StopsPreshift s t back ∧
          (s.sup.mode = .standing → s.sup.pendingSettle = false → ∀ p, s.bal.preshift = some p →
            (∃ w ∈ back, w.body.id = p.owner) → ∀ l ∈ p.legs, HeldAt s t l) ∧
          t.link.tx.getLast? = some (.reply (replyTo f .ok (plan t)) false))) ∧
    (f.kind = 0x33#8 →
      (s.sup.mode ≠ .standing → exec .planResume s = .next (s.replied rest (replyTo f .wrongMode (plan s)))) ∧
      (s.sup.mode = .standing → s.plan.state = .idle ∨ s.plan.state = .active →
        exec .planResume s = .next (s.replied rest (replyTo f .ok (plan s)))) ∧
      (s.sup.mode = .standing →
        let settled : Prop := (∀ l, (s.legs.get l).phase = .stance ∧ (s.feet.get l).contact = .loaded) ∧
          s.bal.held.required ≤ s.bal.held.margin
        (s.plan.state = .braced → ¬ settled →
          exec .planResume s = .next (s.replied rest (replyTo f .notSettled (plan s)))) ∧
        (s.plan.state = .draining ∨ s.plan.state = .suspended ∨ s.plan.state = .braced ∧ settled →
          ∃ t, exec .planResume s = .next t ∧
            t.plan.list.length + t.plan.window.length = s.plan.list.length + s.plan.window.length ∧
            (s.plan.list = [] → s.plan.window = [] →
              t.plan.state = .idle ∧ hasEvent t.ev.pending .planIdle = true) ∧
            (s.plan.list ≠ [] ∨ s.plan.window ≠ [] → t.plan.state = .active ∧
              t = (issue (s.setPlan { s.plan with state := .active })).replied rest (replyTo f .ok (plan t))) ∧
            t.link.tx.getLast? = some (.reply (replyTo f .ok (plan t)) false))))

/-- PLAN_CANCEL removes the named record and all behind it, PLAN_FLUSH the whole list, PLAN_REPORT up to four log entries from
the oldest end; the window is kept, nothing is logged or counted, and an ACTIVE plan left empty goes to IDLE and raises
PLAN_IDLE (R81, R84, R90, R91). -/
def Obligations.PlanRemovals : Prop :=
  ∀ (s : State) (f : Frame) (rest : List Frame), Taking s f rest →
    let plan := fun (s : State) => put8 s.plan.state.code ++ put8 s.plan.list.length
    (f.kind = 0x34#8 → ∀ lo hi : Byte, f.payload = [lo, hi] →
      let id := lo.toNat + 256 * hi.toNat
      (id = 0 → exec .planCancel s = .next (s.replied rest (replyTo f .badValue (plan s)))) ∧
      (id ≠ 0 → (∀ r ∈ s.plan.list, r.id ≠ id) →
        exec .planCancel s = .next (s.replied rest (replyTo f .notFound (plan s)))) ∧
      (id ≠ 0 → ∀ ahead r behind, s.plan.list = ahead ++ r :: behind → r.id = id → (∀ x ∈ ahead, x.id ≠ id) →
        ∃ t, exec .planCancel s = .next t ∧
          t.plan = { s.plan with list := ahead, state := t.plan.state } ∧ t.ev.counters = s.ev.counters ∧
          t.plan.state = (if s.plan.state = .active ∧ ahead = [] ∧ s.plan.window = [] then .idle else s.plan.state) ∧
          (s.plan.state = .active → ahead = [] → s.plan.window = [] → hasEvent t.ev.pending .planIdle = true) ∧
          t.link.tx.getLast? = some (.reply (replyTo f .ok (plan t ++ put8 (behind.length + 1))) false))) ∧
    (f.kind = 0x35#8 → f.payload = [] →
      ∃ t, exec .planFlush s = .next t ∧ t.plan = { s.plan with list := [], state := t.plan.state } ∧
        t.ev.counters = s.ev.counters ∧
        t.plan.state = (if s.plan.state = .active ∧ s.plan.window = [] then .idle else s.plan.state) ∧
        (s.plan.state = .active → s.plan.window = [] → hasEvent t.ev.pending .planIdle = true) ∧
        t.link.tx.getLast? = some (.reply (replyTo f .ok (plan t ++ put8 s.plan.list.length)) false)) ∧
    (f.kind = 0x36#8 → f.payload = [] →
      let out := s.plan.log.take 4
      exec .planReport s = .next ((s.setPlan { s.plan with log := s.plan.log.drop 4 }).replied rest
        (replyTo f .ok (plan s ++ put8 out.length ++ put8 (s.plan.log.length - 4)
          ++ (out.map logEntryBytes).flatten))))

/-- The plan never holds more than it has room for, no id twice, and the log no more than 16 entries (R72, R73, R80); and the plan
state is ACTIVE or DRAINING only while the mode is STANDING (R82): every step keeps both so. -/
def Obligations.PlanRoomIsKept : Prop :=
  (∀ s t : State, PlanRoom s → step s = .next t → PlanRoom t) ∧
  ∀ s t : State, PlanStands s → step s = .next t → PlanStands t

/-- A leg with motion STEP serves a GRANTED record of the issue window that names it and to which it has not yet reported, outside
SAFE_HOLD: every step keeps it so (R75, R78, R92, R94, R96, R100, R103 to R106). The premises beside it are the two invariants of
LegsLiftOnlyByGrant: what waits for a grant stands, and what an evaluation read stands at the head of the grant queue. -/
def Obligations.SteppingLegsServe : Prop :=
  ∀ s t : State, SteppingServes s → WaitingStands s → EvalReadsQueue s → step s = .next t → SteppingServes t

/-- BRACE_TAKEN: while the plan runs it goes to BRACED with an empty window, the WAITING records back at the head of the list
with the pre-shift of any of them stopped and its legs held, BRACE raised and counted once. A GRANTED record completes BRACED,
or MISSED or SNAGGED if one of its legs has reported so, and a RUNNING SHIFT BRACED. A leg of a GRANTED record that has not
reported and is stepping off the floor is sent straight down with motion DESCENT, and lands at once where its foot is LOADED as
it enters REACH (log 18), and the legs of a RUNNING SHIFT are held. In any other plan state the brace is discarded, and the flag
is cleared either way (R65, R78, R92, R93, R110, R118). -/
def Obligations.BraceIsTaken : Prop :=
  ∀ s : State, s.bal.braceOut = true →
    (planRuns s = false → exec .braceTaken s = .next (s.setBal { s.bal with braceOut := false })) ∧
    (planRuns s = true → (idsInPlan s).Nodup →
      ∃ t, exec .braceTaken s = .next t ∧ t.bal.braceOut = false ∧ t.plan.state = .braced ∧ t.plan.window = [] ∧
        t.plan.list =
          (s.plan.window.filter fun w => decide (w.cond = .waiting)).map WindowRecord.body ++ s.plan.list ∧
        hasEvent t.ev.pending .brace = true ∧ t.ev.counters.braces = s.ev.counters.braces + 1 ∧
        t.ev.fault = s.ev.fault ∧
        StopsPreshift s t (waitingOf s.plan.window) ∧
        (s.sup.mode = .standing → s.sup.pendingSettle = false → ∀ p, s.bal.preshift = some p →
          (∃ w ∈ waitingOf s.plan.window, w.body.id = p.owner) → ∀ l ∈ p.legs, HeldAt s t l) ∧
        (s.plan.window.length ≤ 2 → ∀ w ∈ s.plan.window, w.cond ≠ .waiting →
          let reported := fun (o : Outcome) => w.cond = .granted ∧ ∃ r ∈ w.reports, r.outcome = o
          ∃ x ∈ t.plan.log, x.id = w.body.id ∧ x.kind = w.body.kind ∧ x.time = s.ev.time ∧
            x.preshifts = w.body.preshifts ∧ x.footholds = [] ∧
            (reported .missed → x.status = .missed) ∧
            (¬ reported .missed → reported .snagged → x.status = .snagged) ∧
            (¬ reported .missed → ¬ reported .snagged → x.status = .braced)) ∧
        (s.sup.mode = .standing → (∀ w ∈ s.plan.window, w.cond ≠ .running) →
          ∀ w ∈ s.plan.window, w.cond = .granted → ∀ l ∈ w.body.legs, (∀ r ∈ w.reports, r.leg ≠ l) →
          (∀ p, s.bal.preshift = some p → l ∉ p.legs) → (s.feet.get l).contact ≠ .loaded →
          ∀ d, (s.legs.get l).step = some d → (s.legs.get l).motion = some .step →
          let b := bodyPos s l
          let down := fun (z : Int) =>
            Moves s.geo (s.legs.get l).derating l .reach .descent ⟨b.x, b.y, z - d.reachDepth⟩ s.gait.reachSpeed
              s.gait.reachTimeout t
          ((s.legs.get l).phase = .lift ∨ (s.legs.get l).phase = .swing → down (min d.origin.z d.target.z)) ∧
          ((s.legs.get l).phase = .reach → down d.target.z)) ∧
        (s.sup.mode = .standing → s.sup.pendingSettle = false → (∀ w ∈ s.plan.window, w.cond ≠ .running) →
          ∀ w ∈ s.plan.window, w.cond = .granted → ∀ l ∈ w.body.legs, (∀ r ∈ w.reports, r.leg ≠ l) →
          (∀ p, s.bal.preshift = some p → l ∉ p.legs) → (s.feet.get l).contact = .loaded →
          (s.legs.get l).step ≠ none → (s.legs.get l).motion = some .step →
          (s.legs.get l).phase = .lift ∨ (s.legs.get l).phase = .swing →
          let stop := hipTarget s.geo l (bodyPos s l)
          Lands l t ∧ (t.legs.get l).step = none ∧ (t.legs.get l).commanded = stop ∧
            (⟨l, .setpoint stop (spared (s.legs.get l).derating s.gait.reachSpeed) false⟩ : Txn) ∈ t.bus.queue) ∧
        (s.sup.mode = .standing → s.sup.pendingSettle = false → ∀ w, s.plan.window = [w] → w.cond = .running → ∀ l,
          (t.legs.get l).commanded = (s.bus.drives.get l).pos ∧
            (⟨l, .setpoint (s.bus.drives.get l).pos 0 true⟩ : Txn) ∈ t.bus.queue))

/-- PRESHIFT_TIMEOUT: every commanded leg is sent a HOLD at its measured position and there is no pre-shift; the request keeps
its place and its attempts (R117). SHIFT_TIMEOUT: every leg is held at its measured position, the RUNNING SHIFT completes STALLED
at the time of the expiry and leaves the window, and a running plan goes to SUSPENDED (R79, R86, R87, R120). A timer that
has not run out does not expire (log 1, log 4). -/
def Obligations.ShiftTimersExpire : Prop :=
  (∀ s : State, ((∀ p, s.bal.preshift = some p → p.timer ≠ 0) → exec .preshiftTimeout s = .next s) ∧
    (s.plan.shiftTimer ≠ some 0 → exec .shiftTimeout s = .next s)) ∧
  (∀ (s : State) (p : Preshift), s.bal.preshift = some p → p.timer = 0 →
    ∃ t, exec .preshiftTimeout s = .next t ∧ t.bal = { s.bal with preshift := none } ∧ t.plan = s.plan ∧
      (∀ l ∈ p.legs, (t.legs.get l).commanded = (s.bus.drives.get l).pos ∧ (t.legs.get l).reached = false ∧
        (s.sup.mode ≠ .parked → (⟨l, .setpoint (s.bus.drives.get l).pos 0 true⟩ : Txn) ∈ t.bus.queue)) ∧
      (∀ l, l ∉ p.legs → t.legs.get l = s.legs.get l) ∧ t.ev = s.ev ∧ t.sup = s.sup) ∧
  ∀ (s : State) (w : WindowRecord), s.plan.shiftTimer = some 0 → s.plan.window = [w] →
    w.cond = .running → w.body.kind = .shift → s.sup.mode = .standing → s.sup.pendingSettle = false →
    ∃ t x, exec .shiftTimeout s = .next t ∧ t.plan.window = [] ∧ t.plan.shiftTimer = none ∧
      t.plan.log.getLast? = some x ∧ x.id = w.body.id ∧ x.kind = .shift ∧ x.status = .stalled ∧
      x.time = s.ev.time ∧ x.footholds = [] ∧
      (planRuns s = true → t.plan.state = .suspended ∧ hasEvent t.ev.pending .planSuspended = true) ∧
      (∀ l, (t.legs.get l).commanded = (s.bus.drives.get l).pos ∧
        (⟨l, .setpoint (s.bus.drives.get l).pos 0 true⟩ : Txn) ∈ t.bus.queue) ∧
      t.ev.counters.shiftsDone = s.ev.counters.shiftsDone

/-! ## Leg Sequencers -/

/-- PHASE_TIMER_EXPIRY: a snag in LIFT or SWING puts the leg down with motion RECOVERY, or lets it stand where its foot is
LOADED; a missed foothold in REACH sends it back with motion RETREAT under its origin class; and a failed recovery, retreat or
descent is held and asks for a brace, and lands at once where its foot is LOADED as it enters REACH (R103 to R106, R108, R109;
log 23). The outcome completes the record once the last of its legs has reported, SNAGGED or, if any leg has MISSED, MISSED,
with its log entry, and drains the plan (R78 to R80, R85 to R87). That the record id is cleared with the outcome, and a step's
data together, is DEDUCED (log 18). A timer that has not run out does not expire (log 1, log 4). -/
def Obligations.PhaseTimerExpires : Prop :=
  ∀ (s : State) (l : Leg),
    let q := s.legs.get l
    let b := bodyPos s l
    (q.timer ≠ some 0 → exec (.phaseTimerExpiry l) s = .next s) ∧
    (q.timer = some 0 →
      (∀ d, q.step = some d → q.motion = some .step →
        (q.phase = .lift ∨ q.phase = .swing →
          ∃ t, exec (.phaseTimerExpiry l) s = .next t ∧ (t.legs.get l).record = none ∧
            (t.feet.get l).cls = (s.feet.get l).cls ∧ hasEvent t.ev.pending .snag = true ∧
            t.ev.counters.snags = s.ev.counters.snags + 1 ∧
            ((s.feet.get l).contact = .loaded → s.sup.pendingSettle = false → Lands l t ∧ (t.legs.get l).step = none) ∧
            ((s.feet.get l).contact ≠ .loaded → s.sup.mode ≠ .parked →
              Moves s.geo q.derating l .reach .recovery
                (if q.phase = .lift then ⟨d.origin.x, d.origin.y, d.origin.z - d.reachDepth⟩
                 else ⟨b.x, b.y, min d.origin.z d.target.z - d.reachDepth⟩)
                s.gait.reachSpeed s.gait.reachTimeout t)) ∧
        (q.phase = .reach → s.sup.mode ≠ .parked →
          ∃ t, exec (.phaseTimerExpiry l) s = .next t ∧ (t.legs.get l).record = none ∧
            Moves s.geo q.derating l .swing .retreat ⟨d.origin.x, d.origin.y, d.liftLevel⟩ s.gait.swingSpeed
              s.gait.swingTimeout t ∧
            (t.feet.get l).cls = d.originClass ∧ hasEvent t.ev.pending .missed = true) ∧
        (∀ w ∈ s.plan.window, q.phase = .lift ∨ q.phase = .swing ∨ q.phase = .reach → q.record = some w.body.id →
          w.cond = .granted → w.body.kind ≠ .shift → (idsInPlan s).Nodup → s.plan.log.length ≤ 16 →
          s.sup.pendingSettle = false →
          let reports := w.reports ++ [⟨l, if q.phase = .reach then .missed else .snagged, none⟩]
          let others := s.plan.window.filter fun v => decide (v.body.id ≠ w.body.id)
          let done := worstOf reports w.body.clamped
          ∃ t, exec (.phaseTimerExpiry l) s = .next t ∧
            ((∃ m ∈ w.body.legs, ∀ r ∈ reports, r.leg ≠ m) →
              { w with reports := reports } ∈ t.plan.window ∧ t.plan.log = s.plan.log ∧ t.plan.state = s.plan.state) ∧
            ((∀ m ∈ w.body.legs, ∃ r ∈ reports, r.leg = m) →
              Logged s t [entryOf s w done []] ∧
              t.ev.counters.stepsMissed = s.ev.counters.stepsMissed + (if done = .missed then 1 else 0) ∧
              t.ev.counters.stepsOk = s.ev.counters.stepsOk ∧ t.ev.counters.stepsClamped = s.ev.counters.stepsClamped ∧
              (w.body.notify = true → hasEvent t.ev.pending .stepDone = true) ∧
              (s.plan.state = .active → Drained s t others) ∧
              (s.plan.state = .draining → t.plan.window = others ∧ t.plan.list = s.plan.list ∧
                t.plan.state = (if others = [] then .suspended else .draining) ∧
                (others = [] → hasEvent t.ev.pending .planSuspended = true))))) ∧
      (q.motion = some .recovery ∨ q.motion = some .retreat ∨ q.motion = some .descent →
        q.phase = .reach ∨ q.phase = .swing ∧ (s.feet.get l).contact ≠ .loaded →
        ∃ t, exec (.phaseTimerExpiry l) s = .next t ∧ (t.legs.get l).phase = .reach ∧
          (t.legs.get l).motion = some .held ∧ (t.legs.get l).timer = none ∧
          (t.legs.get l).commanded = (s.bus.drives.get l).pos ∧ hasEvent t.ev.pending .missed = true ∧
          t.bal.braceOut = true) ∧
      (q.motion = some .recovery ∨ q.motion = some .retreat ∨ q.motion = some .descent →
        q.phase = .swing → (s.feet.get l).contact = .loaded → s.sup.pendingSettle = false →
        ∃ t, exec (.phaseTimerExpiry l) s = .next t ∧ Lands l t ∧ (t.legs.get l).commanded = (s.bus.drives.get l).pos ∧
          (s.sup.mode ≠ .parked → (⟨l, .setpoint (s.bus.drives.get l).pos 0 true⟩ : Txn) ∈ t.bus.queue) ∧
          hasEvent t.ev.pending .missed = true ∧ t.bal.braceOut = true))

/-- What a good reply and a contact change report do to an airborne leg in STANDING: LIFT ends where the drive reports reached
and the foot is in AIR (R101); SWING ends where the drive reports reached, and the foot takes the target class (R14, R102); a
leg that enters REACH with its foot LOADED, or whose foot becomes LOADED there, lands (R103, R107 to R109); reached without a
LOADED foot is a missed foothold, or fails what is not a step (R106, R108); a retreat that reaches its origin descends (R107).
The landing of a step completes its record with the last of its legs (R78, R79, R87); that the setpoint which stops it marks
nothing is the model's choice (log 39). Any other reply or report leaves phase and motion. That a leg which lands from anything
but a step serves no record, and that its step's data are cleared together, is DEDUCED (log 18, log 23); that a phase which a
reply begins follows the derating flag as that reply leaves it is the model's choice (log 38). The premises keep what a report
may cause elsewhere, the end of a SHIFT or of a pre-shift of the leg, a settle and a drive fault, out of it. -/
def Obligations.LegsFollowReports : Prop :=
  ∀ (s : State) (l : Leg) (d : StepData), s.sup.mode = .standing → s.sup.pendingSettle = false →
    (∀ w ∈ s.plan.window, w.cond ≠ .running) → (s.legs.get l).step = some d →
    let q := s.legs.get l
    let loaded : Prop := (s.feet.get l).contact = .loaded
    let toSwing := fun (hot : Bool) (t : State) =>
      Moves s.geo hot l .swing .step ⟨d.target.x, d.target.y, d.liftLevel⟩ s.gait.swingSpeed s.gait.swingTimeout t
    let other := q.motion = some .retreat ∨ q.motion = some .recovery ∨ q.motion = some .descent
    (∀ (x : Txn) (n : Nat) (pos : Vec3) (st : DriveState) (flags : Byte), s.bus.line = .window x n [] → x.leg = l →
      fits16 pos.x → fits16 pos.y → fits16 pos.z → st ≠ .fault →
      let pass : Prop := st = .atLimit ∨ flags.getLsbD 0 = true ∧ |pos.x - q.commanded.x| ≤ s.gait.tolerance ∧
        |pos.y - q.commanded.y| ≤ s.gait.tolerance ∧ |pos.z - q.commanded.z| ≤ s.gait.tolerance
      let hot := decide (st = .hot)
      let ends : Prop := (s.feet.get l).contact = .air ∧ (q.reached = true ∨ pass)
      ∃ t, exec (.driveReply (driveReplyBytes x pos st flags)) s = .next t ∧
        (q.phase = .lift → q.motion = some .step → (ends → toSwing hot t) ∧ (¬ ends → (t.legs.get l).phase = .lift)) ∧
        (q.phase = .swing → q.motion = some .step → pass →
          (t.feet.get l).cls = d.targetClass ∧ (loaded → Lands l t) ∧
          (¬ loaded → Moves s.geo hot l .reach .step ⟨d.target.x, d.target.y, d.target.z - d.reachDepth⟩ s.gait.reachSpeed
            s.gait.reachTimeout t)) ∧
        (q.phase = .swing → q.motion = some .retreat → pass →
          (loaded → Lands l t) ∧
          (¬ loaded → Moves s.geo hot l .reach .retreat ⟨d.origin.x, d.origin.y, d.origin.z - d.reachDepth⟩ s.gait.reachSpeed
            s.gait.reachTimeout t)) ∧
        (q.phase = .reach → q.motion ≠ none → pass → loaded → Lands l t) ∧
        (q.phase = .reach → q.motion = some .step → pass → ¬ loaded →
          Moves s.geo hot l .swing .retreat ⟨d.origin.x, d.origin.y, d.liftLevel⟩ s.gait.swingSpeed s.gait.swingTimeout t ∧
          (t.feet.get l).cls = d.originClass ∧ hasEvent t.ev.pending .missed = true) ∧
        (q.phase = .reach → other → pass → ¬ loaded →
          (t.legs.get l).phase = .reach ∧ (t.legs.get l).motion = some .held ∧ (t.legs.get l).timer = none ∧
          (t.legs.get l).commanded = pos ∧ hasEvent t.ev.pending .missed = true ∧ t.bal.braceOut = true) ∧
        (¬ pass → q.phase ≠ .lift → (t.legs.get l).phase = q.phase ∧ (t.legs.get l).motion = q.motion)) ∧
    ∀ (h : Option Nat) (period load : Nat), (s.feet.get l).measurement = .measuring h →
      classify (h.getD period) period = .valid load →
      let now := (sampledFoot (s.surf.get (s.feet.get l).cls) load (s.feet.get l)).contact
      now ≠ (s.feet.get l).contact →
      let ends : Prop := q.phase = .lift ∧ q.motion = some .step ∧ q.reached = true ∧ now = .air
      let lands : Prop := q.phase = .reach ∧ q.motion ≠ none ∧ now = .loaded
      ∃ t, exec (.loadSample l period) s = .next t ∧
        (ends → toSwing q.derating t) ∧ (lands → Lands l t) ∧
        (lands → q.motion = some .step → LandingReported s t l false) ∧
        (lands → q.motion ≠ some .held → s.plan.list = [] → (∀ p, s.bal.preshift = some p → l ∉ p.legs) →
          (t.legs.get l).step = none ∧ (t.legs.get l).commanded = hipTarget s.geo l (bodyPos s l)) ∧
        (¬ ends → ¬ lands → (t.legs.get l).phase = q.phase ∧ (t.legs.get l).motion = q.motion)

/-- What a good reply completes. The landing of a step: its record completes with the last of its legs, with its log entry and
final footholds, OK or CLAMPED, or the worse outcome of the other leg of a PAIR (R78 to R80, R87, R103; the setpoint that stops
the landing marks nothing, log 39). A running pre-shift completes exactly when every commanded leg has reached (R117). A RUNNING
SHIFT completes OK when every leg has, CLAMPED if it is marked or a leg reached it by an AT_LIMIT arrival (R120, R122; log 15).
A rise is complete when every leg has reached and every foot is LOADED, and the part stands (R98, R144, R150). A settle is
complete when every leg has reached, and the part is PARKED with its plan IDLE, its list kept and its setpoints removed (R98,
R129, R146). The premise is the invariant HoldsStill, with no drive fault in the reply. A settle that is pending: the landing
that a sample brings enters SETTLING exactly where the plan is then IDLE, SUSPENDED or BRACED and every other leg stands; else
it goes on pending (R153). -/
def Obligations.RepliesComplete : Prop :=
  (∀ (s : State) (x : Txn) (n : Nat) (pos : Vec3) (st : DriveState) (flags : Byte), HoldsStill s →
    s.bus.line = .window x n [] → fits16 pos.x → fits16 pos.y → fits16 pos.z → st ≠ .fault →
    s.sup.pendingSettle = false → s.sup.silenceInRise = false →
    let l := x.leg
    let q := s.legs.get l
    let pass : Prop := st = .atLimit ∨ flags.getLsbD 0 = true ∧ |pos.x - q.commanded.x| ≤ s.gait.tolerance ∧
      |pos.y - q.commanded.y| ≤ s.gait.tolerance ∧ |pos.z - q.commanded.z| ≤ s.gait.tolerance
    let reached := fun (m : Leg) => (s.legs.get m).reached = true ∨ m = l ∧ pass
    let atLimit := fun (m : Leg) =>
      if m = l ∧ pass ∧ q.reached = false then decide (st = .atLimit) else (s.legs.get m).limitReached
    ∃ t, exec (.driveReply (driveReplyBytes x pos st flags)) s = .next t ∧
      (s.sup.mode = .standing → q.phase = .reach → q.motion = some .step → pass → (s.feet.get l).contact = .loaded →
        LandingReported s t l (atLimit l)) ∧
      (∀ p, s.bal.preshift = some p → q.phase = .stance → (∀ w ∈ s.plan.window, w.cond ≠ .running) →
        ((∀ m ∈ p.legs, reached m) → t.bal.preshift = none) ∧ ((∃ m ∈ p.legs, ¬ reached m) → t.bal.preshift = some p)) ∧
      (∀ w, s.sup.mode = .standing → q.phase = .stance → s.plan.window = [w] → w.cond = .running → w.body.kind = .shift →
        s.plan.list = [] → s.plan.log.length ≤ 16 →
        let limited := ([.fl, .fr, .rl, .rr] : List Leg).any atLimit
        ((∀ m, reached m) → t.plan.window = [] ∧ t.plan.shiftTimer = none ∧
          Logged s t [entryOf s w (if w.body.clamped || limited then .clamped else .ok) []] ∧
          t.ev.counters.shiftsDone = s.ev.counters.shiftsDone + 1 ∧
          ∀ m, atLimit m = true → (t.legs.get m).clamped = true) ∧
        ((∃ m, ¬ reached m) → t.plan = s.plan)) ∧
      (s.sup.mode = .rising → q.phase = .posture →
        let complete : Prop := (∀ m, reached m) ∧ ∀ m, (s.feet.get m).contact = .loaded
        (complete → t.sup.mode = .standing ∧ hasEvent t.ev.pending .modeChange = true ∧ t.sup.riseSettle = none ∧
          (∀ m, (t.legs.get m).phase = .stance ∧ (t.legs.get m).motion = none ∧ (t.legs.get m).record = none ∧
            (t.legs.get m).step = none ∧ (t.legs.get m).commanded = (s.legs.get m).commanded) ∧
          t.sup.supportLost = (if s.sup.supportLow then some s.balCfg.supportLost else s.sup.supportLost) ∧
          t.plan = s.plan) ∧
        (¬ complete → t.sup = s.sup)) ∧
      (s.sup.mode = .settling → q.phase = .posture →
        ((∀ m, reached m) → t.sup.mode = .parked ∧ hasEvent t.ev.pending .modeChange = true ∧ t.sup.riseSettle = none ∧
          (∀ m, (t.legs.get m).phase = .folded) ∧ t.plan = { s.plan with state := .idle } ∧
          ∀ y ∈ t.bus.queue, y.op = .poll) ∧
        ((∃ m, ¬ reached m) → t.sup = s.sup))) ∧
  ∀ (s : State) (l : Leg) (h : Option Nat) (period load : Nat), s.sup.mode = .standing → s.sup.pendingSettle = true →
    (s.legs.get l).phase = .reach → (s.legs.get l).motion ≠ none → (s.feet.get l).measurement = .measuring h →
    classify (h.getD period) period = .valid load → (s.feet.get l).contact ≠ .loaded →
    (sampledFoot (s.surf.get (s.feet.get l).cls) load (s.feet.get l)).contact = .loaded →
    ∃ t, exec (.loadSample l period) s = .next t ∧
      let settles : Prop := (t.plan.state = .idle ∨ t.plan.state = .suspended ∨ t.plan.state = .braced) ∧
        ∀ m, m ≠ l → (s.legs.get m).phase = .stance
      (settles → t.sup.mode = .settling ∧ t.sup.pendingSettle = false ∧ hasEvent t.ev.pending .modeChange = true ∧
        ∀ m, (t.legs.get m).phase = .posture) ∧
      (¬ settles → t.sup.mode = .standing ∧ t.sup.pendingSettle = true ∧ Lands l t)

/-! ## Mode Supervisor -/

/-- STAND accepted (R143): every foot takes the class named, the mode goes to RISING with MODE_CHANGE raised, every leg to
POSTURE with a setpoint to the stance pose, the rise/settle timer starts, doubled if a leg is derated, and so does the silence
timer (R152). The reply is OK. Refused, nothing changes (R163). -/
def Obligations.StandRises : Prop :=
  ∀ (s : State) (f : Frame) (rest : List Frame) (b : Byte), Taking s f rest → f.kind = 0x20#8 → f.payload = [b] →
    (s.sup.mode ≠ .parked → exec .stand s = .next (s.replied rest (replyTo f .wrongMode []))) ∧
    (s.sup.mode = .parked → 4 < b.toNat → exec .stand s = .next (s.replied rest (replyTo f .badValue []))) ∧
    (s.sup.mode = .parked → ∀ c : SurfaceClass, b.toNat = c.code →
      ∃ t, exec .stand s = .next t ∧ t.link.tx.getLast? = some (.reply (replyTo f .ok []) false) ∧
        t.sup.mode = .rising ∧ hasEvent t.ev.pending .modeChange = true ∧
        (∀ l, t.feet.get l = { s.feet.get l with cls := c }) ∧
        (∀ l, let target := workspaceClamp s.geo ⟨0, 0, -s.geo.standing⟩
          (t.legs.get l).phase = .posture ∧ (t.legs.get l).commanded = target ∧ (t.legs.get l).reached = false ∧
          (⟨l, .setpoint target
            (if (s.legs.get l).derating then max 20 (s.gait.shiftSpeed / 2) else s.gait.shiftSpeed) false⟩ : Txn)
            ∈ t.bus.queue) ∧
        t.sup.riseSettle = some
          (if s.legs.any LegSeq.derating then 2 * s.gait.riseTimeout else s.gait.riseTimeout) ∧
        (s.sup.silenceLimit ≠ 0 → t.link.silence = some s.sup.silenceLimit) ∧
        t.plan = s.plan ∧ t.bal = s.bal ∧ t.bus.drives = s.bus.drives ∧ t.ev.fault = s.ev.fault)

/-- SIT by mode (R145): refused WRONG_MODE in PARKED and RISING, WRONG_STATE in STANDING with the plan running or a leg neither
in STANCE nor held, NOT_SETTLED in SAFE_HOLD with a drive LOST; answered OK with no change in SETTLING; otherwise answered OK
and SETTLING, with every leg in POSTURE and sent to the park pose. -/
def Obligations.SitSettles : Prop :=
  ∀ (s : State) (f : Frame) (rest : List Frame), Taking s f rest → f.kind = 0x21#8 → f.payload = [] →
    let lost : Prop := ∃ l, (s.bus.drives.get l).timeouts ≥ 3
    let sits : Prop := planRuns s = false ∧
      ∀ l, (s.legs.get l).phase = .stance ∨ (s.legs.get l).motion = some .held
    (s.sup.mode = .parked ∨ s.sup.mode = .rising → exec .sit s = .next (s.replied rest (replyTo f .wrongMode []))) ∧
    (s.sup.mode = .settling → exec .sit s = .next (s.replied rest (replyTo f .ok []))) ∧
    (s.sup.mode = .standing → ¬ sits → exec .sit s = .next (s.replied rest (replyTo f .wrongState []))) ∧
    (s.sup.mode = .safeHold → lost → exec .sit s = .next (s.replied rest (replyTo f .notSettled []))) ∧
    (s.sup.mode = .standing ∧ sits ∨ s.sup.mode = .safeHold ∧ ¬ lost →
      ∃ t, exec .sit s = .next t ∧ t.link.tx.getLast? = some (.reply (replyTo f .ok []) false) ∧
        t.sup.mode = .settling ∧ hasEvent t.ev.pending .modeChange = true ∧
        (∀ l, let target := workspaceClamp s.geo ⟨0, 0, -s.geo.park⟩
          (t.legs.get l).phase = .posture ∧ (t.legs.get l).motion = none ∧ (t.legs.get l).record = none ∧
          (t.legs.get l).step = none ∧ (t.legs.get l).timer = none ∧ (t.legs.get l).commanded = target ∧
          (t.legs.get l).reached = false ∧
          (⟨l, .setpoint target
            (if (s.legs.get l).derating then max 20 (s.gait.shiftSpeed / 2) else s.gait.shiftSpeed) false⟩ : Txn)
            ∈ t.bus.queue) ∧
        t.sup.riseSettle = some
          (if s.legs.any LegSeq.derating then 2 * s.gait.riseTimeout else s.gait.riseTimeout) ∧
        t.sup.supportLost = none ∧ t.link.silence = none ∧ t.sup.pendingSettle = false ∧ t.plan = s.plan ∧
        t.feet = s.feet ∧ t.bal = s.bal ∧ t.ev.fault = s.ev.fault)

/-- CLEAR_HOLD (R149): refused WRONG_MODE outside SAFE_HOLD and NOT_SETTLED unless no drive is LOST or reports FAULT, every foot
is LOADED and the held margin is met; else answered OK (R163) and STANDING, every leg in STANCE with its motion cleared and its
HOLD kept. The premise is the invariant HoldsStill. -/
def Obligations.ClearHoldStands : Prop :=
  ∀ (s : State) (f : Frame) (rest : List Frame), Taking s f rest → f.kind = 0x22#8 → f.payload = [] → HoldsStill s →
    let clear : Prop := (∀ l, (s.bus.drives.get l).timeouts < 3 ∧ (s.feet.get l).contact = .loaded ∧
        ∀ r, (s.bus.drives.get l).last = some r → r.state ≠ .fault) ∧ s.bal.held.required ≤ s.bal.held.margin
    (s.sup.mode ≠ .safeHold → exec .clearHold s = .next (s.replied rest (replyTo f .wrongMode []))) ∧
    (s.sup.mode = .safeHold → ¬ clear → exec .clearHold s = .next (s.replied rest (replyTo f .notSettled []))) ∧
    (s.sup.mode = .safeHold → clear →
      ∃ t, exec .clearHold s = .next t ∧ t.link.tx.getLast? = some (.reply (replyTo f .ok []) false) ∧
        t.sup.mode = .standing ∧ hasEvent t.ev.pending .modeChange = true ∧
        (∀ l, (t.legs.get l).phase = .stance ∧ (t.legs.get l).motion = none ∧ (t.legs.get l).record = none ∧
          (t.legs.get l).step = none ∧ (t.legs.get l).commanded = (s.legs.get l).commanded) ∧
        (s.sup.supportLow = true → t.sup.supportLost = some s.balCfg.supportLost) ∧
        (s.sup.supportLow = false → t.sup.supportLost = none) ∧
        (s.sup.silenceLimit ≠ 0 → t.link.silence = some s.sup.silenceLimit) ∧
        t.bus = s.bus ∧ t.plan = s.plan ∧ t.feet = s.feet ∧ t.ev.fault = s.ev.fault)

/-- RISE_SETTLE_TIMEOUT in RISING and in SETTLING and SUPPORT_LOST in STANDING are faults that act, and enter SAFE_HOLD, with
its records seen to (R94, R144, R146, R147, R150; their log order is log 36). SILENCE_EXPIRY: the timer stops and SILENCE is
raised; in STANDING an ACTIVE plan drains, and under SETTLE the part settles at once exactly where the plan is then IDLE,
SUSPENDED or BRACED with every leg in STANCE, else the settle is pending; in RISING the silence-during-rise flag is set (R152,
R153). A timer that has not run out does not expire (log 1, log 4). -/
def Obligations.SupervisorTimersExpire : Prop :=
  (∀ s : State,
    (s.sup.riseSettle ≠ some 0 → exec .riseSettleTimeout s = .next s) ∧
    (s.sup.supportLost ≠ some 0 → exec .supportLost s = .next s) ∧ (s.link.silence ≠ some 0 → exec .silenceExpiry s = .next s) ∧
    (s.sup.riseSettle = some 0 → s.sup.mode = .rising →
      ∃ t, exec .riseSettleTimeout s = .next t ∧ EntersSafeHold .riseFailed none s t) ∧
    (s.sup.riseSettle = some 0 → s.sup.mode = .settling →
      ∃ t, exec .riseSettleTimeout s = .next t ∧ EntersSafeHold .settleFailed none s t) ∧
    (s.sup.supportLost = some 0 → s.sup.mode = .standing →
      ∃ t, exec .supportLost s = .next t ∧ EntersSafeHold .supportLost none s t)) ∧
  ∀ s : State, s.link.silence = some 0 →
    ∃ t, exec .silenceExpiry s = .next t ∧ t.link.silence = none ∧ hasEvent t.ev.pending .silence = true ∧
      (s.sup.mode = .rising → t.sup = { s.sup with silenceInRise := true } ∧ t.plan = s.plan) ∧
      (s.sup.mode = .standing →
        (s.plan.state = .active → t.plan.state =
          (if ∀ w ∈ s.plan.window, w.cond = .waiting then .suspended else .draining)) ∧
        (s.plan.state ≠ .active → t.plan = s.plan) ∧
        (s.sup.policy = .suspend → s.sup.pendingSettle = false → t.sup = s.sup) ∧
        (s.sup.policy = .settle →
          let drained : Prop := s.plan.state = .active ∧ (∀ w ∈ s.plan.window, w.cond = .waiting) ∨ s.plan.state = .idle ∨
            s.plan.state = .suspended ∨ s.plan.state = .braced
          let settles : Prop := drained ∧ ∀ l, (s.legs.get l).phase = .stance
          (settles → t.sup.mode = .settling ∧ t.sup.pendingSettle = false ∧ hasEvent t.ev.pending .modeChange = true ∧
            ∀ l, (t.legs.get l).phase = .posture) ∧
          (¬ settles → t.sup.mode = .standing ∧ t.sup.pendingSettle = true))) ∧
      (s.sup.mode ≠ .rising → s.sup.mode ≠ .standing → t.sup = s.sup ∧ t.plan = s.plan)

/-- The mode changes only as the table of R142 says, by the causes it names: PARKED to RISING by STAND; RISING to STANDING by a
reply or a load sample; STANDING to SETTLING by SIT, or under the SETTLE policy by a settle that is pending or that a silence
expiry makes so, in either case with the plan IDLE, SUSPENDED or BRACED; SAFE_HOLD to SETTLING by SIT and to STANDING by
CLEAR_HOLD; SETTLING to PARKED by a reply; and into SAFE_HOLD by a reply, a reply timeout, a load sample, a stale load, and, in
the mode where their fault acts, ATTITUDE_LOST, SUPPORT_LOST and RISE_SETTLE_TIMEOUT (R142 to R150). A rise complete whose
silence then settles takes two rows in one command (R144, R153; log 17). The resets apart. Every change leaves MODE_CHANGE
pending. The premise is the invariant HoldsStill. A pending settle never outlasts its condition: every step keeps the invariant
that it stands only in STANDING, while the plan runs or some leg is off STANCE (R153). -/
def Obligations.ModeFollowsItsTable : Prop :=
  (∀ s t : State, SettleWaits s → step s = .next t → SettleWaits t) ∧
  ∀ (c : Instr) (s t : State), HoldsStill s → exec c s = .next t → ¬ resetsPart c s → t.sup.mode ≠ s.sup.mode →
    let replies : Prop := ∃ bytes, c = .driveReply bytes
    let samples : Prop := ∃ l period, c = .loadSample l period
    hasEvent t.ev.pending .modeChange = true ∧
    match s.sup.mode, t.sup.mode with
    | .parked, .rising => c = .stand
    | .rising, .standing => replies ∨ samples
    | .rising, .settling => (replies ∨ samples) ∧ (s.sup.policy = .settle ∨ s.sup.pendingSettle = true)
    | .standing, .settling =>
      (c = .sit ∨ s.sup.pendingSettle = true ∨ c = .silenceExpiry ∧ s.sup.policy = .settle) ∧
        (t.plan.state = .idle ∨ t.plan.state = .suspended ∨ t.plan.state = .braced)
    | .safeHold, .settling => c = .sit
    | .safeHold, .standing => c = .clearHold
    | .settling, .parked => replies
    | m, .safeHold => replies ∨ samples ∨ c = .driveReplyTimeout ∨ (∃ l, c = .loadStale l) ∨
      c = .attitudeLost ∧ m = .standing ∨ c = .supportLost ∧ m = .standing ∨
      c = .riseSettleTimeout ∧ (m = .rising ∨ m = .settling)
    | _, _ => False

/-- SAFE_HOLD holds still: while the mode is SAFE_HOLD only SIT, CLEAR_HOLD and the resets of the whole part leave it, and every
other command leaves each leg's phase, motion and commanded target as they are; and every step keeps the invariant that makes
it so (R98, R147). -/
def Obligations.SafeHoldHoldsStill : Prop :=
  (∀ s t : State, HoldsStill s → step s = .next t → HoldsStill t) ∧
  ∀ (c : Instr) (s t : State), HoldsStill s → s.sup.mode = .safeHold → exec c s = .next t → c ≠ .sit → c ≠ .clearHold →
    ¬ resetsPart c s →
    t.sup.mode = .safeHold ∧ ∀ l, (t.legs.get l).phase = (s.legs.get l).phase ∧
      (t.legs.get l).motion = (s.legs.get l).motion ∧ (t.legs.get l).commanded = (s.legs.get l).commanded

/-! ## Drive Bus Controller -/

/-- The bus: a request is thirteen bytes, laid out with its check high byte first, a POLL with zeros (R126, R180); the head
entry is sent on an idle bus, the reply window opens when its last byte has gone, a guard ends in an idle bus, and at the expiry
of its timer a poll is queued unless a transaction for the drive is queued or in flight (R126, R130, R131). Bytes outside a
reply window are discarded (R135); a command that meets another condition of the bus, or a poll timer that has not run out,
changes nothing (log 1, log 4). How a setpoint is taken (R129): discarded in PARKED; coalesced in place into the SETPOINT that
waits for the drive; else added at the tail. -/
def Obligations.BusTransactions : Prop :=
  (∀ x : Txn,
    let fields := leBytes 1 (([.fl, .fr, .rl, .rr] : List Leg).idxOf x.leg) ++
      match x.op with
      | .setpoint v speed hold =>
        [0x01#8] ++ leSigned v.x ++ leSigned v.y ++ leSigned v.z ++ leBytes 2 speed ++ [if hold then 0x01#8 else 0x00#8]
      | .poll => [0x02#8, 0x00#8, 0x00#8, 0x00#8, 0x00#8, 0x00#8, 0x00#8, 0x00#8, 0x00#8, 0x00#8]
    let check := (crc16 fields).toNat
    requestFrame x = fields ++ [BitVec.ofNat 8 (check / 256), BitVec.ofNat 8 check]) ∧
  (∀ (s : State) (l : Leg),
    (∀ x rest, s.bus.line = .idle → s.bus.queue = x :: rest →
      exec .driveTransactionSend s = .next (s.setBus { s.bus with queue := rest, line := .sending x (requestFrame x) })) ∧
    (s.bus.line ≠ .idle ∨ s.bus.queue = [] → exec .driveTransactionSend s = .next s) ∧
    (∀ x bytes, s.bus.line = .sending x bytes →
      exec .driveRequestSent s = .next (s.setBus { s.bus with line := .window x 400 [] })) ∧
    ((∀ x bytes, s.bus.line ≠ .sending x bytes) → exec .driveRequestSent s = .next s) ∧
    (∀ n, s.bus.line = .guard n → exec .guardEnd s = .next (s.setBus { s.bus with line := .idle })) ∧
    ((∀ n, s.bus.line ≠ .guard n) → exec .guardEnd s = .next s) ∧
    ((∀ x n got, s.bus.line ≠ .window x n got) →
      (∀ bytes, exec (.driveReply bytes) s = .next s) ∧ exec .driveReplyTimeout s = .next s) ∧
    (let busy : Prop := (∃ x ∈ s.bus.queue, x.leg = l) ∨ (∃ x bytes, s.bus.line = .sending x bytes ∧ x.leg = l) ∨
        ∃ x n got, s.bus.line = .window x n got ∧ x.leg = l
     let drives := s.bus.drives.set l { s.bus.drives.get l with poll := 5 }
     ((s.bus.drives.get l).poll ≠ 0 → exec (.pollTimerExpiry l) s = .next s) ∧
     ((s.bus.drives.get l).poll = 0 → busy →
       exec (.pollTimerExpiry l) s = .next (s.setBus { s.bus with drives := drives })) ∧
     ((s.bus.drives.get l).poll = 0 → ¬ busy → exec (.pollTimerExpiry l) s = .next
       (s.setBus { s.bus with drives := drives, queue := s.bus.queue ++ [⟨l, .poll⟩] })))) ∧
  ∀ (l : Leg) (v : Vec3) (speed : Nat) (hold : Bool) (s : State),
    (s.sup.mode = .parked → handover l v speed hold s = s) ∧
    (s.sup.mode ≠ .parked →
      (∀ ahead old behind, s.bus.queue = ahead ++ ⟨l, old⟩ :: behind → old ≠ .poll →
        (∀ x ∈ ahead ++ behind, x.leg = l → x.op = .poll) →
        handover l v speed hold s = s.setBus { s.bus with queue := ahead ++ ⟨l, .setpoint v speed hold⟩ :: behind }) ∧
      ((∀ x ∈ s.bus.queue, x.leg = l → x.op = .poll) →
        handover l v speed hold s = s.setBus { s.bus with queue := s.bus.queue ++ [⟨l, .setpoint v speed hold⟩] }))

/-- A drive's twelve-byte reply to the transaction in flight, laid out as R180 says and with the right check, is judged a good
reply with its position, state and REACHED flag; with another leg's address or the other operation it is a stray (R127). Of any
twelve bytes, those whose check does not match or whose state byte is above 4 are a bad reply, before anything else is looked at
(R127, R180). A stray reply changes nothing but the bytes collected (R135); bytes short of a whole reply are collected (R127).
-/
def Obligations.DriveReplyIsReadBack : Prop :=
  (∀ (x y : Txn) (pos : Vec3) (st : DriveState) (flags : Byte), fits16 pos.x → fits16 pos.y → fits16 pos.z →
    (driveReplyBytes x pos st flags).length = 12 ∧
    judgeReply x (driveReplyBytes x pos st flags) = .good pos st (flags.getLsbD 0) ∧
    (x.leg ≠ y.leg ∨ x.op.code ≠ y.op.code → judgeReply y (driveReplyBytes x pos st flags) = .stray)) ∧
  (∀ (x : Txn) (bytes : List Byte), bytes.length = 12 →
    let check := (crc16 (bytes.take 10)).toNat
    let bad : Prop := bytes.drop 10 ≠ [BitVec.ofNat 8 (check / 256), BitVec.ofNat 8 check] ∨ 4 < (bytes.getD 8 0).toNat
    let ours : Prop := (bytes.getD 0 0).toNat = ([.fl, .fr, .rl, .rr] : List Leg).idxOf x.leg ∧
      bytes.getD 1 0 = (if x.op = .poll then 0x02#8 else 0x01#8)
    (bad → judgeReply x bytes = .bad) ∧ (¬ bad → ¬ ours → judgeReply x bytes = .stray) ∧
      (¬ bad → ours → ∃ pos st, judgeReply x bytes = .good pos st ((bytes.getD 9 0).getLsbD 0))) ∧
  ∀ (s : State) (x : Txn) (n : Nat) (bytes : List Byte), s.bus.line = .window x n [] →
    (bytes.length < 12 → exec (.driveReply bytes) s = .next (s.setBus { s.bus with line := .window x n bytes })) ∧
    (bytes.length = 12 → judgeReply x bytes = .stray → exec (.driveReply bytes) s = .next s)

/-- A good reply (R132): the position, the last reply, the timeout count and the poll timer of its drive, and the derating flag
of its leg; the bus is free; no other drive, no foot's contact state and no configuration record changes. In SAFE_HOLD its
reached test sets the flag and clears none (R97, R98); that the derating flag follows the reply there too is DEDUCED (log 33).
Outside it a change of the derating flag forms a setpoint not yet reached again, to the same target at the speed the flag calls
for, the phase timer as it was (R121; log 16). An AT_LIMIT arrival that ends LIFT, SWING or REACH of a step marks leg and record
CLAMPED (R122; log 15); the premises are the invariant SteppingServes and that no id stands twice in the plan. FAULT after
another state is raised and enters SAFE_HOLD, or is taken in it with no setpoint queued (R139, R147, R148). -/
def Obligations.GoodReplyIsTaken : Prop :=
  ∀ (s : State) (x : Txn) (n : Nat) (pos : Vec3) (st : DriveState) (flags : Byte), s.bus.line = .window x n [] →
    fits16 pos.x → fits16 pos.y → fits16 pos.z →
    ∃ t, exec (.driveReply (driveReplyBytes x pos st flags)) s = .next t ∧
      t.bus.drives.get x.leg = ⟨pos, some ⟨st, flags.getLsbD 0⟩, 0, 5⟩ ∧
      (∀ m, m ≠ x.leg → t.bus.drives.get m = s.bus.drives.get m) ∧ t.bus.line = .idle ∧
      (t.legs.get x.leg).derating = decide (st = .hot) ∧
      (∀ m, (t.feet.get m).contact = (s.feet.get m).contact) ∧ t.geo = s.geo ∧ t.surf = s.surf ∧
      t.balCfg = s.balCfg ∧ t.gait = s.gait ∧
      (let q := s.legs.get x.leg
       let pass : Prop := st = .atLimit ∨ flags.getLsbD 0 = true ∧ |pos.x - q.commanded.x| ≤ s.gait.tolerance ∧
         |pos.y - q.commanded.y| ≤ s.gait.tolerance ∧ |pos.z - q.commanded.z| ≤ s.gait.tolerance
       let loaded : Prop := (s.feet.get x.leg).contact = .loaded
       st ≠ .fault →
        (∀ v, q.speed = some v → s.sup.mode ≠ .parked → s.sup.mode ≠ .safeHold → q.phase ≠ .folded → q.reached = false →
          ¬ pass → q.derating ≠ decide (st = .hot) →
          (t.legs.get x.leg).commanded = q.commanded ∧ (t.legs.get x.leg).reached = false ∧
            (t.legs.get x.leg).timer = q.timer ∧
            (⟨x.leg, .setpoint q.commanded (spared (decide (st = .hot)) v) false⟩ : Txn) ∈ t.bus.queue) ∧
        (∀ d, q.step = some d → q.motion = some .step → s.sup.mode = .standing → s.sup.pendingSettle = false →
          (∀ w ∈ s.plan.window, w.cond ≠ .running) → SteppingServes s → (idsInPlan s).Nodup → st = .atLimit →
          q.reached = false →
          q.phase = .lift ∧ (s.feet.get x.leg).contact = .air ∨ q.phase = .swing ∧ ¬ loaded ∨ q.phase = .reach ∧ ¬ loaded →
          (t.legs.get x.leg).clamped = true ∧ ∀ w ∈ t.plan.window, q.record = some w.body.id → w.body.clamped = true)) ∧
      (s.sup.mode = .safeHold →
        ((t.legs.get x.leg).reached = true ↔
          (s.legs.get x.leg).reached = true ∨ st = .atLimit ∨
            flags.getLsbD 0 = true ∧ |pos.x - (s.legs.get x.leg).commanded.x| ≤ s.gait.tolerance ∧
              |pos.y - (s.legs.get x.leg).commanded.y| ≤ s.gait.tolerance ∧
              |pos.z - (s.legs.get x.leg).commanded.z| ≤ s.gait.tolerance)) ∧
      (st = .fault → (∀ r, (s.bus.drives.get x.leg).last = some r → r.state ≠ .fault) →
        t.sup.mode = .safeHold ∧ hasEvent t.ev.pending .driveFault = true ∧
        (s.sup.mode = .safeHold → s.plan.window = [] →
          FaultInSafeHold .driveFault (some x.leg) s t ∧ t.bus.queue = s.bus.queue ∧ t.plan = s.plan))

/-- A transaction that closes as TIMEOUT or by a bad reply (R133, R134, R136 to R138): its own counter rises and not the other,
a guard starts, the drive's position, last reply and poll timer are kept, its timeout count rises to 3 at most, a SETPOINT is
queued again unless a newer one waits or the mode is PARKED; the third failure in a row raises DRIVE_FAULT and is a DRIVE_LOST
fault that enters SAFE_HOLD, with its records seen to (R94; their log order is log 36), or is taken in it (R147, R148). -/
def Obligations.FailedTransactionCounts : Prop :=
  ∀ (s : State) (x : Txn) (n : Nat) (got bytes : List Byte), s.bus.line = .window x n got →
    ∀ c, (c = .driveReplyTimeout ∨ got = [] ∧ bytes.length = 12 ∧ judgeReply x bytes = .bad ∧ c = .driveReply bytes) →
    ∃ t, exec c s = .next t ∧ t.bus.line = .guard 400 ∧
      t.bus.drives.get x.leg = { s.bus.drives.get x.leg with
        timeouts := if 3 ≤ (s.bus.drives.get x.leg).timeouts then (s.bus.drives.get x.leg).timeouts
          else (s.bus.drives.get x.leg).timeouts + 1 } ∧
      (∀ m, m ≠ x.leg → t.bus.drives.get m = s.bus.drives.get m) ∧
      t.ev.counters.driveTimeouts =
        s.ev.counters.driveTimeouts + (if c = .driveReplyTimeout then 1 else 0) ∧
      t.ev.counters.driveCrcErrors =
        s.ev.counters.driveCrcErrors + (if c = .driveReplyTimeout then 0 else 1) ∧
      ((s.bus.drives.get x.leg).timeouts ≠ 2 →
        t.sup = s.sup ∧ t.legs = s.legs ∧ t.plan = s.plan ∧ t.ev.pending = s.ev.pending ∧
        t.bus.queue =
          (if x.op ≠ .poll ∧ (∀ y ∈ s.bus.queue, y.leg = x.leg → y.op = .poll) ∧ s.sup.mode ≠ .parked then
            s.bus.queue ++ [x]
          else s.bus.queue)) ∧
      ((s.bus.drives.get x.leg).timeouts = 2 →
        hasEvent t.ev.pending .driveFault = true ∧
          (s.sup.mode ≠ .safeHold → EntersSafeHold .driveLost (some x.leg) s t) ∧
          (s.sup.mode = .safeHold → FaultInSafeHold .driveLost (some x.leg) s t ∧ t.legs = s.legs ∧ t.plan = s.plan ∧
            t.bus.queue =
              (if x.op ≠ .poll ∧ (∀ y ∈ s.bus.queue, y.leg = x.leg → y.op = .poll) then s.bus.queue ++ [x]
               else s.bus.queue)))
end

