-- ==== Sys2Proof/Laws/State.lean ====
section
/-! SUPPORT. One lemma per field per update of the state, and the laws of `Quad`. -/

namespace Sys2Proof.Machine

variable (s : State)

@[simp] theorem State.setGeo_geo (a : Geometry) : (s.setGeo a).geo = a := rfl
@[simp] theorem State.setGeo_surf (a : Geometry) : (s.setGeo a).surf = s.surf := rfl
@[simp] theorem State.setGeo_balCfg (a : Geometry) : (s.setGeo a).balCfg = s.balCfg := rfl
@[simp] theorem State.setGeo_gait (a : Geometry) : (s.setGeo a).gait = s.gait := rfl
@[simp] theorem State.setGeo_feet (a : Geometry) : (s.setGeo a).feet = s.feet := rfl
@[simp] theorem State.setGeo_att (a : Geometry) : (s.setGeo a).att = s.att := rfl
@[simp] theorem State.setGeo_bal (a : Geometry) : (s.setGeo a).bal = s.bal := rfl
@[simp] theorem State.setGeo_plan (a : Geometry) : (s.setGeo a).plan = s.plan := rfl
@[simp] theorem State.setGeo_legs (a : Geometry) : (s.setGeo a).legs = s.legs := rfl
@[simp] theorem State.setGeo_bus (a : Geometry) : (s.setGeo a).bus = s.bus := rfl
@[simp] theorem State.setGeo_sup (a : Geometry) : (s.setGeo a).sup = s.sup := rfl
@[simp] theorem State.setGeo_link (a : Geometry) : (s.setGeo a).link = s.link := rfl
@[simp] theorem State.setGeo_ev (a : Geometry) : (s.setGeo a).ev = s.ev := rfl
@[simp] theorem State.setGeo_pending (a : Geometry) : (s.setGeo a).pending = s.pending := rfl

@[simp] theorem State.setSurf_geo (a : Surfaces) : (s.setSurf a).geo = s.geo := rfl
@[simp] theorem State.setSurf_surf (a : Surfaces) : (s.setSurf a).surf = a := rfl
@[simp] theorem State.setSurf_balCfg (a : Surfaces) : (s.setSurf a).balCfg = s.balCfg := rfl
@[simp] theorem State.setSurf_gait (a : Surfaces) : (s.setSurf a).gait = s.gait := rfl
@[simp] theorem State.setSurf_feet (a : Surfaces) : (s.setSurf a).feet = s.feet := rfl
@[simp] theorem State.setSurf_att (a : Surfaces) : (s.setSurf a).att = s.att := rfl
@[simp] theorem State.setSurf_bal (a : Surfaces) : (s.setSurf a).bal = s.bal := rfl
@[simp] theorem State.setSurf_plan (a : Surfaces) : (s.setSurf a).plan = s.plan := rfl
@[simp] theorem State.setSurf_legs (a : Surfaces) : (s.setSurf a).legs = s.legs := rfl
@[simp] theorem State.setSurf_bus (a : Surfaces) : (s.setSurf a).bus = s.bus := rfl
@[simp] theorem State.setSurf_sup (a : Surfaces) : (s.setSurf a).sup = s.sup := rfl
@[simp] theorem State.setSurf_link (a : Surfaces) : (s.setSurf a).link = s.link := rfl
@[simp] theorem State.setSurf_ev (a : Surfaces) : (s.setSurf a).ev = s.ev := rfl
@[simp] theorem State.setSurf_pending (a : Surfaces) : (s.setSurf a).pending = s.pending := rfl

@[simp] theorem State.setBalCfg_geo (a : BalanceCfg) : (s.setBalCfg a).geo = s.geo := rfl
@[simp] theorem State.setBalCfg_surf (a : BalanceCfg) : (s.setBalCfg a).surf = s.surf := rfl
@[simp] theorem State.setBalCfg_balCfg (a : BalanceCfg) : (s.setBalCfg a).balCfg = a := rfl
@[simp] theorem State.setBalCfg_gait (a : BalanceCfg) : (s.setBalCfg a).gait = s.gait := rfl
@[simp] theorem State.setBalCfg_feet (a : BalanceCfg) : (s.setBalCfg a).feet = s.feet := rfl
@[simp] theorem State.setBalCfg_att (a : BalanceCfg) : (s.setBalCfg a).att = s.att := rfl
@[simp] theorem State.setBalCfg_bal (a : BalanceCfg) : (s.setBalCfg a).bal = s.bal := rfl
@[simp] theorem State.setBalCfg_plan (a : BalanceCfg) : (s.setBalCfg a).plan = s.plan := rfl
@[simp] theorem State.setBalCfg_legs (a : BalanceCfg) : (s.setBalCfg a).legs = s.legs := rfl
@[simp] theorem State.setBalCfg_bus (a : BalanceCfg) : (s.setBalCfg a).bus = s.bus := rfl
@[simp] theorem State.setBalCfg_sup (a : BalanceCfg) : (s.setBalCfg a).sup = s.sup := rfl
@[simp] theorem State.setBalCfg_link (a : BalanceCfg) : (s.setBalCfg a).link = s.link := rfl
@[simp] theorem State.setBalCfg_ev (a : BalanceCfg) : (s.setBalCfg a).ev = s.ev := rfl
@[simp] theorem State.setBalCfg_pending (a : BalanceCfg) : (s.setBalCfg a).pending = s.pending := rfl

@[simp] theorem State.setGait_geo (a : GaitCfg) : (s.setGait a).geo = s.geo := rfl
@[simp] theorem State.setGait_surf (a : GaitCfg) : (s.setGait a).surf = s.surf := rfl
@[simp] theorem State.setGait_balCfg (a : GaitCfg) : (s.setGait a).balCfg = s.balCfg := rfl
@[simp] theorem State.setGait_gait (a : GaitCfg) : (s.setGait a).gait = a := rfl
@[simp] theorem State.setGait_feet (a : GaitCfg) : (s.setGait a).feet = s.feet := rfl
@[simp] theorem State.setGait_att (a : GaitCfg) : (s.setGait a).att = s.att := rfl
@[simp] theorem State.setGait_bal (a : GaitCfg) : (s.setGait a).bal = s.bal := rfl
@[simp] theorem State.setGait_plan (a : GaitCfg) : (s.setGait a).plan = s.plan := rfl
@[simp] theorem State.setGait_legs (a : GaitCfg) : (s.setGait a).legs = s.legs := rfl
@[simp] theorem State.setGait_bus (a : GaitCfg) : (s.setGait a).bus = s.bus := rfl
@[simp] theorem State.setGait_sup (a : GaitCfg) : (s.setGait a).sup = s.sup := rfl
@[simp] theorem State.setGait_link (a : GaitCfg) : (s.setGait a).link = s.link := rfl
@[simp] theorem State.setGait_ev (a : GaitCfg) : (s.setGait a).ev = s.ev := rfl
@[simp] theorem State.setGait_pending (a : GaitCfg) : (s.setGait a).pending = s.pending := rfl

@[simp] theorem State.setFeet_geo (a : Quad Foot) : (s.setFeet a).geo = s.geo := rfl
@[simp] theorem State.setFeet_surf (a : Quad Foot) : (s.setFeet a).surf = s.surf := rfl
@[simp] theorem State.setFeet_balCfg (a : Quad Foot) : (s.setFeet a).balCfg = s.balCfg := rfl
@[simp] theorem State.setFeet_gait (a : Quad Foot) : (s.setFeet a).gait = s.gait := rfl
@[simp] theorem State.setFeet_feet (a : Quad Foot) : (s.setFeet a).feet = a := rfl
@[simp] theorem State.setFeet_att (a : Quad Foot) : (s.setFeet a).att = s.att := rfl
@[simp] theorem State.setFeet_bal (a : Quad Foot) : (s.setFeet a).bal = s.bal := rfl
@[simp] theorem State.setFeet_plan (a : Quad Foot) : (s.setFeet a).plan = s.plan := rfl
@[simp] theorem State.setFeet_legs (a : Quad Foot) : (s.setFeet a).legs = s.legs := rfl
@[simp] theorem State.setFeet_bus (a : Quad Foot) : (s.setFeet a).bus = s.bus := rfl
@[simp] theorem State.setFeet_sup (a : Quad Foot) : (s.setFeet a).sup = s.sup := rfl
@[simp] theorem State.setFeet_link (a : Quad Foot) : (s.setFeet a).link = s.link := rfl
@[simp] theorem State.setFeet_ev (a : Quad Foot) : (s.setFeet a).ev = s.ev := rfl
@[simp] theorem State.setFeet_pending (a : Quad Foot) : (s.setFeet a).pending = s.pending := rfl

@[simp] theorem State.setAtt_geo (a : Attitude) : (s.setAtt a).geo = s.geo := rfl
@[simp] theorem State.setAtt_surf (a : Attitude) : (s.setAtt a).surf = s.surf := rfl
@[simp] theorem State.setAtt_balCfg (a : Attitude) : (s.setAtt a).balCfg = s.balCfg := rfl
@[simp] theorem State.setAtt_gait (a : Attitude) : (s.setAtt a).gait = s.gait := rfl
@[simp] theorem State.setAtt_feet (a : Attitude) : (s.setAtt a).feet = s.feet := rfl
@[simp] theorem State.setAtt_att (a : Attitude) : (s.setAtt a).att = a := rfl
@[simp] theorem State.setAtt_bal (a : Attitude) : (s.setAtt a).bal = s.bal := rfl
@[simp] theorem State.setAtt_plan (a : Attitude) : (s.setAtt a).plan = s.plan := rfl
@[simp] theorem State.setAtt_legs (a : Attitude) : (s.setAtt a).legs = s.legs := rfl
@[simp] theorem State.setAtt_bus (a : Attitude) : (s.setAtt a).bus = s.bus := rfl
@[simp] theorem State.setAtt_sup (a : Attitude) : (s.setAtt a).sup = s.sup := rfl
@[simp] theorem State.setAtt_link (a : Attitude) : (s.setAtt a).link = s.link := rfl
@[simp] theorem State.setAtt_ev (a : Attitude) : (s.setAtt a).ev = s.ev := rfl
@[simp] theorem State.setAtt_pending (a : Attitude) : (s.setAtt a).pending = s.pending := rfl

@[simp] theorem State.setBal_geo (a : Balance) : (s.setBal a).geo = s.geo := rfl
@[simp] theorem State.setBal_surf (a : Balance) : (s.setBal a).surf = s.surf := rfl
@[simp] theorem State.setBal_balCfg (a : Balance) : (s.setBal a).balCfg = s.balCfg := rfl
@[simp] theorem State.setBal_gait (a : Balance) : (s.setBal a).gait = s.gait := rfl
@[simp] theorem State.setBal_feet (a : Balance) : (s.setBal a).feet = s.feet := rfl
@[simp] theorem State.setBal_att (a : Balance) : (s.setBal a).att = s.att := rfl
@[simp] theorem State.setBal_bal (a : Balance) : (s.setBal a).bal = a := rfl
@[simp] theorem State.setBal_plan (a : Balance) : (s.setBal a).plan = s.plan := rfl
@[simp] theorem State.setBal_legs (a : Balance) : (s.setBal a).legs = s.legs := rfl
@[simp] theorem State.setBal_bus (a : Balance) : (s.setBal a).bus = s.bus := rfl
@[simp] theorem State.setBal_sup (a : Balance) : (s.setBal a).sup = s.sup := rfl
@[simp] theorem State.setBal_link (a : Balance) : (s.setBal a).link = s.link := rfl
@[simp] theorem State.setBal_ev (a : Balance) : (s.setBal a).ev = s.ev := rfl
@[simp] theorem State.setBal_pending (a : Balance) : (s.setBal a).pending = s.pending := rfl

@[simp] theorem State.setPlan_geo (a : Planner) : (s.setPlan a).geo = s.geo := rfl
@[simp] theorem State.setPlan_surf (a : Planner) : (s.setPlan a).surf = s.surf := rfl
@[simp] theorem State.setPlan_balCfg (a : Planner) : (s.setPlan a).balCfg = s.balCfg := rfl
@[simp] theorem State.setPlan_gait (a : Planner) : (s.setPlan a).gait = s.gait := rfl
@[simp] theorem State.setPlan_feet (a : Planner) : (s.setPlan a).feet = s.feet := rfl
@[simp] theorem State.setPlan_att (a : Planner) : (s.setPlan a).att = s.att := rfl
@[simp] theorem State.setPlan_bal (a : Planner) : (s.setPlan a).bal = s.bal := rfl
@[simp] theorem State.setPlan_plan (a : Planner) : (s.setPlan a).plan = a := rfl
@[simp] theorem State.setPlan_legs (a : Planner) : (s.setPlan a).legs = s.legs := rfl
@[simp] theorem State.setPlan_bus (a : Planner) : (s.setPlan a).bus = s.bus := rfl
@[simp] theorem State.setPlan_sup (a : Planner) : (s.setPlan a).sup = s.sup := rfl
@[simp] theorem State.setPlan_link (a : Planner) : (s.setPlan a).link = s.link := rfl
@[simp] theorem State.setPlan_ev (a : Planner) : (s.setPlan a).ev = s.ev := rfl
@[simp] theorem State.setPlan_pending (a : Planner) : (s.setPlan a).pending = s.pending := rfl

@[simp] theorem State.setLegs_geo (a : Quad LegSeq) : (s.setLegs a).geo = s.geo := rfl
@[simp] theorem State.setLegs_surf (a : Quad LegSeq) : (s.setLegs a).surf = s.surf := rfl
@[simp] theorem State.setLegs_balCfg (a : Quad LegSeq) : (s.setLegs a).balCfg = s.balCfg := rfl
@[simp] theorem State.setLegs_gait (a : Quad LegSeq) : (s.setLegs a).gait = s.gait := rfl
@[simp] theorem State.setLegs_feet (a : Quad LegSeq) : (s.setLegs a).feet = s.feet := rfl
@[simp] theorem State.setLegs_att (a : Quad LegSeq) : (s.setLegs a).att = s.att := rfl
@[simp] theorem State.setLegs_bal (a : Quad LegSeq) : (s.setLegs a).bal = s.bal := rfl
@[simp] theorem State.setLegs_plan (a : Quad LegSeq) : (s.setLegs a).plan = s.plan := rfl
@[simp] theorem State.setLegs_legs (a : Quad LegSeq) : (s.setLegs a).legs = a := rfl
@[simp] theorem State.setLegs_bus (a : Quad LegSeq) : (s.setLegs a).bus = s.bus := rfl
@[simp] theorem State.setLegs_sup (a : Quad LegSeq) : (s.setLegs a).sup = s.sup := rfl
@[simp] theorem State.setLegs_link (a : Quad LegSeq) : (s.setLegs a).link = s.link := rfl
@[simp] theorem State.setLegs_ev (a : Quad LegSeq) : (s.setLegs a).ev = s.ev := rfl
@[simp] theorem State.setLegs_pending (a : Quad LegSeq) : (s.setLegs a).pending = s.pending := rfl

@[simp] theorem State.setBus_geo (a : Bus) : (s.setBus a).geo = s.geo := rfl
@[simp] theorem State.setBus_surf (a : Bus) : (s.setBus a).surf = s.surf := rfl
@[simp] theorem State.setBus_balCfg (a : Bus) : (s.setBus a).balCfg = s.balCfg := rfl
@[simp] theorem State.setBus_gait (a : Bus) : (s.setBus a).gait = s.gait := rfl
@[simp] theorem State.setBus_feet (a : Bus) : (s.setBus a).feet = s.feet := rfl
@[simp] theorem State.setBus_att (a : Bus) : (s.setBus a).att = s.att := rfl
@[simp] theorem State.setBus_bal (a : Bus) : (s.setBus a).bal = s.bal := rfl
@[simp] theorem State.setBus_plan (a : Bus) : (s.setBus a).plan = s.plan := rfl
@[simp] theorem State.setBus_legs (a : Bus) : (s.setBus a).legs = s.legs := rfl
@[simp] theorem State.setBus_bus (a : Bus) : (s.setBus a).bus = a := rfl
@[simp] theorem State.setBus_sup (a : Bus) : (s.setBus a).sup = s.sup := rfl
@[simp] theorem State.setBus_link (a : Bus) : (s.setBus a).link = s.link := rfl
@[simp] theorem State.setBus_ev (a : Bus) : (s.setBus a).ev = s.ev := rfl
@[simp] theorem State.setBus_pending (a : Bus) : (s.setBus a).pending = s.pending := rfl

@[simp] theorem State.setSup_geo (a : Supervisor) : (s.setSup a).geo = s.geo := rfl
@[simp] theorem State.setSup_surf (a : Supervisor) : (s.setSup a).surf = s.surf := rfl
@[simp] theorem State.setSup_balCfg (a : Supervisor) : (s.setSup a).balCfg = s.balCfg := rfl
@[simp] theorem State.setSup_gait (a : Supervisor) : (s.setSup a).gait = s.gait := rfl
@[simp] theorem State.setSup_feet (a : Supervisor) : (s.setSup a).feet = s.feet := rfl
@[simp] theorem State.setSup_att (a : Supervisor) : (s.setSup a).att = s.att := rfl
@[simp] theorem State.setSup_bal (a : Supervisor) : (s.setSup a).bal = s.bal := rfl
@[simp] theorem State.setSup_plan (a : Supervisor) : (s.setSup a).plan = s.plan := rfl
@[simp] theorem State.setSup_legs (a : Supervisor) : (s.setSup a).legs = s.legs := rfl
@[simp] theorem State.setSup_bus (a : Supervisor) : (s.setSup a).bus = s.bus := rfl
@[simp] theorem State.setSup_sup (a : Supervisor) : (s.setSup a).sup = a := rfl
@[simp] theorem State.setSup_link (a : Supervisor) : (s.setSup a).link = s.link := rfl
@[simp] theorem State.setSup_ev (a : Supervisor) : (s.setSup a).ev = s.ev := rfl
@[simp] theorem State.setSup_pending (a : Supervisor) : (s.setSup a).pending = s.pending := rfl

@[simp] theorem State.setLink_geo (a : LinkPort) : (s.setLink a).geo = s.geo := rfl
@[simp] theorem State.setLink_surf (a : LinkPort) : (s.setLink a).surf = s.surf := rfl
@[simp] theorem State.setLink_balCfg (a : LinkPort) : (s.setLink a).balCfg = s.balCfg := rfl
@[simp] theorem State.setLink_gait (a : LinkPort) : (s.setLink a).gait = s.gait := rfl
@[simp] theorem State.setLink_feet (a : LinkPort) : (s.setLink a).feet = s.feet := rfl
@[simp] theorem State.setLink_att (a : LinkPort) : (s.setLink a).att = s.att := rfl
@[simp] theorem State.setLink_bal (a : LinkPort) : (s.setLink a).bal = s.bal := rfl
@[simp] theorem State.setLink_plan (a : LinkPort) : (s.setLink a).plan = s.plan := rfl
@[simp] theorem State.setLink_legs (a : LinkPort) : (s.setLink a).legs = s.legs := rfl
@[simp] theorem State.setLink_bus (a : LinkPort) : (s.setLink a).bus = s.bus := rfl
@[simp] theorem State.setLink_sup (a : LinkPort) : (s.setLink a).sup = s.sup := rfl
@[simp] theorem State.setLink_link (a : LinkPort) : (s.setLink a).link = a := rfl
@[simp] theorem State.setLink_ev (a : LinkPort) : (s.setLink a).ev = s.ev := rfl
@[simp] theorem State.setLink_pending (a : LinkPort) : (s.setLink a).pending = s.pending := rfl

@[simp] theorem State.setEv_geo (a : EventUnit) : (s.setEv a).geo = s.geo := rfl
@[simp] theorem State.setEv_surf (a : EventUnit) : (s.setEv a).surf = s.surf := rfl
@[simp] theorem State.setEv_balCfg (a : EventUnit) : (s.setEv a).balCfg = s.balCfg := rfl
@[simp] theorem State.setEv_gait (a : EventUnit) : (s.setEv a).gait = s.gait := rfl
@[simp] theorem State.setEv_feet (a : EventUnit) : (s.setEv a).feet = s.feet := rfl
@[simp] theorem State.setEv_att (a : EventUnit) : (s.setEv a).att = s.att := rfl
@[simp] theorem State.setEv_bal (a : EventUnit) : (s.setEv a).bal = s.bal := rfl
@[simp] theorem State.setEv_plan (a : EventUnit) : (s.setEv a).plan = s.plan := rfl
@[simp] theorem State.setEv_legs (a : EventUnit) : (s.setEv a).legs = s.legs := rfl
@[simp] theorem State.setEv_bus (a : EventUnit) : (s.setEv a).bus = s.bus := rfl
@[simp] theorem State.setEv_sup (a : EventUnit) : (s.setEv a).sup = s.sup := rfl
@[simp] theorem State.setEv_link (a : EventUnit) : (s.setEv a).link = s.link := rfl
@[simp] theorem State.setEv_ev (a : EventUnit) : (s.setEv a).ev = a := rfl
@[simp] theorem State.setEv_pending (a : EventUnit) : (s.setEv a).pending = s.pending := rfl

@[simp] theorem State.setPending_geo (a : List Instr) : (s.setPending a).geo = s.geo := rfl
@[simp] theorem State.setPending_surf (a : List Instr) : (s.setPending a).surf = s.surf := rfl
@[simp] theorem State.setPending_balCfg (a : List Instr) : (s.setPending a).balCfg = s.balCfg := rfl
@[simp] theorem State.setPending_gait (a : List Instr) : (s.setPending a).gait = s.gait := rfl
@[simp] theorem State.setPending_feet (a : List Instr) : (s.setPending a).feet = s.feet := rfl
@[simp] theorem State.setPending_att (a : List Instr) : (s.setPending a).att = s.att := rfl
@[simp] theorem State.setPending_bal (a : List Instr) : (s.setPending a).bal = s.bal := rfl
@[simp] theorem State.setPending_plan (a : List Instr) : (s.setPending a).plan = s.plan := rfl
@[simp] theorem State.setPending_legs (a : List Instr) : (s.setPending a).legs = s.legs := rfl
@[simp] theorem State.setPending_bus (a : List Instr) : (s.setPending a).bus = s.bus := rfl
@[simp] theorem State.setPending_sup (a : List Instr) : (s.setPending a).sup = s.sup := rfl
@[simp] theorem State.setPending_link (a : List Instr) : (s.setPending a).link = s.link := rfl
@[simp] theorem State.setPending_ev (a : List Instr) : (s.setPending a).ev = s.ev := rfl
@[simp] theorem State.setPending_pending (a : List Instr) : (s.setPending a).pending = a := rfl

@[ext] theorem Quad.ext_get {α : Type} {p q : Quad α} (h : ∀ l, p.get l = q.get l) : p = q := by
  obtain ⟨a, b, c, d⟩ := p
  obtain ⟨a', b', c', d'⟩ := q
  have h1 := h .fl
  have h2 := h .fr
  have h3 := h .rl
  have h4 := h .rr
  simp only [Quad.get] at h1 h2 h3 h4
  rw [h1, h2, h3, h4]

@[simp] theorem Quad.get_set_self {α : Type} (q : Quad α) (l : Leg) (a : α) : (q.set l a).get l = a := by
  cases l <;> rfl

theorem Quad.get_set {α : Type} (q : Quad α) (l m : Leg) (a : α) :
    (q.set l a).get m = if m = l then a else q.get m := by
  cases l <;> cases m <;> rfl

theorem Quad.get_set_of_ne {α : Type} (q : Quad α) {l m : Leg} (h : m ≠ l) (a : α) :
    (q.set l a).get m = q.get m := by
  rw [Quad.get_set, if_neg h]

@[simp] theorem Quad.set_get_self {α : Type} (q : Quad α) (l : Leg) : q.set l (q.get l) = q := by
  cases l <;> rfl

@[simp] theorem Quad.get_map {α β : Type} (f : α → β) (q : Quad α) (l : Leg) : (q.map f).get l = f (q.get l) := by
  cases l <;> rfl

@[simp] theorem Quad.get_const {α : Type} (a : α) (l : Leg) : (Quad.const a).get l = a := by
  cases l <;> rfl

theorem Quad.all_iff {α : Type} (q : Quad α) (p : α → Bool) : q.all p = true ↔ ∀ l, p (q.get l) = true := by
  constructor
  · intro h l
    simp only [Quad.all, Bool.and_eq_true] at h
    cases l <;> simp [Quad.get, h]
  · intro h
    simp only [Quad.all, Bool.and_eq_true]
    exact ⟨⟨⟨h .fl, h .fr⟩, h .rl⟩, h .rr⟩

theorem Quad.any_iff {α : Type} (q : Quad α) (p : α → Bool) : q.any p = true ↔ ∃ l, p (q.get l) = true := by
  constructor
  · intro h
    simp only [Quad.any, Bool.or_eq_true] at h
    rcases h with ((h | h) | h) | h
    exacts [⟨.fl, h⟩, ⟨.fr, h⟩, ⟨.rl, h⟩, ⟨.rr, h⟩]
  · rintro ⟨l, h⟩
    simp only [Quad.any, Bool.or_eq_true]
    cases l <;> simp_all [Quad.get]

theorem mem_legsInOrder (l : Leg) : l ∈ legsInOrder := by cases l <;> decide

theorem mem_polygonOrder (l : Leg) : l ∈ polygonOrder := by cases l <;> decide

end Sys2Proof.Machine
end

