-- ==== Sys2Proof/Laws/Frame.lean ====
section
/-! SUPPORT. What the shared operations leave alone, said once for all of them: `Quiet` for everything the blocks do among
themselves, `Calm` for what is not a contact change report. -/

namespace Sys2Proof.Machine

/-- The replies of a transmit queue. -/
def repliesOf (tx : List TxItem) : List TxItem := tx.filter fun t => !t.isNotice

/-- How many notices a transmit queue holds. -/
def noticesIn (tx : List TxItem) : Nat := (tx.filter TxItem.isNotice).length

/-- `t` differs from `s` only in what the blocks may change among themselves: phases, plan, bus queue, mode, timers, raised
events, requested notices, class in force, an offered fault. -/
structure Quiet (s t : State) : Prop where
  geo : t.geo = s.geo
  surf : t.surf = s.surf
  balCfg : t.balCfg = s.balCfg
  gait : t.gait = s.gait
  att : t.att = s.att
  pending : t.pending = s.pending
  feet : ∀ l, t.feet.get l = { s.feet.get l with cls := (t.feet.get l).cls }
  line : t.bus.line = s.bus.line
  drives : t.bus.drives = s.bus.drives
  silenceLimit : t.sup.silenceLimit = s.sup.silenceLimit
  policy : t.sup.policy = s.sup.policy
  latch : t.sup.latch = s.sup.latch
  linkRate : t.sup.linkRate = s.sup.linkRate
  imuFlip : t.sup.imuFlip = s.sup.imuFlip
  received : t.link.held = s.link.held
  gap : t.link.gap = s.link.gap
  buffer : t.link.buffer = s.link.buffer
  resetTaken : t.link.resetTaken = s.link.resetTaken
  sending : t.link.sending = s.link.sending
  replies : repliesOf t.link.tx = repliesOf s.link.tx
  notices : noticesIn s.link.tx ≤ 1 → noticesIn t.link.tx ≤ 1
  time : t.ev.time = s.ev.time
  mask : t.ev.mask = s.ev.mask
  flags : ∀ e, hasEvent s.ev.pending e = true → hasEvent t.ev.pending e = true
  fault : ∀ r, s.ev.fault = some r → t.ev.fault = some r
  overflow : s.ev.overflow = true → t.ev.overflow = true
  overflowFault : (s.ev.overflow = true → s.ev.fault.isSome) → t.ev.overflow = true → t.ev.fault.isSome

/-- `Quiet`, and the support set, the held figures, the below count and the evaluation-pending flag are kept. -/
structure Calm (s t : State) : Prop where
  quiet : Quiet s t
  support : t.bal.support = s.bal.support
  figures : t.bal.held = s.bal.held
  below : t.bal.below = s.bal.below
  evalPending : t.bal.evalPending = s.bal.evalPending

theorem Quiet.refl (s : State) : Quiet s s := by
  constructor <;> intros <;> first | rfl | assumption | (solve_by_elim)

theorem Quiet.trans {s t u : State} (h : Quiet s t) (k : Quiet t u) : Quiet s u where
  geo := k.geo.trans h.geo
  surf := k.surf.trans h.surf
  balCfg := k.balCfg.trans h.balCfg
  gait := k.gait.trans h.gait
  att := k.att.trans h.att
  pending := k.pending.trans h.pending
  feet := fun l => by rw [k.feet l, h.feet l]
  line := k.line.trans h.line
  drives := k.drives.trans h.drives
  silenceLimit := k.silenceLimit.trans h.silenceLimit
  policy := k.policy.trans h.policy
  latch := k.latch.trans h.latch
  linkRate := k.linkRate.trans h.linkRate
  imuFlip := k.imuFlip.trans h.imuFlip
  received := k.received.trans h.received
  gap := k.gap.trans h.gap
  buffer := k.buffer.trans h.buffer
  resetTaken := k.resetTaken.trans h.resetTaken
  sending := k.sending.trans h.sending
  replies := k.replies.trans h.replies
  notices := fun n => k.notices (h.notices n)
  time := k.time.trans h.time
  mask := k.mask.trans h.mask
  flags := fun e he => k.flags e (h.flags e he)
  fault := fun r hr => k.fault r (h.fault r hr)
  overflow := fun ho => k.overflow (h.overflow ho)
  overflowFault := fun ho => k.overflowFault (h.overflowFault ho)

theorem Calm.refl (s : State) : Calm s s := ⟨Quiet.refl s, rfl, rfl, rfl, rfl⟩

theorem Calm.trans {s t u : State} (h : Calm s t) (k : Calm t u) : Calm s u :=
  ⟨h.quiet.trans k.quiet, k.support.trans h.support, k.figures.trans h.figures, k.below.trans h.below,
    k.evalPending.trans h.evalPending⟩

/-- The contact state of a foot is kept. -/
theorem Quiet.contact {s t : State} (h : Quiet s t) (l : Leg) : (t.feet.get l).contact = (s.feet.get l).contact := by
  rw [h.feet l]

/-! ## The bare updates -/

theorem calm_setPlan (s : State) (p : Planner) : Calm s (s.setPlan p) := Calm.refl s |>.trans <| by
  refine ⟨?_, rfl, rfl, rfl, rfl⟩
  constructor <;> intros <;> first | rfl | assumption | solve_by_elim

theorem calm_setLegs (s : State) (q : Quad LegSeq) : Calm s (s.setLegs q) := by
  refine ⟨?_, rfl, rfl, rfl, rfl⟩
  constructor <;> intros <;> first | rfl | assumption | solve_by_elim

theorem calm_setQueue (s : State) (q : List Txn) : Calm s (s.setBus { s.bus with queue := q }) := by
  refine ⟨?_, rfl, rfl, rfl, rfl⟩
  constructor <;> intros <;> first | rfl | assumption | solve_by_elim

theorem calm_setBal (s : State) (e : Option EvalInputs) (b : Bool) (q : List SwingRequest) (p : Option Preshift) :
    Calm s (s.setBal { s.bal with eval := e, braceOut := b, queue := q, preshift := p }) := by
  refine ⟨?_, rfl, rfl, rfl, rfl⟩
  constructor <;> intros <;> first | rfl | assumption | solve_by_elim

theorem calm_setSup (s : State) (m : Mode) (r : Option Nat) (l : Bool) (t : Option Nat) (p q : Bool) :
    Calm s (s.setSup
      { s.sup with
        mode := m, riseSettle := r, supportLow := l, supportLost := t, pendingSettle := p, silenceInRise := q }) := by
  refine ⟨?_, rfl, rfl, rfl, rfl⟩
  constructor <;> intros <;> first | rfl | assumption | solve_by_elim

theorem calm_setSilence (s : State) (t : Option Nat) : Calm s (s.setLink { s.link with silence := t }) := by
  refine ⟨?_, rfl, rfl, rfl, rfl⟩
  constructor <;> intros <;> first | rfl | assumption | solve_by_elim

/-! ## The Event Unit -/

theorem repliesOf_append_notice (tx : List TxItem) : repliesOf (tx ++ [.notice]) = repliesOf tx := by
  simp [repliesOf, TxItem.isNotice]

theorem noticesIn_append_notice (tx : List TxItem) (h : tx.any TxItem.isNotice = false) :
    noticesIn (tx ++ [.notice]) = 1 := by
  have : tx.filter TxItem.isNotice = [] := by
    rw [List.filter_eq_nil_iff]
    intro a ha
    have := List.any_eq_false.mp h a ha
    simpa using this
  simp only [noticesIn, List.filter_append, this]
  rfl

/-- Requesting a notice changes the transmit queue only: at most one notice joins its tail. -/
theorem requestNotice_cases (s : State) :
    (s.link.tx.any TxItem.isNotice = true ∧ requestNotice s = s) ∨
      (s.link.tx.any TxItem.isNotice = false ∧
        requestNotice s = s.setLink { s.link with tx := s.link.tx ++ [.notice] }) := by
  unfold requestNotice
  split
  · left; simp_all
  · right; simp_all

theorem calm_requestNotice (s : State) : Calm s (requestNotice s) := by
  rcases requestNotice_cases s with ⟨_, h⟩ | ⟨h0, h⟩
  · rw [h]; exact Calm.refl s
  · rw [h]
    refine ⟨?_, rfl, rfl, rfl, rfl⟩
    constructor <;> intros <;> try first | rfl | assumption | solve_by_elim
    · exact repliesOf_append_notice _
    · simp [noticesIn_append_notice _ h0]

theorem Event.index_lt (e : Event) : e.index < 12 := by cases e <;> decide

theorem hasEvent_onlyEvent (e f : Event) : hasEvent (onlyEvent e) f = decide (e = f) := by
  cases e <;> cases f <;> decide

/-- Raising an event sets its pending flag and no other. -/
theorem hasEvent_or (es : EventSet) (e f : Event) :
    hasEvent (es ||| onlyEvent e) f = (hasEvent es f || decide (e = f)) := by
  rw [← hasEvent_onlyEvent]
  simp [hasEvent]

theorem calm_setPending (s : State) (e : Event) :
    Calm s (s.setEv { s.ev with pending := s.ev.pending ||| onlyEvent e }) := by
  refine ⟨?_, rfl, rfl, rfl, rfl⟩
  constructor <;> intros <;> try first | rfl | assumption | solve_by_elim
  simp_all [hasEvent_or]

theorem calm_raise (e : Event) (s : State) : Calm s (raise e s) := by
  unfold raise
  split
  · exact Calm.refl s
  · have h := calm_setPending s e
    dsimp only
    split
    · exact h
    · exact h.trans (calm_requestNotice _)

/-- What a raised event leaves: its flag set. -/
theorem raise_pending (e : Event) (s : State) : hasEvent (raise e s).ev.pending e = true := by
  unfold raise
  split
  · assumption
  · dsimp only
    split
    · simp [hasEvent_or]
    · have h := (calm_requestNotice (s.setEv { s.ev with pending := s.ev.pending ||| onlyEvent e })).quiet.flags e
      exact h (by simp [hasEvent_or])

theorem calm_bump (k : Counter) (s : State) : Calm s (bump k s) := by
  refine ⟨?_, rfl, rfl, rfl, rfl⟩
  constructor <;> intros <;> first | rfl | assumption | solve_by_elim

theorem calm_offerFault (k : FaultKind) (l : Option Leg) (s : State) : Calm s (offerFault k l s) := by
  unfold offerFault
  split
  · rename_i h0
    refine ⟨?_, rfl, rfl, rfl, rfl⟩
    constructor <;> intros <;> try first | rfl | assumption | solve_by_elim
    simp_all
  · rename_i r h0
    refine ⟨?_, rfl, rfl, rfl, rfl⟩
    constructor <;> intros <;> try first | rfl | assumption | solve_by_elim
    simp_all

/-! ## Setpoints, phases and modes -/

theorem calm_modLeg (l : Leg) (f : LegSeq → LegSeq) (s : State) : Calm s (modLeg l f s) := calm_setLegs s _

/-- Giving a foot another class in force changes nothing else of it. -/
theorem calm_setClass (l : Leg) (c : SurfaceClass) (s : State) : Calm s (modFoot l (fun f => { f with cls := c }) s) := by
  refine ⟨?_, rfl, rfl, rfl, rfl⟩
  constructor <;> intros <;> try first | rfl | assumption | solve_by_elim
  rename_i m
  simp only [modFoot, State.setFeet_feet, Quad.get_set]
  split
  · subst_vars; rfl
  · rfl

theorem calm_forLegs {f : Leg → State → State} (hf : ∀ l s, Calm s (f l s)) (ls : List Leg) (s : State) :
    Calm s (forLegs f ls s) := by
  induction ls generalizing s with
  | nil => exact Calm.refl s
  | cons l rest ih => exact (hf l s).trans (ih (f l s))

theorem calm_handover (l : Leg) (v : Vec3) (sp : Nat) (h : Bool) (s : State) : Calm s (handover l v sp h s) := by
  unfold handover
  split
  · exact Calm.refl s
  · split <;> exact calm_setQueue s _

theorem calm_sendSetpoint (l : Leg) (v : Vec3) (sp : Nat) (s : State) : Calm s (sendSetpoint l v sp s) :=
  (calm_modLeg l _ s).trans (calm_handover ..)

theorem calm_sendHold (l : Leg) (s : State) : Calm s (sendHold l s) := (calm_modLeg l _ s).trans (calm_handover ..)

theorem calm_resendSetpoint (l : Leg) (sp : Nat) (s : State) : Calm s (resendSetpoint l sp s) :=
  (calm_modLeg l _ s).trans (calm_handover ..)

theorem calm_holdLegs (ls : List Leg) (s : State) : Calm s (holdLegs ls s) := calm_forLegs calm_sendHold ls s

theorem calm_sendPose (p : Vec3) (s : State) : Calm s (sendPose p s) := calm_forLegs (fun _ _ => calm_sendSetpoint ..) _ s

theorem calm_restartSilence (s : State) : Calm s (restartSilence s) := by
  unfold restartSilence
  split
  · exact calm_setSilence s _
  · exact Calm.refl s

theorem calm_stopSilence (s : State) : Calm s (stopSilence s) := calm_setSilence s _

theorem calm_changeMode (m : Mode) (s : State) : Calm s (changeMode m s) := by
  unfold changeMode
  have h : Calm s (raise .modeChange (s.setSup
      { s.sup with mode := m, pendingSettle := s.sup.pendingSettle && decide (m = .standing) })) :=
    (calm_setSup s m _ _ _ _ _).trans (calm_raise ..)
  dsimp only
  split
  · exact h.trans (calm_restartSilence _)
  · exact h.trans (calm_stopSilence _)

theorem calm_startSupportLost (s : State) : Calm s (startSupportLost s) := by
  unfold startSupportLost
  split
  · exact calm_setSup s _ _ _ _ _ _
  · exact Calm.refl s

theorem calm_setAllPhases (p : Phase) (s : State) : Calm s (setAllPhases p s) := calm_setLegs s _

theorem calm_enterSettling (s : State) : Calm s (enterSettling s) :=
  (((calm_changeMode .settling s).trans (calm_setAllPhases .posture _)).trans (calm_sendPose _ _)).trans
    (calm_setSup _ _ _ _ _ _ _)

theorem calm_settleTest (s : State) : Calm s (settleTest s) := by
  unfold settleTest
  split
  · exact (calm_setSup s _ _ _ _ _ _).trans (calm_enterSettling _)
  · exact Calm.refl s

theorem calm_requestBrace (s : State) : Calm s (requestBrace s) := calm_setBal s _ _ _ _

/-! ## The Step Planner -/

theorem calm_setPlanState (p : PlanState) (s : State) : Calm s (setPlanState p s) := calm_setPlan s _

theorem calm_modWindow (id : Nat) (f : WindowRecord → WindowRecord) (s : State) : Calm s (modWindow id f s) :=
  calm_setPlan s _

theorem calm_markRecord (id : Nat) (s : State) : Calm s (markRecord id s) := calm_modWindow id _ s

theorem calm_startShift (id : Nat) (d : Vec3) (s : State) : Calm s (startShift id d s) := by
  unfold startShift
  dsimp only
  refine Calm.trans ?_ (calm_setPlan _ _)
  refine Calm.trans ?_ (calm_forLegs (fun _ _ => calm_sendSetpoint ..) _ _)
  split
  · exact calm_markRecord id s
  · exact Calm.refl s

theorem calm_issueHead (r : PlanRecord) (rest : List PlanRecord) (s : State) : Calm s (issueHead r rest s) := by
  unfold issueHead
  dsimp only
  split
  · exact (calm_setPlan s _).trans (calm_startShift ..)
  · exact (calm_setPlan s _).trans (calm_setBal _ _ _ _ _)
  · exact (calm_setPlan s _).trans (calm_setBal _ _ _ _ _)

theorem calm_issueFrom (rs : List PlanRecord) (s : State) : Calm s (issueFrom rs s) := by
  induction rs generalizing s with
  | nil => exact Calm.refl s
  | cons r rest ih =>
    unfold issueFrom
    split
    · exact (calm_issueHead r rest s).trans (ih _)
    · exact Calm.refl s

theorem calm_issue (s : State) : Calm s (issue s) := calm_issueFrom _ s

theorem calm_phaseChanged (s : State) : Calm s (phaseChanged s) := (calm_issue s).trans (calm_settleTest _)

theorem calm_idleIfEmpty (s : State) : Calm s (idleIfEmpty s) := by
  unfold idleIfEmpty
  split
  · exact ((calm_setPlanState .idle s).trans (calm_raise ..)).trans (calm_settleTest _)
  · exact Calm.refl s

theorem calm_suspendIfEmpty (s : State) : Calm s (suspendIfEmpty s) := by
  unfold suspendIfEmpty
  split
  · exact ((calm_setPlanState .suspended s).trans (calm_raise ..)).trans (calm_settleTest _)
  · exact Calm.refl s

theorem calm_stopPreshift (ids : List Nat) (s : State) : Calm s (stopPreshift ids s) := by
  unfold stopPreshift
  split
  · exact Calm.refl s
  · split
    · exact (calm_setBal s _ _ _ _).trans (calm_holdLegs _ _)
    · exact Calm.refl s

theorem calm_removeRequests (ids : List Nat) (s : State) : Calm s (removeRequests ids s) := calm_setBal s _ _ _ _

theorem calm_withdrawWaiting (s : State) : Calm s (withdrawWaiting s) :=
  ((calm_removeRequests _ s).trans (calm_stopPreshift _ _)).trans (calm_setPlan _ _)

theorem calm_drain (s : State) : Calm s (drain s) := by
  unfold drain
  split
  · exact ((calm_setPlanState .draining s).trans (calm_withdrawWaiting _)).trans (calm_suspendIfEmpty _)
  · exact Calm.refl s

theorem calm_pushLog (e : LogEntry) (s : State) : Calm s (pushLog e s) := by
  unfold pushLog
  split
  · exact (calm_setPlan s _).trans (calm_bump ..)
  · exact calm_setPlan s _

/-- Raising, where a condition asks for it. -/
theorem calm_raiseIf (b : Bool) (e : Event) (s : State) : Calm s (if b then raise e s else s) := by
  cases b
  · exact Calm.refl s
  · exact calm_raise e s

theorem calm_finishRecord (w : WindowRecord) (st : Status) (s : State) : Calm s (finishRecord w st s) := by
  unfold finishRecord
  dsimp only
  have h := ((calm_setPlan s
    { s.plan with
      window := s.plan.window.filter fun v => decide (v.body.id ≠ w.body.id)
      shiftTimer := if w.body.kind = .shift then none else s.plan.shiftTimer }).trans
    (calm_pushLog (logEntryOf w (finalStatus w st) s.ev.time) _)).trans (calm_raiseIf w.body.notify .stepDone _)
  rcases completionCounter w.body.kind (finalStatus w st) with _ | k
  · exact h
  · exact h.trans (calm_bump k _)

theorem calm_completionActs (st : Status) (b : Bool) (s : State) : Calm s (completionActs st b s) := by
  unfold completionActs
  split
  · split
    · exact calm_drain s
    · exact (calm_issue s).trans (calm_idleIfEmpty _)
  · split
    · exact calm_suspendIfEmpty s
    · exact Calm.refl s

theorem calm_completeRecord (id : Nat) (st : Status) (s : State) : Calm s (completeRecord id st s) := by
  unfold completeRecord
  split
  · exact Calm.refl s
  · exact (calm_finishRecord ..).trans (calm_completionActs ..)

theorem calm_reportOutcome (l : Leg) (o : Outcome) (v : Option Vec3) (s : State) : Calm s (reportOutcome l o v s) := by
  unfold reportOutcome
  split
  · exact Calm.refl s
  · split
    · exact Calm.refl s
    · split
      · dsimp only
        split
        · exact (calm_modWindow ..).trans (calm_completeRecord ..)
        · exact calm_modWindow ..
      · exact Calm.refl s

/-! ## The Leg Sequencers -/

theorem calm_startPhase (l : Leg) (p : Phase) (t : Nat) (s : State) : Calm s (startPhase l p t s) := calm_modLeg ..

theorem calm_markIfLimit (l : Leg) (s : State) : Calm s (markIfLimit l s) := by
  unfold markIfLimit
  dsimp only
  split
  · split
    · exact calm_modLeg ..
    · exact (calm_modLeg ..).trans (calm_markRecord ..)
  · exact Calm.refl s

theorem calm_landCore (l : Leg) (s : State) : Calm s (landCore l s) := by
  unfold landCore
  dsimp only
  split
  · exact Calm.refl s
  · exact (((calm_modLeg ..).trans (calm_sendSetpoint ..)).trans (calm_reportOutcome ..)).trans (calm_modLeg ..)
  · exact calm_modLeg ..
  · exact ((calm_modLeg ..).trans (calm_sendSetpoint ..)).trans (calm_modLeg ..)

theorem calm_landIfLoaded (l : Leg) (s : State) : Calm s (landIfLoaded l s) := by
  unfold landIfLoaded
  split
  · exact calm_landCore l s
  · exact Calm.refl s

theorem calm_land (l : Leg) (s : State) : Calm s (land l s) := (calm_landCore l s).trans (calm_phaseChanged _)

theorem calm_liftEnd (l : Leg) (s : State) : Calm s (liftEnd l s) := by
  unfold liftEnd
  split
  · exact Calm.refl s
  · exact (((calm_markIfLimit l s).trans (calm_startPhase ..)).trans (calm_sendSetpoint ..)).trans (calm_phaseChanged _)

theorem calm_swingEnd (l : Leg) (s : State) : Calm s (swingEnd l s) := by
  unfold swingEnd
  split
  · exact Calm.refl s
  · exact (((((calm_markIfLimit l s).trans (calm_setClass ..)).trans (calm_startPhase ..)).trans
      (calm_sendSetpoint ..)).trans (calm_landIfLoaded l _)).trans (calm_phaseChanged _)

theorem calm_snagTo (l : Leg) (v : Vec3) (s : State) : Calm s (snagTo l v s) :=
  (((((((calm_reportOutcome l .snagged none s).trans (calm_raise ..)).trans (calm_bump ..)).trans (calm_modLeg ..)).trans
    (calm_startPhase ..)).trans (calm_sendSetpoint ..)).trans (calm_landIfLoaded l _)).trans (calm_phaseChanged _)

theorem calm_snagInLift (l : Leg) (s : State) : Calm s (snagInLift l s) := by
  unfold snagInLift
  split
  · exact Calm.refl s
  · exact calm_snagTo ..

theorem calm_snagInSwing (l : Leg) (s : State) : Calm s (snagInSwing l s) := by
  unfold snagInSwing
  split
  · exact Calm.refl s
  · exact calm_snagTo ..

theorem calm_missFoothold (l : Leg) (s : State) : Calm s (missFoothold l s) := by
  unfold missFoothold
  split
  · exact Calm.refl s
  · exact ((((((calm_reportOutcome l .missed none s).trans (calm_raise ..)).trans (calm_modLeg ..)).trans
      (calm_setClass ..)).trans (calm_startPhase ..)).trans (calm_sendSetpoint ..)).trans (calm_phaseChanged _)

theorem calm_retreatReach (l : Leg) (s : State) : Calm s (retreatReach l s) := by
  unfold retreatReach
  split
  · exact Calm.refl s
  · exact (((calm_startPhase l .reach s.gait.reachTimeout s).trans (calm_sendSetpoint ..)).trans
      (calm_landIfLoaded l _)).trans (calm_phaseChanged _)

theorem calm_failLeg (l : Leg) (s : State) : Calm s (failLeg l s) := by
  unfold failLeg
  dsimp only
  have h := (((calm_sendHold l s).trans (calm_modLeg l
    (fun q => { q with phase := .reach, motion := some .held, timer := none }) _)).trans
      (calm_raise .missed _)).trans (calm_requestBrace _)
  split
  · exact (h.trans (calm_landIfLoaded l _)).trans (calm_phaseChanged _)
  · exact h

theorem calm_descend (l : Leg) (s : State) : Calm s (descend l s) := by
  unfold descend
  dsimp only
  split
  · have h := fun z => ((calm_modLeg l (fun p => { p with motion := some .descent }) s).trans
      (calm_startPhase l .reach s.gait.reachTimeout _)).trans (calm_sendSetpoint l (atLevel (bodyPos s l) z) s.gait.reachSpeed _)
    split
    · exact (h _).trans (calm_landIfLoaded l _)
    · exact h _
  · exact Calm.refl s

theorem calm_timerRunsOut (l : Leg) (s : State) : Calm s (timerRunsOut l s) := by
  unfold timerRunsOut
  dsimp only
  have h := calm_modLeg l (fun p => { p with timer := none }) s
  split
  · exact h.trans (calm_snagInLift ..)
  · exact h.trans (calm_snagInSwing ..)
  · exact h.trans (calm_missFoothold ..)
  · exact h.trans (calm_failLeg ..)
  · exact h.trans (calm_failLeg ..)
  · exact h.trans (calm_failLeg ..)
  · exact h

theorem calm_seqContact (l : Leg) (c : Contact) (s : State) : Calm s (seqContact l c s) := by
  unfold seqContact
  dsimp only
  split
  · exact Calm.refl s
  · split
    · split
      · exact calm_liftEnd l s
      · exact Calm.refl s
    · split
      · exact calm_land l s
      · exact Calm.refl s
    all_goals exact Calm.refl s

theorem calm_takeDerating (l : Leg) (st : DriveState) (s : State) : Calm s (takeDerating l st s) := by
  unfold takeDerating
  dsimp only
  have h := calm_modLeg l (fun p => { p with derating := decide (st = .hot) }) s
  split
  · exact h
  · split
    · exact h.trans (calm_resendSetpoint ..)
    · exact h

theorem calm_reachedInReach (l : Leg) (s : State) : Calm s (reachedInReach l s) := by
  unfold reachedInReach
  dsimp only
  split
  · exact Calm.refl s
  · split
    · exact (calm_markIfLimit l s).trans (calm_land ..)
    · exact (calm_markIfLimit l s).trans (calm_missFoothold ..)
  · split
    · exact calm_land l s
    · exact Calm.refl s
  · split
    · exact calm_land l s
    · exact calm_failLeg l s

theorem calm_replyActs (l : Leg) (b : Bool) (s : State) : Calm s (replyActs l b s) := by
  unfold replyActs
  dsimp only
  split
  · exact Calm.refl s
  · split
    · split
      · exact calm_liftEnd l s
      · exact Calm.refl s
    · split
      · split
        · exact calm_swingEnd l s
        · split
          · exact calm_retreatReach l s
          · exact Calm.refl s
      · exact Calm.refl s
    · split
      · exact calm_reachedInReach l s
      · exact Calm.refl s
    all_goals exact Calm.refl s

theorem calm_seqReply (l : Leg) (v : Vec3) (st : DriveState) (b : Bool) (s : State) : Calm s (seqReply l v st b s) :=
  ((calm_modLeg l _ s).trans (calm_takeDerating ..)).trans (calm_replyActs ..)

/-! ## The Mode Supervisor -/

theorem calm_cancelRecords (ws : List WindowRecord) (s : State) : Calm s (cancelRecords ws s) := by
  induction ws generalizing s with
  | nil => exact Calm.refl s
  | cons w rest ih =>
    unfold cancelRecords
    split
    · exact ih s
    · exact (calm_finishRecord ..).trans (ih _)

theorem calm_planSafeHold (s : State) : Calm s (planSafeHold s) := by
  unfold planSafeHold
  split
  · exact (((calm_cancelRecords _ s).trans (calm_withdrawWaiting _)).trans (calm_setPlanState ..)).trans (calm_raise ..)
  · exact (((calm_cancelRecords _ s).trans (calm_withdrawWaiting _)).trans (calm_setPlanState ..)).trans (calm_raise ..)
  · exact (calm_setPlanState .suspended s).trans (calm_raise ..)
  · exact Calm.refl s
  · exact Calm.refl s

theorem calm_enterSafeHold (s : State) : Calm s (enterSafeHold s) :=
  ((((calm_changeMode .safeHold s).trans
    (calm_forLegs (fun _ _ => (calm_sendHold ..).trans (calm_modLeg ..)) legsInOrder _)).trans
    (calm_setSup _ _ _ _ _ _ _)).trans (calm_setBal _ _ _ _ _)).trans (calm_planSafeHold _)

theorem calm_reportFault (k : FaultKind) (l : Option Leg) (s : State) : Calm s (reportFault k l s) := by
  unfold reportFault
  split
  · split
    · exact calm_offerFault k l s
    · exact (calm_offerFault k l s).trans (calm_enterSafeHold _)
  · exact Calm.refl s

theorem calm_setPendingSettle (s : State) : Calm s (setPendingSettle s) := by
  unfold setPendingSettle
  split
  · exact (calm_setSup _ _ _ _ _ _ _).trans (calm_settleTest _)
  · exact Calm.refl s

theorem calm_applySilenceInRise (s : State) : Calm s (applySilenceInRise s) := by
  unfold applySilenceInRise
  split
  · exact ((calm_setSup s s.sup.mode s.sup.riseSettle s.sup.supportLow s.sup.supportLost s.sup.pendingSettle
      false).trans (calm_drain _)).trans (calm_setPendingSettle _)
  · exact Calm.refl s

theorem calm_riseTest (s : State) : Calm s (riseTest s) := by
  unfold riseTest
  split
  · exact (((((calm_setSup s _ _ _ _ _ _).trans (calm_changeMode ..)).trans (calm_setAllPhases ..)).trans
      (calm_phaseChanged _)).trans (calm_startSupportLost _)).trans (calm_applySilenceInRise _)
  · exact Calm.refl s

theorem calm_settleCompleteTest (s : State) : Calm s (settleCompleteTest s) := by
  unfold settleCompleteTest
  split
  · exact ((((calm_setSup s _ _ _ _ _ _).trans (calm_changeMode ..)).trans (calm_setLegs _ _)).trans
      (calm_setPlanState ..)).trans (calm_setQueue _ _)
  · exact Calm.refl s

/-! ## Contact change reports -/

theorem quiet_setBal (s : State) (b : Balance) : Quiet s (s.setBal b) := by
  constructor <;> intros <;> first | rfl | assumption | solve_by_elim

theorem quiet_trigger (s : State) : Quiet s (trigger s) := by
  unfold trigger
  split <;> exact quiet_setBal s _

theorem calm_supportFallen (s : State) : Calm s (supportFallen s) := by
  unfold supportFallen
  have k := calm_setSup s s.sup.mode s.sup.riseSettle true s.sup.supportLost s.sup.pendingSettle s.sup.silenceInRise
  dsimp only
  split
  · exact k.trans (calm_startSupportLost _)
  · exact k

theorem calm_supportRestored (s : State) : Calm s (supportRestored s) := calm_setSup s _ _ _ _ _ _

theorem quiet_changeSupport (l : Leg) (b : Bool) (s : State) : Quiet s (changeSupport l b s) := by
  unfold changeSupport
  dsimp only
  have h := (quiet_setBal s { s.bal with support := s.bal.support.set l b }).trans (quiet_trigger _)
  split
  · exact h.trans (calm_supportFallen _).quiet
  · split
    · exact h.trans (calm_supportRestored _).quiet
    · exact h

/-- The support set's share of a contact change report. -/
theorem quiet_supportShare (l : Leg) (c : Contact) (s : State) :
    Quiet s (if c = .loaded then if s.bal.support.get l then s else changeSupport l true s
      else if s.bal.support.get l then changeSupport l false s else s) := by
  split <;> split <;> first | exact Quiet.refl s | exact quiet_changeSupport ..

theorem quiet_balanceReport (l : Leg) (c : Contact) (s : State) : Quiet s (balanceReport l c s) := by
  have h := quiet_supportShare l c s
  unfold balanceReport
  dsimp only
  generalize (if c = .loaded then if s.bal.support.get l then s else changeSupport l true s
      else if s.bal.support.get l then changeSupport l false s else s) = t at h ⊢
  split
  · exact (h.trans (calm_requestBrace _).quiet).trans (quiet_setBal _ _)
  · exact h

theorem quiet_contactReport (l : Leg) (c : Contact) (s : State) : Quiet s (contactReport l c s) :=
  (quiet_balanceReport l c s).trans
    (((calm_seqContact l c _).trans (calm_issue _)).trans (calm_riseTest _)).quiet

end Sys2Proof.Machine
end

