-- ==== Sys2Proof/Laws/Commands.lean ====
section
/-! SUPPORT. What the operations of the command families leave alone, in the terms of Laws/Frame.lean, and what taking a
request can do. -/

namespace Sys2Proof.Machine

/-! ## The Balance Engine -/

theorem calm_dropRequest (s : State) : Calm s (dropRequest s) := calm_setBal s _ _ _ _

theorem calm_markIf (b : Bool) (id : Nat) (s : State) : Calm s (if b then markRecord id s else s) := by
  cases b
  · exact Calm.refl s
  · exact calm_markRecord id s

theorem calm_grantLeg (r : PlanRecord) (l : Leg) (s : State) : Calm s (grantLeg r l s) := by
  unfold grantLeg
  split
  · exact Calm.refl s
  · dsimp only
    exact ((((calm_modLeg ..).trans (calm_markIf ..)).trans (calm_startPhase ..)).trans (calm_sendSetpoint ..)).trans
      (calm_phaseChanged _)

theorem calm_grant (q : SwingRequest) (s : State) : Calm s (grant q s) := by
  unfold grant
  have h := (calm_dropRequest s).trans (calm_modWindow q.id (fun w => { w with cond := .granted }) _)
  dsimp only
  split
  · exact h
  · exact h.trans (calm_forLegs (fun _ _ => calm_grantLeg ..) _ _)

theorem calm_orderPreshift (q : SwingRequest) (o : Int × Int) (s : State) : Calm s (orderPreshift q o s) := by
  unfold orderPreshift
  dsimp only
  exact ((((calm_setBal s _ _ _ _).trans (calm_modWindow ..)).trans (calm_bump ..)).trans
    (calm_forLegs (fun _ _ => calm_sendSetpoint ..) _ _)).trans (calm_setBal _ _ _ _ _)

theorem calm_failsOnMargin (e : EvalInputs) (set : List Leg) (q : SwingRequest) (s : State) :
    Calm s (failsOnMargin e set q s) := by
  unfold failsOnMargin
  dsimp only
  split
  · exact calm_orderPreshift ..
  · exact (calm_dropRequest s).trans (calm_completeRecord ..)

theorem calm_arbiter (e : EvalInputs) (rs : List SwingRequest) (g : List Leg) (s : State) : Calm s (arbiter e rs g s) := by
  induction rs generalizing g s with
  | nil => exact Calm.refl s
  | cons r rest ih =>
    unfold arbiter
    split
    · exact Calm.refl s
    · split
      · split
        · exact Calm.refl s
        · split
          · exact (calm_grant _ s).trans (ih _ _)
          · exact calm_failsOnMargin ..
      · exact Calm.refl s

theorem calm_considerGrants (e : EvalInputs) (s : State) : Calm s (considerGrants e s) := by
  unfold considerGrants
  split
  · exact calm_arbiter ..
  · exact Calm.refl s

theorem quiet_braceTest (b : BalanceCfg) (f : Figures) (s : State) : Quiet s (braceTest b f s) := by
  unfold braceTest setBelow requestBrace
  split
  · split
    · split
      · exact (quiet_setBal s _).trans (quiet_setBal _ _)
      · exact quiet_setBal s _
    · exact quiet_setBal s _
  · exact quiet_setBal s _

theorem quiet_nextEvaluation (s : State) : Quiet s (nextEvaluation s) := by
  unfold nextEvaluation
  split
  · exact (quiet_setBal s _).trans (quiet_setBal _ _)
  · exact Quiet.refl s

theorem quiet_evaluationComplete (s : State) : Quiet s (evaluationComplete s) := by
  unfold evaluationComplete
  split
  · exact Quiet.refl s
  · exact (((quiet_setBal s _).trans (quiet_braceTest ..)).trans (calm_considerGrants ..).quiet).trans
      (quiet_nextEvaluation _)

theorem calm_preshiftTimeout (s : State) : Calm s (preshiftTimeout s) := by
  unfold preshiftTimeout
  split
  · exact Calm.refl s
  · split
    · exact (calm_holdLegs _ s).trans (calm_setBal _ _ _ _ _)
    · exact Calm.refl s

/-! ## The Step Planner -/

theorem calm_braceRecords (ws : List WindowRecord) (s : State) : Calm s (braceRecords ws s) := by
  induction ws generalizing s with
  | nil => exact Calm.refl s
  | cons w rest ih =>
    unfold braceRecords
    refine Calm.trans ?_ (ih _)
    split
    · exact Calm.refl s
    · exact (calm_finishRecord ..).trans (calm_forLegs calm_descend _ _)
    · exact (calm_finishRecord ..).trans (calm_holdLegs _ _)

theorem calm_takeBrace (s : State) : Calm s (takeBrace s) :=
  (((((calm_setPlanState .braced s).trans (calm_braceRecords _ _)).trans (calm_withdrawWaiting _)).trans
    (calm_raise ..)).trans (calm_bump ..)).trans (calm_phaseChanged _)

theorem calm_braceTaken (s : State) : Calm s (braceTaken s) := by
  unfold braceTaken
  split
  · have h := calm_setBal s s.bal.eval false s.bal.queue s.bal.preshift
    dsimp only
    split
    · exact h.trans (calm_takeBrace _)
    · exact h.trans (calm_issue _)
  · exact Calm.refl s

theorem calm_shiftTimeout (s : State) : Calm s (shiftTimeout s) := by
  unfold shiftTimeout
  split
  · dsimp only
    have h := calm_setPlan s { s.plan with shiftTimer := none }
    split
    · exact h
    · exact (h.trans (calm_holdLegs _ _)).trans (calm_completeRecord ..)
  · exact Calm.refl s

theorem calm_activate (s : State) : Calm s (activate s) :=
  ((calm_setPlanState .active s).trans (calm_issue _)).trans (calm_idleIfEmpty _)

theorem calm_appendRecords (rs : List PlanRecord) (s : State) : Calm s (appendRecords rs s) := by
  unfold appendRecords
  dsimp only
  split
  · exact (calm_setPlan s _).trans (calm_issue _)
  · exact calm_setPlan s _

/-! ## The Leg Sequencers and the Mode Supervisor -/

theorem calm_phaseTimerExpiry (l : Leg) (s : State) : Calm s (phaseTimerExpiry l s) := by
  unfold phaseTimerExpiry
  split
  · exact calm_timerRunsOut l s
  · exact Calm.refl s

theorem calm_riseSettleTimeout (s : State) : Calm s (riseSettleTimeout s) := by
  unfold riseSettleTimeout
  split
  · dsimp only
    have h := calm_setSup s s.sup.mode none s.sup.supportLow s.sup.supportLost s.sup.pendingSettle s.sup.silenceInRise
    split
    · exact h.trans (calm_reportFault ..)
    · exact h.trans (calm_reportFault ..)
    all_goals exact h
  · exact Calm.refl s

theorem calm_supportLostExpiry (s : State) : Calm s (supportLostExpiry s) := by
  unfold supportLostExpiry
  split
  · exact (calm_setSup s s.sup.mode s.sup.riseSettle s.sup.supportLow none s.sup.pendingSettle
      s.sup.silenceInRise).trans (calm_reportFault ..)
  · exact Calm.refl s

theorem calm_silenceActs (s : State) : Calm s (silenceActs s) := by
  unfold silenceActs
  split
  · exact (calm_drain s).trans (calm_setPendingSettle _)
  · exact calm_setSup s _ _ _ _ _ _
  all_goals exact Calm.refl s

theorem calm_silenceExpiry (s : State) : Calm s (silenceExpiry s) := by
  unfold silenceExpiry
  split
  · exact ((calm_stopSilence s).trans (calm_raise ..)).trans (calm_silenceActs _)
  · exact Calm.refl s

/-! ## Timers -/

/-- A timer has run out exactly where it runs with nothing left. -/
theorem ranOut_iff (t : Option Nat) : ranOut t = true ↔ t = some 0 := decide_eq_true_iff

@[simp] theorem ranOut_none : ranOut none = false := rfl
@[simp] theorem ranOut_some (n : Nat) : ranOut (some n) = decide (n = 0) := by cases n <;> rfl

theorem calm_clearHold (s : State) : Calm s (clearHold s) :=
  (((calm_changeMode .standing s).trans (calm_setAllPhases ..)).trans (calm_phaseChanged _)).trans
    (calm_startSupportLost _)

/-- The class in force of every foot replaced, and nothing else. -/
theorem calm_setClasses (c : SurfaceClass) (s : State) : Calm s (setClasses c s) := by
  refine ⟨?_, rfl, rfl, rfl, rfl⟩
  constructor <;> intros <;> try first | rfl | assumption | solve_by_elim
  simp [setClasses]

theorem calm_standUp (c : SurfaceClass) (s : State) : Calm s (standUp c s) :=
  (((((calm_setClasses c s).trans (calm_changeMode ..)).trans (calm_setLegs _ _)).trans (calm_sendPose _ _))).trans
    (calm_setSup _ _ _ _ _ _ _)

/-! ## The Drive Bus Controller -/

theorem calm_preshiftTest (s : State) : Calm s (preshiftTest s) := by
  unfold preshiftTest
  split
  · exact Calm.refl s
  · split
    · exact calm_setBal s _ _ _ _
    · exact Calm.refl s

theorem calm_shiftTest (s : State) : Calm s (shiftTest s) := by
  unfold shiftTest
  split
  · exact Calm.refl s
  · split
    · dsimp only
      exact ((calm_setLegs s _).trans (calm_markIf ..)).trans (calm_completeRecord ..)
    · exact Calm.refl s

theorem calm_driveStateTest (l : Leg) (b : Option LastReply) (d : DriveState) (s : State) :
    Calm s (driveStateTest l b d s) := by
  unfold driveStateTest
  rcases b with _ | r <;> dsimp only <;> split
  · exact (calm_raise ..).trans (calm_reportFault ..)
  · exact Calm.refl s
  · exact (calm_raise ..).trans (calm_reportFault ..)
  · exact Calm.refl s

theorem calm_resend (t : Txn) (s : State) : Calm s (resend t s) := by
  unfold resend
  split
  · exact calm_setQueue s _
  · exact Calm.refl s

/-! ## Taking a request -/

/-- What `serve` can do: nothing, or take the head frame of the receive buffer and queue its reply. -/
theorem serve_cases (wanted : Frame → Bool) (carryOut : Frame → State → Answer) (s : State) :
    serve wanted carryOut s = s ∨
      ∃ f rest, s.link.buffer = f :: rest ∧ mayTake s = true ∧ wanted f = true ∧
        serve wanted carryOut s = queueReply f (carryOut f (s.setLink { s.link with buffer := rest })) := by
  unfold serve
  split
  · exact .inl rfl
  · rename_i f rest h
    split
    · rename_i hc
      exact .inr ⟨f, rest, h, hc.1, hc.2, rfl⟩
    · exact .inl rfl

/-- Taking a request whose head frame is the wanted one. -/
theorem serve_eq {wanted : Frame → Bool} {carryOut : Frame → State → Answer} {s : State} {f : Frame} {rest : List Frame}
    (hb : s.link.buffer = f :: rest) (hm : mayTake s = true) (hw : wanted f = true) :
    serve wanted carryOut s = queueReply f (carryOut f (s.setLink { s.link with buffer := rest })) := by
  unfold serve
  rw [hb]
  simp [hm, hw]

/-- Queueing a reply changes the transmit queue and the reset-taken flag of what the request left, and nothing else. -/
theorem queueReply_eq (f : Frame) (a : Answer) :
    queueReply f a = a.state.setLink
      { a.state.link with
        tx := a.state.link.tx ++ [.reply ⟨f.kind ||| 0x80#8, f.tag, put8 a.result.code ++ a.data⟩ a.resetFull]
        resetTaken := a.state.link.resetTaken || a.resetFull } := rfl

end Sys2Proof.Machine
end

