-- ==== Sys2Proof/WellFormed.lean ====
section
/-! DEFINITION. Which commands can come from outside at all. The types already hold most operands in range; what remains is
that two rising edges of one line are not the same moment, and that a drive reply brings at least one byte. `exec` has a
meaning for every command, well formed or not. -/

namespace Sys2Proof

/-- A command whose operands an event can have. -/
def Instr.wf : Instr → Bool
  | .powerOnReset _ _ _ => true
  | .timeBaseTick => true
  | .linkByte _ _ => true
  | .gapTimerExpiry => true
  | .requestUnknownKind => true
  | .ping => true
  | .status => true
  | .setGeometry => true
  | .setSurface => true
  | .setBalance => true
  | .setGait => true
  | .setSupervision => true
  | .stand => true
  | .sit => true
  | .clearHold => true
  | .resetFull => true
  | .resetMotion => true
  | .planAppend => true
  | .planStart => true
  | .planSuspend => true
  | .planResume => true
  | .planCancel => true
  | .planFlush => true
  | .planReport => true
  | .eventMask => true
  | .eventAck => true
  | .faultRead => true
  | .faultClear => true
  | .countersRead => true
  | .countersReadClear => true
  | .frameSendStart => true
  | .frameSendEnd => true
  | .silenceExpiry => true
  | .loadSample _ period => decide (0 < period)
  | .loadStale _ => true
  | .slipPulse _ => true
  | .attitudeReadStart => true
  | .attitudeReadDone _ _ _ _ => true
  | .attitudeReadTimeout => true
  | .attitudeStaleExpiry => true
  | .attitudeLost => true
  | .evaluationComplete => true
  | .braceTaken => true
  | .preshiftTimeout => true
  | .shiftTimeout => true
  | .phaseTimerExpiry _ => true
  | .driveTransactionSend => true
  | .driveRequestSent => true
  | .driveReply bytes => !bytes.isEmpty
  | .driveReplyTimeout => true
  | .guardEnd => true
  | .pollTimerExpiry _ => true
  | .riseSettleTimeout => true
  | .supportLost => true
  | .loadFallingEdge _ _ => true

end Sys2Proof
end

