-- ==== Sys2Proof/Tests/Slice0.lean ====
section
/-! SUPPORT. Tests: ill-formed commands, the worked cases of the manual, one step of each kind of command, and for every
statement with hypotheses a state and operands that meet them. Expected values are the manual's own or worked out from its
tables; each test names its place. -/

namespace Sys2Proof.Tests

set_option Elab.async false

open Sys2Proof Sys2Proof.Machine

/-! ## Helpers -/

/-- The state after a command. -/
def after (c : Instr) (s : State) : State :=
  match exec c s with
  | .next t => t
  | .fault _ => s
  | .refused _ => s

/-- A request frame with TAG 7. -/
def request (kind : Byte) (payload : List Byte) : Frame := ⟨kind, 7#8, payload⟩

/-- A state with one request in the receive buffer. -/
def asked (f : Frame) (s : State) : State := s.setLink { s.link with buffer := [f] }

/-- A state in a mode. -/
def inMode (m : Mode) (s : State) : State := s.setSup { s.sup with mode := m }

/-- The result code of the reply queued last. -/
def lastResult (s : State) : Option Byte :=
  match s.link.tx.getLast? with
  | some (.reply f _) => f.payload.head?
  | some .notice => none
  | none => none

/-- Standing square on dusted plate, every foot loaded under its hip moved by (x, y), pushed forward and to the right (sections
3.4, 4.6). -/
def stood (x y : Int) : State :=
  { State.reset with
    feet := Quad.const { Foot.reset with contact := .loaded, cls := .dusted }
    att := { State.reset.att with sample := ⟨50, -20, 1000⟩, stale := false }
    bal := { State.reset.bal with support := Quad.const true }
    legs := Quad.const { LegSeq.reset Geometry.default with phase := .stance, commanded := ⟨x, y, -430⟩ }
    bus := { State.reset.bus with drives := Quad.const ⟨⟨x, y, -430⟩, some ⟨.ready, true⟩, 0, 5⟩ }
    sup := { State.reset.sup with mode := .standing, supportLow := false } }

/-- A STEP for FR onto dusted plate. -/
def stepFR (id : Nat) : PlanRecord := ⟨id, .step, [.fr], ⟨100, 0, 0⟩, some .dusted, false, true, false, false, 0⟩

/-- A SHIFT. -/
def shiftRecord (id : Nat) : PlanRecord := ⟨id, .shift, [], ⟨20, 0, 0⟩, none, false, false, false, false, 0⟩

/-- Standing with the plan ACTIVE, the STEP for FR waiting with some attempts spent, and the evaluation running that has read
all this. -/
def waiting (x y : Int) (attempts : Nat) : State :=
  let s := stood x y
  startEvaluation
    { s with
      plan := { s.plan with window := [⟨stepFR 51, .waiting, []⟩], state := .active }
      bal := { s.bal with queue := [⟨51, [.fr], false, attempts⟩] } }

/-- What that evaluation read. -/
def waitingInputs (x y : Int) (attempts : Nat) : EvalInputs := readInputs (waiting x y attempts)

/-- The data of a step FR has begun. -/
def begun : StepData := ⟨⟨300, -120, -430⟩, .chequer, ⟨400, -120, -430⟩, -380, 30, .dusted⟩

/-- FR in a phase of a step with a motion, its foot off the floor, its phase timer run out. -/
def stepping (p : Phase) (m : Motion) : State :=
  let s := waiting 0 0 0
  modFoot .fr (fun f => { f with contact := .air })
    (modLeg .fr (fun q => { q with phase := p, motion := some m, record := some 51, step := some begun, timer := some 0 })
      (s.setPlan { s.plan with window := [⟨stepFR 51, .granted, []⟩] }))

/-- The same state with every running millisecond timer run out. -/
def spent (s : State) : State :=
  { s with
    feet := s.feet.map fun f => { f with stale := f.stale.map fun _ => 0 }
    att := { s.att with staleTimer := 0, lostTimer := 0, reading := s.att.reading.map fun _ => 0 }
    bal := { s.bal with preshift := s.bal.preshift.map fun p => { p with timer := 0 } }
    plan := { s.plan with shiftTimer := s.plan.shiftTimer.map fun _ => 0 }
    legs := s.legs.map fun q => { q with timer := q.timer.map fun _ => 0 }
    bus := { s.bus with drives := s.bus.drives.map fun d => { d with poll := 0 } }
    sup := { s.sup with riseSettle := s.sup.riseSettle.map fun _ => 0, supportLost := s.sup.supportLost.map fun _ => 0 }
    link := { s.link with gap := s.link.gap.map fun _ => 0, silence := s.link.silence.map fun _ => 0 } }

/-- The same with the foot LOADED. -/
def loadedAt (p : Phase) (m : Motion) : State := modFoot .fr (fun f => { f with contact := .loaded }) (stepping p m)

/-- A transaction in flight with its reply window open. -/
def windowOpen (t : Txn) (s : State) : State := s.setBus { s.bus with line := .window t 300 [] }

/-! ## Ill-formed commands -/

theorem test_wf_load_sample : (Instr.loadSample .fl 0).wf = false ∧ (Instr.loadSample .fl 1).wf = true := by decide
theorem test_wf_drive_reply : (Instr.driveReply []).wf = false ∧ (Instr.driveReply [0#8]).wf = true := by decide

/-- No word spells a command (the table gives no bits). -/
theorem test_decode_nothing : decodeTableWord 8 1 = none ∧ State.reset.withFetchWord 8 1 = State.reset := by
  exact ⟨rfl, rfl⟩

/-! ## Arithmetic and layouts: the manual's worked cases -/

/-- R157: the check of "123456789" is 0x29B1. -/
theorem test_crc : crc16 [0x31#8, 0x32#8, 0x33#8, 0x34#8, 0x35#8, 0x36#8, 0x37#8, 0x38#8, 0x39#8] = 0x29B1#16 := by
  decide +kernel

/-- Section 1.5: the five worked cases of the clamp. -/
theorem test_clamp :
    workspaceClamp Geometry.default ⟨300, 100, -430⟩ = ⟨246, 82, -430⟩ ∧
    workspaceClamp Geometry.default ⟨-300, -50, -650⟩ = ⟨-256, -42, -600⟩ ∧
    workspaceClamp Geometry.default ⟨260, 0, -150⟩ = ⟨260, 0, -200⟩ ∧
    workspaceClamp Geometry.default ⟨259, 30, -300⟩ = ⟨259, 30, -300⟩ ∧
    workspaceClamp Geometry.default ⟨150, -20, -430⟩ = ⟨150, -20, -430⟩ := by decide +kernel

/-- Section 3.4: standing square, pushed; and the push reversed. -/
theorem test_pressure_point :
    pressurePoint (readInputs (stood 0 0)) = (-13, 9) ∧
    pressurePoint { readInputs (stood 0 0) with sample := ⟨-50, 20, 1000⟩ } = (33, -9) := by decide +kernel

/-- Section 4.6: four feet standing square, live margin 111 and required 50; after the pre-shift 91. -/
theorem test_live_margin :
    figuresOf (readInputs (stood 0 0)) = ⟨-13, 9, 111, 4, false, false, 50⟩ ∧
    (figuresOf (readInputs (stood 56 (-20)))).margin = 91 := by decide +kernel

/-- Section 4.6: the swing test for FR fails with 13 and passes with 52 after the pre-shift by (56, −20). -/
theorem test_swing_margin :
    (marginOf (cornersOf (waitingInputs 0 0 0) [.fl, .rl, .rr]) (-13) 9).margin = 13 ∧
    (marginOf (cornersOf (waitingInputs 56 (-20) 0) [.fl, .rl, .rr]) (-13) 9).margin = 52 ∧
    limitOffset 60 (aimOffset (waitingInputs 0 0 0) [.fl, .rl, .rr]) = (-56, 20) := by decide +kernel

/-- Section 4.6: two diagonal feet. -/
theorem test_two_feet :
    marginOf [⟨300, 120, 0⟩, ⟨-300, -120, 0⟩] (-13) 9 = ⟨-13, false, false⟩ ∧
    marginOf [⟨300, 120, 0⟩, ⟨-300, -120, 0⟩] 33 (-9) = ⟨-20, false, false⟩ ∧
    marginOf [⟨300, 120, 0⟩, ⟨-300, -120, 0⟩] 600 240 = ⟨0, false, false⟩ := by decide +kernel

/-- Section 4.6: a short edge, a foot drawn in, crossed feet, feet in a line. -/
theorem test_odd_polygons :
    marginOf [⟨300, 8, 0⟩, ⟨-300, 120, 0⟩, ⟨-300, -120, 0⟩, ⟨300, -8, 0⟩] (-13) 9 = ⟨56, false, false⟩ ∧
    marginOf [⟨300, 120, 0⟩, ⟨-300, 120, 0⟩, ⟨-300, -120, 0⟩, ⟨200, 90, 0⟩] (-13) 9 = ⟨-17, false, false⟩ ∧
    marginOf [⟨300, -120, 0⟩, ⟨-300, -120, 0⟩, ⟨-300, 120, 0⟩, ⟨300, 120, 0⟩] (-13) 9 = ⟨-1000, true, false⟩ ∧
    marginOf [⟨300, 0, 0⟩, ⟨-300, 0, 0⟩, ⟨0, 0, 0⟩] 0 0 = ⟨-1000, true, false⟩ := by decide +kernel

/-- Section 11.5: the fields of a SETPOINT frame. -/
theorem test_setpoint_frame :
    requestFields ⟨.fl, .setpoint ⟨56, -20, -430⟩ 150 false⟩ =
      [0#8, 1#8, 56#8, 0#8, 0xEC#8, 0xFF#8, 0x52#8, 0xFE#8, 150#8, 0#8, 0#8] := by decide +kernel

/-- R18: the manual's table of samples. -/
theorem test_classify :
    classify 30 1000 = .openCircuit ∧ classify 960 1000 = .short ∧ classify 400 1300 = .badPeriod ∧
    classify 300 790 = .badPeriod ∧ classify 40 800 = .valid 0 ∧ classify 150 1111 = .valid 70 ∧
    classify 312 1040 = .valid 400 ∧ classify 1187 1250 = .valid 1600 := by decide +kernel

/-! ## One step of each kind of command -/

/-- R154: the two LINK_RATE pins are sampled, bit 0 first. -/
theorem test_power_on : (after (.powerOnReset false true true) (stood 0 0)).sup.linkRate = 2 ∧
    (after (.powerOnReset false true true) (stood 0 0)).sup.imuFlip = true := by decide +kernel

/-- R1: the time base wraps to 0. -/
theorem test_tick_wraps :
    (after .timeBaseTick (State.reset.setEv { State.reset.ev with time := 0xFFFFFFFF#32 })).ev.time = 0#32 := by
  decide +kernel

/-- R160: the last byte of a PING frame makes it a good frame. -/
theorem test_last_byte_of_ping :
    (takeBytes (linkFrameBytes (request 0x01#8 [])) State.reset).map (fun s => s.link.buffer)
      = some [request 0x01#8 []] := by decide +kernel

/-- Section 9.6, a noise byte before a request: the PING is found behind it, with one discard counted. -/
theorem test_noise_before_ping :
    (takeBytes (0xA5#8 :: linkFrameBytes ⟨0x01#8, 0x17#8, []⟩) State.reset).map
      (fun s => (s.link.buffer, s.ev.counters.framesBadCheck, s.ev.counters.framesGood))
        = some ([⟨0x01#8, 0x17#8, []⟩], 1#32, 1#32) := by decide +kernel

/-- R159: a LEN of 97 discards the frame. -/
theorem test_long_len :
    (after (.linkByte 97#8 false) (State.reset.setLink { State.reset.link with held := [0xA5#8], gap := some 2 })).link.held
      = [] := by decide +kernel

/-- R162: an unknown kind is answered with code 1; R166: PING is answered OK. -/
theorem test_unknown_kind : lastResult (after .requestUnknownKind (asked (request 0x77#8 []) State.reset)) = some 1#8 := by
  decide +kernel
theorem test_ping :
    (after .ping (asked (request 0x01#8 []) (stood 0 0))).link.tx =
      [.reply ⟨0x81#8, 7#8, [0#8, 2#8, 0#8, 0#8, 0#8, 0#8, 0#8]⟩ false] := by decide +kernel

/-- R179: a STATUS reply has 77 bytes with its result. -/
theorem test_status_length : (statusFields State.reset).length = 76 := by decide +kernel

/-- R7, R12, R68, R124: each record is replaced in PARKED. -/
theorem test_set_geometry :
    (after .setGeometry (asked (request 0x10#8 (geometryPayload { Geometry.default with reach := 300 })) State.reset)).geo.reach
      = 300 := by decide +kernel
theorem test_set_surface :
    (after .setSurface (asked (request 0x11#8
      [3#8, 40#8, 0#8, 90#8, 0#8, 150#8, 0#8, 50#8, 0#8, 0xE2#8, 0xFF#8, 9#8, 0#8, 50#8, 0#8, 30#8, 0#8])
      State.reset)).surf.dusted = ⟨40, 90, 150, 50, -30, 9, 50, 30⟩ := by decide +kernel
theorem test_set_balance :
    (after .setBalance (asked (request 0x12#8
      [5#8, 0#8, 0xA6#8, 0xFF#8, 3#8, 0#8, 30#8, 0#8, 10#8, 0#8, 200#8, 0#8, 100#8, 0#8]) State.reset)).balCfg
      = ⟨5, -90, 3, 30, 10, 200, 100⟩ := by decide +kernel
theorem test_set_gait_wrong_mode :
    lastResult (after .setGait (asked (request 0x13#8 (gaitPayload GaitCfg.default)) (stood 0 0))) = some 4#8 := by
  decide +kernel

/-- R151: SETTLE with a limit of 500 sets the latch, and SUSPEND is refused from then on. -/
theorem test_set_supervision :
    let s := after .setSupervision (asked (request 0x14#8 [0xF4#8, 1#8, 1#8]) State.reset)
    s.sup.silenceLimit = 500 ∧ s.sup.latch = true ∧
      lastResult (after .setSupervision (asked (request 0x14#8 [0xF4#8, 1#8, 0#8]) s)) = some 3#8 := by decide +kernel

/-- R143, R145, R149: STAND rises, SIT settles, CLEAR_HOLD stands. -/
theorem test_stand : (after .stand (asked (request 0x20#8 [3#8]) State.reset)).sup.mode = .rising := by decide +kernel
theorem test_sit : (after .sit (asked (request 0x21#8 []) (stood 0 0))).sup.mode = .settling := by decide +kernel
theorem test_clear_hold :
    lastResult (after .clearHold (asked (request 0x22#8 []) (inMode .safeHold (stood 0 0)))) = some 9#8 ∧
    (after .clearHold (asked (request 0x22#8 []) (inMode .safeHold
      (after .evaluationComplete (startEvaluation (stood 0 0)))))).sup.mode = .standing := by decide +kernel

/-- R155, R156: the two scopes of RESET. -/
theorem test_reset_full :
    (after .frameSendEnd (after .frameSendStart (after .resetFull (asked (request 0x23#8 [0#8]) (stood 0 0))))).sup.mode
      = .parked := by decide +kernel
theorem test_reset_motion : lastResult (after .resetMotion (asked (request 0x23#8 [1#8]) (stood 0 0))) = some 4#8 := by
  decide +kernel

/-- R71: a displacement of +500 is stored as +400 and the record carries the mark. -/
theorem test_plan_append :
    (after .planAppend (asked (request 0x30#8 [51#8, 0#8, 0#8, 2#8, 0xF4#8, 1#8, 0#8, 0#8, 0#8, 0#8, 3#8, 0#8])
      State.reset)).plan.list = [⟨51, .step, [.fr], ⟨400, 0, 0⟩, some .dusted, false, false, false, true, 0⟩] := by
  decide +kernel

/-- R83, R84: PLAN_START on an empty plan is answered OK with the state IDLE. -/
theorem test_plan_start :
    (after .planStart (asked (request 0x31#8 []) (stood 0 0))).link.tx =
      [.reply ⟨0xB1#8, 7#8, [0#8, 0#8, 0#8]⟩ false] := by decide +kernel

/-- R85, R86: a suspended plan whose only record waits goes on to SUSPENDED. -/
theorem test_plan_suspend :
    (after .planSuspend (asked (request 0x32#8 []) (waiting 0 0 0))).plan.state = .suspended ∧
    (after .planSuspend (asked (request 0x32#8 []) (waiting 0 0 0))).plan.list = [stepFR 51] := by decide +kernel
theorem test_plan_resume :
    (after .planResume (asked (request 0x33#8 []) (after .planSuspend (asked (request 0x32#8 []) (waiting 0 0 0))))).plan.state
      = .active := by decide +kernel

/-- R90, R91, R81. -/
theorem test_plan_cancel :
    lastResult (after .planCancel (asked (request 0x34#8 [51#8, 0#8]) (waiting 0 0 0))) = some 8#8 := by decide +kernel
theorem test_plan_flush :
    (after .planFlush (asked (request 0x35#8 []) (waiting 0 0 0))).plan.window = [⟨stepFR 51, .waiting, []⟩] := by
  decide +kernel
theorem test_plan_report :
    (after .planReport (asked (request 0x36#8 []) State.reset)).link.tx =
      [.reply ⟨0xB6#8, 7#8, [0#8, 0#8, 0#8, 0#8, 0#8]⟩ false] := by decide +kernel

/-- R169, R170: unmasking a pending kind requests a notice; R171; R173; R175. -/
theorem test_event_mask :
    (after .eventMask (asked (request 0x40#8 [0#8, 0#8]) (raise .slip State.reset))).link.tx =
      [.notice, .reply ⟨0xC0#8, 7#8, [0#8, 0#8, 0#8, 16#8, 0#8]⟩ false] := by decide +kernel
theorem test_event_ack :
    (after .eventAck (asked (request 0x41#8 [16#8, 0#8]) (raise .brace (raise .slip State.reset)))).ev.pending = 8#12 := by
  decide +kernel
theorem test_fault_read :
    (after .faultRead (asked (request 0x42#8 []) State.reset)).link.tx =
      [.reply ⟨0xC2#8, 7#8, [0#8, 0#8, 0#8, 0xFF#8, 0#8, 0#8, 0#8, 0#8, 0#8, 0#8, 0#8]⟩ false] := by decide +kernel
theorem test_fault_clear :
    (after .faultClear (asked (request 0x43#8 []) (reportFault .driveLost (some .rr) (stood 0 0)))).ev.fault = none := by
  decide +kernel
theorem test_counters_read :
    lastResult (after .countersRead (asked (request 0x44#8 [0#8]) State.reset)) = some 2#8 := by decide +kernel
theorem test_counters_read_clear :
    (after .countersReadClear (asked (request 0x45#8 []) (bump .slips State.reset))).ev.counters.slips = 0#32 := by
  decide +kernel

/-- R164: a notice with no unmasked kind pending is removed unsent. -/
theorem test_notice_removed :
    (after .frameSendStart (State.reset.setLink { State.reset.link with tx := [.notice] })).link =
      State.reset.link := by decide +kernel

/-- R153: silence in STANDING suspends a waiting plan, and under SETTLE the part settles at once. -/
theorem test_silence :
    (after .silenceExpiry (let s := waiting 0 0 0
      { s with link := { s.link with silence := some 0 }, sup := { s.sup with policy := .settle } })).sup.mode
      = .settling := by decide +kernel

/-- R21: the third sample at the load threshold makes the foot LOADED; R22: a lifted foot goes to TOUCH first. -/
theorem test_load_sample :
    ((after (.loadSample .rl 1000) (modFoot .rl (fun f =>
      { f with contact := .touch, qualify := 2, measurement := .measuring (some 190) }) (stood 0 0))).feet.get .rl).contact
      = .loaded ∧
    ((after (.loadSample .rl 1000) (modFoot .rl (fun f =>
      { f with measurement := .measuring (some 100) }) (stood 0 0))).feet.get .rl).contact = .touch := by decide +kernel
theorem test_falling_edge :
    ((after (.loadFallingEdge .rl 190) (modFoot .rl (fun f => { f with measurement := .measuring none })
      State.reset)).feet.get .rl).measurement = .measuring (some 190) := by decide +kernel
theorem test_load_stale : ((after (.loadStale .fl) (spent (stood 0 0))).feet.get .fl).contact = .fault ∧
    ((after (.loadStale .fl) (stood 0 0)).feet.get .fl).contact = .loaded := by decide +kernel

/-- R26: a DUSTED foot slips at the ninth pulse and not at the eighth. -/
theorem test_slip_pulse :
    ((after (.slipPulse .fr) (modFoot .fr (fun f => { f with slip := 8 }) (stood 0 0))).feet.get .fr).contact = .slipping ∧
    ((after (.slipPulse .fr) (modFoot .fr (fun f => { f with slip := 7 }) (stood 0 0))).feet.get .fr).contact = .loaded := by
  decide +kernel

/-- R36: a reading of −32 768 flipped is clamped to +2000, and f_z to at least +400. -/
theorem test_attitude_read :
    (after (.attitudeReadDone 0x8000#16 5#16 0#16 true)
      { after .attitudeReadStart State.reset with sup := { State.reset.sup with imuFlip := true } }).att.sample
      = ⟨2000, -5, 400⟩ ∧
    (after .attitudeReadTimeout (spent (after .attitudeReadStart State.reset))).att.reading = none := by decide +kernel
theorem test_attitude_stale : (after .attitudeStaleExpiry (spent (stood 0 0))).ev.counters.attitudeStale = 1#32 := by
  decide +kernel
theorem test_attitude_lost :
    (after .attitudeLost (spent (stood 0 0))).sup.mode = .safeHold ∧ (after .attitudeLost (spent State.reset)).sup.mode = .parked := by
  decide +kernel

/-- R42: an accepted sample taken at the expiry of both timers comes first, and neither expiry happens. -/
theorem test_sample_before_expiries :
    let s := after (.attitudeReadDone 0#16 0#16 1000#16 true) (spent (after .attitudeReadStart (stood 0 0)))
    after .attitudeLost (after .attitudeStaleExpiry s) = s ∧ s.sup.mode = .standing ∧ s.att.stale = false := by
  decide +kernel

/-- Section 6.9: FR fails with 13 and the pre-shift by (−56, 20) is ordered; shifted, it is granted and lifts to −380. -/
theorem test_evaluation_orders_preshift :
    (after .evaluationComplete (waiting 0 0 0)).bal.preshift.map (fun p => (p.sx, p.sy)) = some (-56, 20) ∧
    ((after .evaluationComplete (waiting 0 0 0)).legs.get .fl).commanded = ⟨56, -20, -430⟩ := by decide +kernel
theorem test_evaluation_grants :
    ((after .evaluationComplete (waiting 56 (-20) 1)).legs.get .fr).phase = .lift ∧
    ((after .evaluationComplete (waiting 56 (-20) 1)).legs.get .fr).commanded = ⟨56, -20, -380⟩ := by decide +kernel

/-- R92, R117, R120. -/
theorem test_brace_taken :
    (after .braceTaken (requestBrace (stepping .swing .step))).plan.state = .braced ∧
    ((after .braceTaken (requestBrace (stepping .swing .step))).legs.get .fr).motion = some .descent := by decide +kernel
theorem test_preshift_timeout :
    (after .preshiftTimeout (spent (after .evaluationComplete (waiting 0 0 0)))).bal.preshift = none := by decide +kernel
theorem test_shift_timeout :
    ((after .shiftTimeout (let s := stood 0 0
      s.setPlan { s.plan with
        window := [⟨shiftRecord 9, .running, []⟩], state := .active, shiftTimer := some 0 })).plan.log.map
          fun e => e.status) = [.stalled] := by decide +kernel

/-- R104, R106: a LIFT that times out is a snag, a REACH that times out a missed foothold. R103, R108, R109: a retreat that times
out in SWING with its foot LOADED stands where it is. -/
theorem test_phase_timer_snag :
    ((after (.phaseTimerExpiry .fr) (stepping .lift .step)).plan.log.map fun e => e.status) = [.snagged] := by decide +kernel
theorem test_phase_timer_miss :
    ((after (.phaseTimerExpiry .fr) (stepping .reach .step)).legs.get .fr).motion = some .retreat ∧
    ((after (.phaseTimerExpiry .fr) (loadedAt .swing .retreat)).legs.get .fr).phase = .stance ∧
    ((after (.phaseTimerExpiry .fr) (stepping .swing .retreat)).legs.get .fr).phase = .reach := by decide +kernel

/-- R122: the AT_LIMIT arrival that ends REACH in a missed foothold marks the leg, and its record completes MISSED. -/
theorem test_limit_ends_reach :
    let s := after (.driveReply (driveReplyBytes ⟨.fr, .poll⟩ ⟨1, -2, -430⟩ .atLimit 0#8))
      (windowOpen ⟨.fr, .poll⟩ (stepping .reach .step))
    (s.legs.get .fr).clamped = true ∧ (s.plan.log.map fun e => e.status) = [.missed] := by decide +kernel

/-- R126, R130, R131: a poll goes out after the guard, and its window opens. -/
theorem test_poll_and_send :
    (after .driveRequestSent (after .driveTransactionSend (after (.pollTimerExpiry .rr) (spent (after .guardEnd State.reset))))).bus.line
      = .window ⟨.rr, .poll⟩ 400 [] := by decide +kernel

/-- R132: a good reply is taken; R133, R137: the third failure in a row makes the drive LOST and enters SAFE_HOLD. -/
theorem test_drive_reply :
    ((after (.driveReply (driveReplyBytes ⟨.rr, .poll⟩ ⟨1, -2, -430⟩ .moving 0#8)) (windowOpen ⟨.rr, .poll⟩ State.reset)).bus.drives.get
      .rr).pos = ⟨1, -2, -430⟩ := by decide +kernel
theorem test_drive_lost :
    (after .driveReplyTimeout (windowOpen ⟨.rr, .poll⟩ (modDrive .rr (fun d => { d with timeouts := 2 }) State.reset))).sup.mode
      = .safeHold := by decide +kernel

/-- R144, R150. -/
theorem test_rise_fails :
    (after .riseSettleTimeout (spent (after .stand (asked (request 0x20#8 [0#8]) State.reset)))).ev.fault.map (fun r => r.kind)
      = some .riseFailed := by decide +kernel
theorem test_support_lost :
    (after .supportLost (let s := stood 0 0; s.setSup { s.sup with supportLost := some 0 })).sup.mode = .safeHold := by
  decide +kernel

/-! ## Witnesses: the hypotheses of the statements are met

Each names the statement whose hypotheses it meets; the concrete states are those above. -/

/-- A request in the receive buffer may be taken. -/
theorem taking_asked (f : Frame) (s : State) (h : s.link.tx = []) (h' : s.link.resetTaken = false) :
    Taking (asked f s) f [] := by
  refine ⟨rfl, ?_, h'⟩
  show (s.link.tx.filter fun t => !t.isNotice).length < 4
  rw [h]; decide

/-- The invariants' statements start from a walking robot: FR in SWING, the evaluation running. -/
def walking : State :=
  let s := (stepping .swing .step).setPending [.timeBaseTick]
  startEvaluation
    { s with bal := { s.bal with support := ⟨true, false, true, true⟩, queue := [] } }

theorem witness_StepRunsTheFrontCommand :
    walking.pending = .timeBaseTick :: [] ∧ State.reset.pending = [] := ⟨rfl, rfl⟩

theorem witness_invariants :
    (∃ t, step walking = .next t) ∧ PlanStands walking ∧ LatchKept walking ∧ SupportIsLoaded walking ∧
      PlanRoom walking ∧ LinkRoom walking ∧ BusRoom walking ∧ HoldsStill walking ∧ OverflowNeedsFault walking := by
  refine ⟨⟨_, rfl⟩, fun _ => rfl, (fun h => by cases h), ?_, ?_, ?_, ?_, ⟨fun _ => rfl, fun h => ?_, fun h => ?_⟩, ?_⟩
  · intro l; cases l <;> decide +kernel
  · unfold PlanRoom; decide +kernel
  · unfold LinkRoom; decide +kernel
  · intro l; cases l <;> decide +kernel
  · cases h
  · cases h
  · intro h; cases h

theorem witness_AtMostTwoLegsAirborne : AirborneRoom walking ∧ EvalReadsQueue walking ∧ airborneLegs walking = 1 := by
  refine ⟨⟨by decide +kernel, ?_, ?_⟩, ?_, by decide +kernel⟩
  · intro l; cases l <;> decide +kernel
  · intro e he l
    obtain rfl : readInputs _ = e := Option.some.inj he
    cases l <;> decide +kernel
  · intro e he
    obtain rfl : readInputs _ = e := Option.some.inj he
    exact ⟨[], rfl⟩

/-- FR, off its stand in any phase of its step, serves the GRANTED record. -/
theorem steppingServes_stepping (p : Phase) : SteppingServes (stepping p .step) := by
  have hw : ∀ w ∈ (stepping p .step).plan.window, w = ⟨stepFR 51, .granted, []⟩ := fun w hw => List.mem_singleton.mp hw
  refine ⟨fun w h => by rw [hw w h]; decide, fun _ l hl => ?_⟩
  cases l
  case fr => exact ⟨Option.some_ne_none begun, _, List.mem_singleton.mpr rfl, rfl, rfl, by decide, by decide⟩
  all_goals exact absurd hl.symm (Option.some_ne_none Motion.step)

theorem witness_SteppingLegsServe :
    SteppingServes (stepping .swing .step) ∧ SteppingServes walking ∧ WaitingStands walking ∧ EvalReadsQueue walking ∧
      (∃ t, step walking = .next t) ∧ (walking.legs.get .fr).motion = some .step := by
  refine ⟨steppingServes_stepping .swing, steppingServes_stepping .swing, ?_, witness_AtMostTwoLegsAirborne.2.1, ⟨_, rfl⟩,
    by decide +kernel⟩
  exact ⟨by decide +kernel, by decide +kernel, by decide +kernel, by decide +kernel, fun _ => rfl, by decide +kernel,
    fun l => by cases l <;> decide +kernel⟩

theorem witness_RangesAreKept : InRange walking := by
  refine ⟨⟨fun l => by cases l <;> decide +kernel, by decide +kernel, by decide +kernel, by decide +kernel, by decide +kernel,
    by decide +kernel⟩, ?_, by unfold BalanceCfg.inRange; decide +kernel, by unfold GaitCfg.inRange; decide +kernel,
    Or.inl rfl, by decide +kernel, fun l => by cases l <;> decide +kernel⟩
  intro c
  cases c <;> (unfold ClassRecord.inRange; decide +kernel)

theorem witness_ResetRequests :
    Taking (asked (request 0x23#8 [0#8]) State.reset) (request 0x23#8 [0#8]) [] ∧
    Taking (asked (request 0x23#8 [1#8]) (stood 0 0)) (request 0x23#8 [1#8]) [] ∧ (stood 0 0).sup.mode ≠ .parked ∧
    Taking (asked (request 0x23#8 [1#8]) State.reset) (request 0x23#8 [1#8]) [] ∧ State.reset.sup.mode = .parked ∧
    Taking (asked (request 0x23#8 [2#8]) State.reset) (request 0x23#8 [2#8]) [] :=
  ⟨taking_asked _ _ rfl rfl, taking_asked _ _ rfl rfl, by decide, taking_asked _ _ rfl rfl, rfl, taking_asked _ _ rfl rfl⟩

theorem witness_RaisingAnEvent :
    let unmasked := State.reset.setEv { State.reset.ev with mask := 0 }
    hasEvent (raise .slip State.reset).ev.pending .slip = true ∧ hasEvent State.reset.ev.pending .slip = false ∧
    hasEvent unmasked.ev.mask .slip = false ∧ (∀ i ∈ unmasked.link.tx, i ≠ .notice) ∧
    hasEvent State.reset.ev.mask .slip = true ∧ TxItem.notice ∈ (raise .brace unmasked).link.tx := by
  refine ⟨by decide +kernel, by decide +kernel, by decide +kernel, by decide +kernel, by decide +kernel, by decide +kernel⟩

theorem witness_EventUnitRequests :
    let s := raise .slip State.reset
    (∀ (k : Byte) (p : List Byte), Taking (asked (request k p) s) (request k p) []) ∧ (0x0F#8 : Byte).toNat < 16 ∧
      16 ≤ (0x10#8 : Byte).toNat ∧
      (hasEvent s.ev.mask .slip = true ∧ hasEvent (BitVec.ofNat 12 0xFEF) .slip = false ∧
        hasEvent s.ev.pending .slip = true ∧ TxItem.notice ∉ s.link.tx) ∧
      ∀ e, hasEvent State.reset.ev.pending e = false := by
  refine ⟨fun _ _ => taking_asked _ _ rfl rfl, by decide, by decide, by decide +kernel, fun e => by cases e <;> decide +kernel⟩

theorem witness_FaultRecordIsKept :
    let s := reportFault .driveLost (some .rr) (stood 0 0)
    s.ev.fault.isSome = true ∧ exec .ping s = .next s ∧ OverflowNeedsFault s := by
  refine ⟨by decide +kernel, rfl, fun _ => by decide +kernel⟩

theorem witness_PendingFlagsStay :
    hasEvent (raise .slip State.reset).ev.pending .slip = true ∧
      exec .ping (raise .slip State.reset) = .next (raise .slip State.reset) := ⟨by decide +kernel, rfl⟩

theorem witness_EachRecordHasOneWriter :
    exec (.slipPulse .fl) State.reset = .next State.reset ∧ ¬ resetsPart (.slipPulse .fl) State.reset := by
  refine ⟨rfl, ?_⟩
  rintro (⟨_, _, _, h⟩ | ⟨h, _⟩) <;> cases h

/-- Each way a frame is discarded: a LEN of 97, or of 165 which is a SYNC; the gap timer; a stop-bit error; a CHECK of zeros. -/
theorem witness_ReceiverHunts :
    let begun := State.reset.setLink { State.reset.link with held := [0xA5#8], gap := some 0 }
    let nearly := State.reset.setLink { State.reset.link with held := [0xA5#8, 0#8, 1#8, 0x17#8, 0#8], gap := some 2 }
    State.reset.link.held = [] ∧ (0#8 : Byte) ≠ 0xA5#8 ∧ State.reset.link.gap ≠ some 0 ∧
      (begun.link.held = [0xA5#8] ∧ 96 < (97#8 : Byte).toNat ∧ 96 < (0xA5#8 : Byte).toNat ∧ 0xA5#8 ∉ ([97#8] : List Byte)) ∧
      (begun.link.gap = some 0 ∧ begun.link.held = 0xA5#8 :: [] ∧ 0xA5#8 ∉ ([] : List Byte)) ∧
      begun.link.held ++ [96#8] = 0xA5#8 :: 96#8 :: [] ∧
      nearly.link.held ++ [0#8] = 0xA5#8 :: 0#8 :: [1#8, 0x17#8, 0#8, 0#8] ∧
      putCheck (crc16 ([0#8, 1#8, 0x17#8, 0#8, 0#8].take 3)) ≠ [0#8, 1#8, 0x17#8, 0#8, 0#8].drop 3 := by
  refine ⟨rfl, by decide, by decide, ⟨rfl, by decide, by decide, by decide⟩, ⟨rfl, rfl, by decide⟩, rfl, rfl, by decide +kernel⟩

theorem witness_FrameIsReceivedWhole :
    (request 0x01#8 (List.replicate 96 0#8)).payload.length ≤ 96 ∧ State.reset.link.held = [] ∧
      (State.reset.setLink { State.reset.link with buffer := List.replicate 3 (request 0x01#8 []) }).link.buffer.length < 4 ∧
      4 ≤ (State.reset.setLink { State.reset.link with buffer := List.replicate 4 (request 0x01#8 []) }).link.buffer.length := by
  refine ⟨by decide, rfl, by decide, by decide⟩

theorem witness_OnlyWholeFramesAreGood :
    assemble (0xA5#8 :: (linkFrameBytes (request 0x30#8 [1#8, 2#8])).tail) = .good (request 0x30#8 [1#8, 2#8]) := by
  decide +kernel

theorem witness_TransmitterSends :
    let noticed := requestNotice State.reset
    noticed.link.tx = [.notice] ∧ noticed.link.sending = none ∧ noticed.ev.pending &&& ~~~noticed.ev.mask = 0#12 ∧
      (raise .slip (noticed.setEv { noticed.ev with mask := 0 })).ev.pending &&&
        ~~~(raise .slip (noticed.setEv { noticed.ev with mask := 0 })).ev.mask ≠ 0#12 ∧
      (after .ping (asked (request 0x01#8 []) State.reset)).link.tx = [.reply ⟨0x81#8, 7#8, [0, 0, 0, 0, 0, 0, 0]⟩ false] ∧
      (after .frameSendStart (after .ping (asked (request 0x01#8 []) State.reset))).link.sending.map Sending.resetFull
        = some false ∧
      (after .frameSendStart (after .resetFull (asked (request 0x23#8 [0#8]) State.reset))).link.sending.map Sending.resetFull
        = some true := by decide +kernel

theorem witness_ReadingAndMalformedRequests :
    (∀ k p, Taking (asked (request k p) (stood 0 0)) (request k p) []) ∧ 0x77#8 ∉ requestKinds ∧
      (request 0x10#8 [0#8]).payload.length ≠ 30 ∧ (request 0x31#8 [0#8]).payload.length ≠ 0 ∧
      (request 0x30#8 []).payload.length ∉ [12, 24, 36, 48] :=
  ⟨fun _ _ => taking_asked _ _ rfl rfl, by decide, by decide, by decide, by decide⟩

theorem witness_EachRequestGetsOneReply :
    takes .ping (request 0x01#8 []) = true ∧ Taking (asked (request 0x01#8 []) State.reset) (request 0x01#8 []) [] ∧
      ¬ Taking (asked (request 0x01#8 []) (after .resetFull (asked (request 0x23#8 [0#8]) State.reset))) (request 0x01#8 [])
        [] ∧
      State.reset.link.buffer = [] ∧ takes .ping (request 0x02#8 []) = false ∧
      (asked (request 0x02#8 []) State.reset).link.buffer = request 0x02#8 [] :: [] :=
  ⟨rfl, taking_asked _ _ rfl rfl, fun h => Bool.noConfusion (h.2.2 : true = false), rfl, rfl, rfl⟩

theorem witness_ConfigurationRequests :
    (∀ k p s, s.link.tx = [] → s.link.resetTaken = false → Taking (asked (request k p) s) (request k p) []) ∧
    (stood 0 0).sup.mode ≠ .parked ∧ State.reset.sup.mode = .parked ∧
    Geometry.default.inRange ∧ (Surfaces.default.get .dusted).inRange ∧ BalanceCfg.default.inRange ∧ GaitCfg.default.inRange ∧
    (List.replicate 30 (0#8 : Byte)).length = 30 ∧
    (¬ ∃ g : Geometry, g.inRange ∧ List.replicate 30 0#8 = geometryPayload g) ∧
    (¬ ∃ c, ∃ r : ClassRecord, r.inRange ∧ List.replicate 17 5#8 = surfacePayload c r) ∧
    (¬ ∃ b : BalanceCfg, b.inRange ∧ List.replicate 14 0#8 = balancePayload b) ∧
    (¬ ∃ g : GaitCfg, g.inRange ∧ List.replicate 26 0#8 = gaitPayload g) := by
  refine ⟨fun _ _ _ h h' => taking_asked _ _ h h', by decide, rfl, witness_RangesAreKept.1, witness_RangesAreKept.2.1 .dusted,
    witness_RangesAreKept.2.2.1, witness_RangesAreKept.2.2.2.1, rfl, ?_, ?_, ?_, ?_⟩
  · rintro ⟨g, hg, h⟩
    have h1 : (0#8 : Byte) = BitVec.ofNat 8 (BitVec.ofInt 16 g.reach).toNat := congrArg (fun l => l.getD 20 0) h
    have h2 : (0#8 : Byte) = BitVec.ofNat 8 ((BitVec.ofInt 16 g.reach).toNat / 256) := congrArg (fun l => l.getD 21 0) h
    have hr := hg.2.2.1
    have e1 := congrArg BitVec.toNat h1
    have e2 := congrArg BitVec.toNat h2
    simp only [BitVec.toNat_ofNat, BitVec.toNat_ofInt] at e1 e2
    omega
  · rintro ⟨c, r, -, h⟩
    have h1 : (5#8 : Byte) = BitVec.ofNat 8 c.code := congrArg (fun l => l.getD 0 0) h
    revert h1
    cases c <;> decide
  · rintro ⟨b, hb, h⟩
    have h1 : (0#8 : Byte) = BitVec.ofNat 8 b.braceCount := congrArg (fun l => l.getD 4 0) h
    have hr := hb.2.1
    have e1 := congrArg BitVec.toNat h1
    simp only [BitVec.toNat_ofNat] at e1
    omega
  · rintro ⟨g, hg, h⟩
    have h1 : (0#8 : Byte) = BitVec.ofNat 8 g.window := congrArg (fun l => l.getD 20 0) h
    have hr := hg.2.2.2
    have e1 := congrArg BitVec.toNat h1
    simp only [BitVec.toNat_ofNat] at e1
    omega

theorem witness_SilenceSettings :
    let latched := State.reset.setSup { State.reset.sup with policy := .settle, latch := true }
    LatchKept (latched.setPending [.ping]) ∧ step (latched.setPending [.ping]) = .next latched ∧
      ¬ resetsPart .ping latched ∧ latched.sup.latch = true ∧
      (∀ lo hi p, Taking (asked (request 0x14#8 [lo, hi, p]) latched) (request 0x14#8 [lo, hi, p]) []) ∧
      (0x32#8 : Byte).toNat + 256 * (0#8 : Byte).toNat = 50 ∧ (0x31#8 : Byte).toNat + 256 * (0#8 : Byte).toNat = 49 ∧
      (0x88#8 : Byte).toNat + 256 * (0x13#8 : Byte).toNat = 5000 := by
  refine ⟨fun _ => rfl, rfl, ?_, rfl, fun _ _ _ => taking_asked _ _ rfl rfl, by decide, by decide, by decide⟩
  rintro (⟨_, _, _, h⟩ | ⟨h, _⟩) <;> cases h

theorem witness_PlanRecordIsReadBack :
    recordOk .step [.fr] (some .dusted) true ∧ recordOk .pair [.fl, .rr] (some .grating) false ∧ recordOk .shift [] none false ∧
      fits16 32767 ∧ fits16 (-32768) ∧ (List.replicate 12 (0#8 : Byte)).length = 12 ∧
      ¬ ∃ id k legs, ∃ d : Vec3, ∃ cls hold notify np, 1 ≤ id ∧ id ≤ 65535 ∧ recordOk k legs cls np ∧ fits16 d.x ∧ fits16 d.y ∧
        fits16 d.z ∧ List.replicate 12 0#8 = recordBytes id k legs d cls hold notify np := by
  refine ⟨⟨⟨.fr, rfl⟩, by decide⟩, ⟨Or.inl rfl, by decide⟩, ⟨rfl, rfl, rfl⟩, ⟨by decide, by decide⟩, ⟨by decide, by decide⟩, rfl, ?_⟩
  rintro ⟨id, k, legs, d, cls, hold, notify, np, h1, h2, -, -, -, -, h⟩
  have e1 := congrArg BitVec.toNat (show (0#8 : Byte) = BitVec.ofNat 8 id from congrArg (fun l => l.getD 0 0) h)
  have e2 := congrArg BitVec.toNat (show (0#8 : Byte) = BitVec.ofNat 8 (id / 256) from congrArg (fun l => l.getD 1 0) h)
  simp only [BitVec.toNat_ofNat] at e1 e2
  omega

/-- A foot that measures. -/
def measuring (h : Option Nat) : State := modFoot .rl (fun f => { f with measurement := .measuring h }) (stood 0 0)

theorem witness_ValidSampleMovesContact :
    ((measuring (some 190)).feet.get .rl).measurement = .measuring (some 190) ∧
      classify ((some 190).getD 1000) 1000 = .valid 180 ∧ 40 * 1000 / 800 = 50 ∧ 39 * 1000 / 800 < 50 ∧
      1188 * 1000 / 1250 = 950 ∧ 950 < 1189 * 1000 / 1250 ∧
      (let joining := modFoot .rl (fun f => { f with contact := .touch, qualify := 2 }) (measuring (some 190))
       (joining.feet.get .rl).contact = .touch ∧ ((after (.loadSample .rl 1000) joining).feet.get .rl).contact = .loaded) ∧
      ((after (.loadSample .rl 1000) (measuring (some 100))).feet.get .rl).contact = .touch ∧
      ((measuring (some 100)).feet.get .rl).contact = .loaded := by decide +kernel

/-- A foot that leaves LOADED as the support count passes two, with no evaluation running and with one; one that joins as it does;
and one that was on that side already. -/
theorem witness_SupportFollows :
    let two := (stood 0 0).setBal { (stood 0 0).bal with support := ⟨true, false, false, true⟩ }
    let count := fun (q : Quad Bool) => (([.fl, .fr, .rl, .rr] : List Leg).filter fun m => q.get m).length
    two.bal.support.get .rr = true ∧ count two.bal.support = 2 ∧ count (two.bal.support.set .rr false) = 1 ∧
      two.sup.mode = .standing ∧ two.bal.eval = none ∧ (startEvaluation two).bal.eval.isSome = true ∧
      (let one := two.setBal { two.bal with support := two.bal.support.set .rr false }
       one.bal.support.get .rr = false ∧ count one.bal.support < 2 ∧ count (one.bal.support.set .rr true) = 2) := by
  decide +kernel

/-- A stale load, and samples of every invalid class, with no other foot in FAULT and with one, standing and held. -/
theorem witness_StaleLoadIsAFaultEntry :
    let late := spent (stood 0 0)
    let two := modFoot .fl (fun f => { f with contact := .fault }) (measuring none)
    (late.feet.get .rl).stale = some 0 ∧ (late.feet.get .rl).contact ≠ .fault ∧
      (∀ o, o ≠ Leg.rl → (late.feet.get o).contact ≠ .fault) ∧ (two.feet.get .rl).measurement = .measuring none ∧
      classify ((none : Option Nat).getD 1000) 1000 = .short ∧ classify ((none : Option Nat).getD 799) 799 = .badPeriod ∧
      classify ((some 49).getD 1000) 1000 = .openCircuit ∧ (two.feet.get .rl).contact ≠ .fault ∧
      (∃ o, o ≠ Leg.rl ∧ (two.feet.get o).contact = .fault) ∧ two.sup.mode ≠ .safeHold ∧
      (inMode .safeHold two).sup.mode = .safeHold ∧ ((spent two).feet.get .fl).contact = .fault ∧
      ((spent two).feet.get .fl).stale = some 0 := by
  refine ⟨rfl, by decide, fun o _ => by cases o <;> decide, rfl, by decide, by decide, by decide, by decide,
    ⟨.fl, by decide, rfl⟩, by decide, rfl, rfl, rfl⟩

theorem witness_SlipPulseCounts :
    let at8 := modFoot .fr (fun f => { f with slip := 8 }) (waiting 0 0 0)
    (State.reset.feet.get .fr).contact ≠ .loaded ∧ ((stood 0 0).feet.get .fr).contact = .loaded ∧
      ((stood 0 0).feet.get .fr).slip + 1 ≤ 2 * ((stood 0 0).surf.get ((stood 0 0).feet.get .fr).cls).slipLimit ∧
      (at8.feet.get .fr).contact = .loaded ∧
      2 * (at8.surf.get (at8.feet.get .fr).cls).slipLimit < (at8.feet.get .fr).slip + 1 ∧ at8.sup.mode = .standing ∧
      planRuns at8 = true ∧ at8.bal.support.get .fr = true ∧
      (State.reset.feet.get .rl).measurement = .waiting ∧ ((measuring none).feet.get .rl).measurement = .measuring none ∧
      ((measuring (some 190)).feet.get .rl).measurement = .measuring (some 190) ∧
      (State.reset.feet.get .rl).stale ≠ some 0 := by decide +kernel

theorem witness_AttitudeReads :
    State.reset.att.reading = none ∧ (after .attitudeReadStart State.reset).att.reading = some 1 ∧
      (after .attitudeReadStart State.reset).bal.eval = none ∧
      (after .attitudeReadStart (waiting 0 0 0)).bal.eval = some (waitingInputs 0 0 0) ∧
      (after .attitudeReadStart (waiting 0 0 0)).att.reading = some 1 ∧
      (spent (after .attitudeReadStart State.reset)).att.reading = some 0 := by decide +kernel

theorem witness_AttitudeTimersExpire :
    let reading := after .attitudeReadStart (stood 0 0)
    (spent State.reset).att.stale = true ∧ (spent (stood 0 0)).att.stale = false ∧ (spent (stood 0 0)).bal.eval = none ∧
      (spent (waiting 0 0 0)).bal.eval = some (waitingInputs 0 0 0) ∧ State.reset.sup.mode ≠ .standing ∧
      (stood 0 0).sup.mode = .standing ∧ (spent (stood 0 0)).att.staleTimer = 0 ∧ (spent (stood 0 0)).att.lostTimer = 0 ∧
      (stood 0 0).att.staleTimer ≠ 0 ∧ (stood 0 0).att.lostTimer ≠ 0 ∧ reading.att.reading = some 1 ∧
      reading.balCfg.staleLimit ≠ 0 ∧ reading.balCfg.lostLimit ≠ 0 := by decide +kernel

theorem witness_RootAndRounding : (0 : Int) < 400 := by decide

theorem witness_WorkspaceClampSettles :
    0 < Geometry.default.reach ∧ Geometry.default.zMin ≤ Geometry.default.zMax ∧ isqrt (300 * 300 + 100 * 100) = 316 ∧
      isqrt (259 * 259 + 30 * 30) = 260 := by decide +kernel

theorem witness_MarginRules :
    doubledArea [⟨300, 120, 0⟩, ⟨-300, 120, 0⟩, ⟨-300, -120, 0⟩] = 144000 ∧
      edgeLength ⟨300, 120, 0⟩ ⟨-300, 120, 0⟩ = 600 ∧ edgeLength ⟨-300, 120, 0⟩ ⟨-300, -120, 0⟩ = 240 ∧
      edgeLength ⟨-300, -120, 0⟩ ⟨300, 120, 0⟩ = 646 ∧
      doubledArea [⟨300, 0, 0⟩, ⟨-300, 0, 0⟩, ⟨0, 0, 0⟩] = 0 ∧ isqrt (600 * 600 + 240 * 240) = 646 ∧ isqrt (20 * 20) = 20 ∧
      isqrt (19 * 19) < 20 ∧ doubledArea [⟨300, 8, 0⟩, ⟨-300, 120, 0⟩, ⟨-300, -120, 0⟩, ⟨300, -8, 0⟩] = 153600 ∧
      edgeLength ⟨300, -8, 0⟩ ⟨300, 8, 0⟩ = 16 ∧ edgeLength ⟨300, 8, 0⟩ ⟨-300, 120, 0⟩ = 610 ∧
      doubledArea [⟨9, 0, 0⟩, ⟨9, 9, 0⟩, ⟨0, 9, 0⟩, ⟨0, 0, 0⟩] = 162 := by decide +kernel

theorem witness_EvaluationCompletes :
    (startEvaluation State.reset).bal.eval = some (readInputs State.reset) ∧
      (startEvaluation State.reset).bal.evalPending = false ∧ (startEvaluation State.reset).sup.mode ≠ .standing ∧
      (trigger (startEvaluation State.reset)).bal.evalPending = true := by decide +kernel

/-- The brace test of what stands on four feet, and of a robot that no foot carries, with one low margin counted and with none. -/
theorem witness_BraceTest :
    let carried := waiting 0 0 0
    let fallen := fun (below : Nat) => startEvaluation
      (carried.setBal { carried.bal with eval := none, support := Quad.const false, below := below })
    (carried.bal.eval = some (readInputs carried) ∧ belowBrace carried.balCfg (figuresOf (readInputs carried)) = false) ∧
      ∀ below ∈ [0, 1],
        (fallen below).bal.eval = some (readInputs (fallen below)) ∧ (fallen below).sup.mode = .standing ∧
          planRuns (fallen below) = true ∧ (figuresOf (readInputs (fallen below))).count < 2 ∧
          (below = 1 → (readInputs (fallen below)).balCfg.braceCount ≤ (fallen below).bal.below + 1) ∧
          (below = 0 → (fallen below).bal.below + 1 < (readInputs (fallen below)).balCfg.braceCount) := by decide +kernel

/-- Standing on grating, every foot under its hip moved by (x, y), with some records waiting and read. -/
def lined (x y : Int) (rs : List PlanRecord) : State :=
  let s := stood x y
  startEvaluation
    { s with
      feet := s.feet.map fun f => { f with cls := .grating }
      plan := { s.plan with window := rs.map fun r => ⟨r, .waiting, []⟩, state := .active }
      bal := { s.bal with queue := rs.map fun r => ⟨r.id, r.legs, r.noPreshift, 0⟩ } }

/-- R10: of a step up by 240 mm onto grating only the target, at −190, is above −z_min; the record is marked, the leg is not. -/
theorem test_target_marks_record :
    let s := after .evaluationComplete (lined 56 (-20) [{ stepFR 51 with disp := ⟨100, 0, 240⟩, cls := some .grating }])
    s.plan.window.map (fun w => w.body.clamped) = [true] ∧ (s.legs.get .fr).clamped = false ∧
      (s.legs.get .fr).phase = .lift := by decide +kernel

/-- A STEP for RL, and a PAIR of FR and RL. -/
def stepRL (id : Nat) : PlanRecord := { stepFR id with legs := [.rl] }
def pairFRRL (id : Nat) : PlanRecord := { stepFR id with kind := .pair, legs := [.fr, .rl] }

/-- FR in a phase of a PAIR of FR and RL, RL having made some reports, with the completion log full. -/
def paired (p : Phase) (reports : List LegReport) : State :=
  let s := stepping p .step
  s.setPlan { s.plan with
    window := [⟨pairFRRL 51, .granted, reports⟩], log := List.replicate 16 ⟨9, .step, [.fl], .ok, 0, 0, []⟩ }

/-- A STEP alone, a PAIR alone, and two STEPs of which the second passes without the leg of the first. -/
theorem witness_GrantBeginsAStep :
    (∀ x ∈ ([(56, -20, [stepFR 51]), (0, 0, [pairFRRL 51]), (56, -20, [stepFR 51, stepRL 52])] :
        List (Int × Int × List PlanRecord)),
      let s := lined x.1 x.2.1 x.2.2
      let e := readInputs s
      s.bal.eval = some e ∧ s.sup.mode = .standing ∧ planRuns s = true ∧ s.bal.braceOut = false ∧
        belowBrace e.balCfg (figuresOf e) = false ∧ s.bal.preshift = none ∧ s.bal.evalPending = false ∧
        e.requests = s.bal.queue ∧ s.bal.queue = x.2.2.map (fun r => ⟨r.id, r.legs, false, 0⟩) ∧
        s.plan.window = x.2.2.map (fun r => ⟨r, .waiting, []⟩) ∧ (x.2.2.flatMap PlanRecord.legs).Nodup ∧
        (x.2.2.map PlanRecord.id).Nodup ∧ ∀ r ∈ x.2.2, r.cls = some .dusted) ∧
    ∀ x ∈ ([(56, -20, [], [.fr]), (0, 0, [], [.fr, .rl]), (56, -20, [.fr], [.rl])] :
        List (Int × Int × List Leg × List Leg)),
      let e := readInputs (lined x.1 x.2.1 [])
      airborneCount e x.2.2.1 x.2.2.2 ≤ 2 ∧ 2 ≤ (predictedSet e x.2.2.1 x.2.2.2).length ∧
        passesOnMargin e x.2.2.1 x.2.2.2 = true := by decide +kernel

theorem witness_LegsLiftOnlyByGrant :
    EvalReadsQueue (waiting 56 (-20) 1) ∧ WaitingStands (waiting 56 (-20) 1) ∧
      exec .evaluationComplete (waiting 56 (-20) 1) = .next (after .evaluationComplete (waiting 56 (-20) 1)) ∧
      ((after .evaluationComplete (waiting 56 (-20) 1)).legs.get .fr).phase = .lift ∧
      ((waiting 56 (-20) 1).legs.get .fr).phase ≠ .lift := by
  refine ⟨fun e he => ?_, ?_, rfl, by decide +kernel, by decide +kernel⟩
  · obtain rfl : readInputs _ = e := Option.some.inj he
    exact ⟨[], rfl⟩
  · exact ⟨by decide +kernel, by decide +kernel, by decide +kernel, by decide +kernel, fun _ => rfl, by decide +kernel,
      fun l => by cases l <;> decide +kernel⟩

/-- A head that fails on margin with attempts left and with none; one that finds two legs in the air; one whose predicted set is a
single foot. -/
theorem witness_ShortMarginShiftsOrFails :
    let e := waitingInputs 0 0 0
    let busy := (waiting 0 0 0).setLegs (((waiting 0 0 0).legs.set .fl { (waiting 0 0 0).legs.get .fl with phase := .swing }).set .rr
      { (waiting 0 0 0).legs.get .rr with phase := .swing })
    let lone := (waiting 0 0 0).setBal { (waiting 0 0 0).bal with support := ⟨false, true, true, false⟩ }
    (2 < airborneCount (readInputs busy) [] [.fr] ∧ belowBrace (readInputs busy).balCfg (figuresOf (readInputs busy)) = false) ∧
    ((predictedSet (readInputs lone) [] [.fr]).length = 1 ∧
      belowBrace (readInputs lone).balCfg (figuresOf (readInputs lone)) = false) ∧
    (waiting 0 0 0).bal.eval = some e ∧ belowBrace e.balCfg (figuresOf e) = false ∧ airborneCount e [] [.fr] ≤ 2 ∧
      2 ≤ (predictedSet e [] [.fr]).length ∧ passesOnMargin e [] [.fr] = false ∧ 0 < (waiting 0 0 0).gait.attempts ∧
      2 ≤ lengthXY (aimOffset e (predictedSet e [] [.fr])).1 (aimOffset e (predictedSet e [] [.fr])).2 ∧
      IsNearest ((predictedSet e [] [.fr]).map fun l => (e.feet.get l).x).sum 3 (-100) ∧
      IsNearest ((predictedSet e [] [.fr]).map fun l => (e.feet.get l).y).sum 3 40 ∧
      ¬ 2 < (waiting 0 0 2).gait.attempts ∧ (waitingInputs 0 0 2).requests = [⟨51, [.fr], false, 2⟩] ∧
      passesOnMargin (waitingInputs 0 0 2) [] [.fr] = false := by unfold IsNearest; decide +kernel

/-- A PLAN_APPEND payload of one record for FR with id 51. -/
def onePayload : List Byte := recordBytes 51 .step [.fr] ⟨100, 0, 0⟩ (some .dusted) false true false

/-- A state whose plan list holds 32 records. -/
def fullPlan : State := State.reset.setPlan { State.reset.plan with list := List.replicate 32 (stepFR 9) }

theorem witness_PlanAppend :
    (∀ s, s.link.tx = [] → s.link.resetTaken = false →
      Taking (asked (request 0x30#8 onePayload) s) (request 0x30#8 onePayload) []) ∧
      onePayload.length = 12 * 1 ∧ (inMode .safeHold State.reset).sup.mode = .safeHold ∧ State.reset.sup.mode ≠ .safeHold ∧
      decodeRecords 1 (List.replicate 12 0#8) = none ∧ decodeRecords 1 onePayload = some [stepFR 51] ∧
      (stepFR 51).id ∈ (waiting 0 0 0).plan.window.map (fun w => w.body.id) ∧
      (∀ r ∈ fullPlan.plan.list, r.id ≠ 51) ∧ 32 < fullPlan.plan.list.length + fullPlan.plan.window.length + 1 ∧
      ¬ 32 < State.reset.plan.list.length + State.reset.plan.window.length + 1 ∧ State.reset.plan.state ≠ .active ∧
      (waiting 0 0 0).plan.state = .active ∧ (waiting 0 0 0).plan.list = [] ∧
      (waiting 0 0 0).plan.window.map (fun w => w.body.id) = [51] ∧
      decodeRecords 1 (recordBytes 52 .step [.rl] ⟨100, 0, 0⟩ (some .dusted) false true false) = some [{ stepFR 52 with legs := [.rl] }] := by
  refine ⟨fun _ h h' => taking_asked _ _ h h', by decide +kernel, rfl, by decide, by decide +kernel, by decide +kernel,
    by decide +kernel, by decide +kernel, by decide +kernel, by decide +kernel, by decide, rfl, rfl, by decide +kernel,
    by decide +kernel⟩

/-- The standing robot in a plan state with a plan list. -/
def planned (p : PlanState) (rs : List PlanRecord) : State :=
  (stood 0 0).setPlan { (stood 0 0).plan with state := p, list := rs }

/-- A head that may be issued, a SHIFT that may, one that may not, and a read in progress. -/
theorem witness_HeadIsIssued :
    (∀ r ∈ [stepFR 51, shiftRecord 9],
      let s := planned .active [r]
      s.plan.list = r :: [] ∧ s.plan.state = .active ∧ s.sup.mode = .standing ∧ s.att.stale = false ∧ s.bal.braceOut = false ∧
        s.plan.window = [] ∧ 0 < s.gait.window) ∧
      (∀ l, ((stood 0 0).legs.get l).phase = .stance ∧ ((stood 0 0).feet.get l).contact = .loaded) ∧
      (stepFR 51).kind ≠ .shift ∧ (shiftRecord 9).kind = .shift ∧ (planned .suspended [stepFR 51]).plan.state ≠ .active ∧
      (after .attitudeReadStart (planned .active [stepFR 51])).att.reading = some 1 := by
  refine ⟨by decide +kernel, fun l => by cases l <;> decide, by decide, rfl, by decide, by decide +kernel⟩

/-- The state with its running pre-shift: its owner, the STEP for FR, waits. -/
def preshifting : State := after .evaluationComplete (waiting 0 0 0)

/-- The head names a leg that is in the air. -/
theorem witness_NoReadyHeadWaits :
    let s := walking.setPlan { walking.plan with list := [stepFR 52] }
    PlanStands s ∧ HeadWaits s ∧ ∃ t, step s = .next t := by
  refine ⟨fun _ => rfl, fun r rest h => ?_, _, rfl⟩
  obtain ⟨rfl, -⟩ := List.cons.inj h
  exact fun hm => absurd (hm.2.2.2.2.2.2.1 (by decide) .fr (by decide)).1 (by decide +kernel)

theorem witness_PlanStateRequests :
    (∀ k s, s.link.tx = [] → s.link.resetTaken = false → Taking (asked (request k []) s) (request k []) []) ∧
      State.reset.sup.mode ≠ .standing ∧ (planned .suspended []).sup.mode = .standing ∧ (planned .suspended []).plan.state ≠ .idle ∧
      (planned .idle []).plan.state = .idle ∧ (planned .idle [stepFR 51]).plan.list ≠ [] ∧
      (planned .draining [stepFR 51]).plan.list ≠ [] ∧
      (waiting 0 0 0).plan.state = .active ∧ (planned .draining []).plan.state = .draining ∧
      (∀ l, ((planned .braced []).legs.get l).phase = .stance ∧ ((planned .braced []).feet.get l).contact = .loaded) ∧
      ¬ (planned .braced []).bal.held.required ≤ (planned .braced []).bal.held.margin ∧
      (after .evaluationComplete (startEvaluation (planned .braced []))).bal.held.required ≤
        (after .evaluationComplete (startEvaluation (planned .braced []))).bal.held.margin ∧
      (preshifting.plan.state = .active ∧ preshifting.sup.mode = .standing ∧ preshifting.sup.pendingSettle = false ∧
        preshifting.bal.preshift.map (fun p => (p.owner, p.legs.length)) = some (51, 4) ∧
        (waitingOf preshifting.plan.window).map (fun w => w.body.id) = [51]) := by
  refine ⟨fun _ _ h h' => taking_asked _ _ h h', by decide, rfl, by decide, rfl, by decide, by decide, rfl, rfl,
    fun l => by cases l <;> decide, by decide +kernel, by decide +kernel, by decide +kernel⟩

theorem witness_PlanRemovals :
    (∀ k p s, s.link.tx = [] → s.link.resetTaken = false → Taking (asked (request k p) s) (request k p) []) ∧
      (51#8 : Byte).toNat + 256 * (0#8 : Byte).toNat = 51 ∧ (∀ r ∈ (planned .active []).plan.list, r.id ≠ 51) ∧
      (planned .active [stepFR 50, stepFR 51, stepFR 52]).plan.list = [stepFR 50] ++ stepFR 51 :: [stepFR 52] ∧
      (∀ x ∈ [stepFR 50], x.id ≠ 51) ∧
      ((planned .active [stepFR 51]).plan.state = .active ∧ (planned .active [stepFR 51]).plan.window = [] ∧
        (planned .active [stepFR 51]).plan.list = [] ++ stepFR 51 :: []) := by
  refine ⟨fun _ _ _ h h' => taking_asked _ _ h h', by decide, by decide +kernel, rfl, by decide +kernel, rfl, rfl, rfl⟩

theorem witness_BraceIsTaken :
    (requestBrace (stood 0 0)).bal.braceOut = true ∧ planRuns (requestBrace (stood 0 0)) = false ∧
      (∀ p ∈ ([.lift, .swing, .reach] : List Phase),
        let s := requestBrace (stepping p .step)
        let w : WindowRecord := ⟨stepFR 51, .granted, []⟩
        s.bal.braceOut = true ∧ planRuns s = true ∧ (idsInPlan s).Nodup ∧ s.plan.window = [w] ∧ s.sup.mode = .standing ∧
          w.cond ≠ .waiting ∧ w.cond ≠ .running ∧ s.bal.preshift = none ∧ (s.feet.get .fr).contact ≠ .loaded ∧
          (s.legs.get .fr).step = some begun ∧ (s.legs.get .fr).motion = some .step ∧ (s.legs.get .fr).phase = p) ∧
      (∀ p ∈ ([.lift, .swing] : List Phase),
        let s := requestBrace (loadedAt p .step)
        planRuns s = true ∧ (idsInPlan s).Nodup ∧ s.plan.window = [⟨stepFR 51, .granted, []⟩] ∧ s.sup.mode = .standing ∧
          s.sup.pendingSettle = false ∧ s.bal.preshift = none ∧ (s.feet.get .fr).contact = .loaded ∧
          (s.legs.get .fr).step = some begun ∧ (s.legs.get .fr).motion = some .step ∧ (s.legs.get .fr).phase = p) ∧
      (let s := requestBrace preshifting
       planRuns s = true ∧ (idsInPlan s).Nodup ∧ s.sup.mode = .standing ∧ s.sup.pendingSettle = false ∧
        s.plan.window.map (fun w => (w.cond, w.body.id)) = [(.waiting, 51)] ∧
        s.bal.preshift.map (fun q => (q.owner, q.legs.length)) = some (51, 4)) ∧
      (let s := (stood 0 0).setPlan { (stood 0 0).plan with window := [⟨shiftRecord 9, .running, []⟩], state := .active }
       planRuns (requestBrace s) = true ∧ s.sup.pendingSettle = false ∧ s.sup.mode = .standing ∧ (idsInPlan s).Nodup) := by
  decide +kernel

theorem witness_ShiftTimersExpire :
    let s := stood 0 0
    let shifting := s.setPlan
      { s.plan with window := [⟨shiftRecord 9, .running, []⟩], state := .active, shiftTimer := some 0 }
    State.reset.bal.preshift = none ∧ State.reset.plan.shiftTimer = none ∧
      ((spent (after .evaluationComplete (waiting 0 0 0))).bal.preshift.map fun p => p.timer) = some 0 ∧ shifting.plan.shiftTimer = some 0 ∧
      shifting.plan.window = [⟨shiftRecord 9, .running, []⟩] ∧ (shiftRecord 9).kind = .shift ∧ shifting.sup.mode = .standing ∧
      shifting.sup.pendingSettle = false ∧ planRuns shifting = true := by decide +kernel

/-- A timer that runs out on a step, and on a leg of a PAIR whose other leg has reported and has not, the log full. -/
theorem witness_PhaseTimerExpires :
    (State.reset.legs.get .fr).timer = none ∧
      (∀ p ∈ ([.lift, .swing, .reach] : List Phase), ∀ rs ∈ ([[], [⟨.rl, .missed, none⟩]] : List (List LegReport)),
        let s := paired p rs
        s.plan.window = [⟨pairFRRL 51, .granted, rs⟩] ∧ (s.legs.get .fr).record = some 51 ∧ (s.legs.get .fr).timer = some 0 ∧
          (s.legs.get .fr).motion = some .step ∧ (s.legs.get .fr).step = some begun ∧ (s.legs.get .fr).phase = p ∧
          (idsInPlan s).Nodup ∧ s.plan.log.length = 16 ∧ s.sup.pendingSettle = false ∧ s.plan.state = .active) ∧
      (∀ p m, ((stepping p m).legs.get .fr).timer = some 0 ∧ ((stepping p m).feet.get .fr).contact ≠ .loaded ∧
        ((stepping p m).legs.get .fr).step = some begun ∧ ((stepping p m).legs.get .fr).motion = some m ∧
        ((stepping p m).legs.get .fr).phase = p ∧ (stepping p m).sup.mode ≠ .parked ∧
        (stepping p m).sup.pendingSettle = false ∧ ((loadedAt p m).feet.get .fr).contact = .loaded ∧
        ((loadedAt p m).legs.get .fr) = (stepping p m).legs.get .fr) := by
  refine ⟨rfl, by decide +kernel, fun p m => ⟨rfl, (fun h => Contact.noConfusion (h : Contact.air = Contact.loaded)), rfl, rfl, rfl,
    (fun h => Mode.noConfusion (h : Mode.standing = Mode.parked)), rfl, rfl, rfl⟩⟩

/-- Replies that pass and that do not, in each phase, with the foot in AIR and with it LOADED; and samples that lift it off and
load it. -/
theorem witness_LegsFollowReports :
    (∀ p m, let s := windowOpen ⟨.fr, .poll⟩ (stepping p m)
      s.sup.mode = .standing ∧ s.sup.pendingSettle = false ∧ (∀ w ∈ s.plan.window, w.cond ≠ .running) ∧
        (s.legs.get .fr).step = some begun ∧ s.bus.line = .window ⟨.fr, .poll⟩ 300 [] ∧ (s.legs.get .fr).phase = p ∧
        (s.legs.get .fr).motion = some m ∧ (s.legs.get .fr).reached = false ∧ (s.feet.get .fr).contact = .air ∧
        ((loadedAt p m).feet.get .fr).contact = .loaded ∧ (s.legs.get .fr).commanded = ⟨0, 0, -430⟩) ∧
      fits16 0 ∧ fits16 (-430) ∧ (3#8 : Byte).getLsbD 0 = true ∧ (0#8 : Byte).getLsbD 0 = false ∧
      (paired .reach [⟨.rl, .ok, some ⟨0, 0, -430⟩⟩]).plan.list = [] ∧
      (let r := (stood 0 0).surf.get .dusted
       (sampledFoot r 180 { Foot.reset with contact := .touch, qualify := 2 }).contact = .loaded ∧
        (sampledFoot r 0 { Foot.reset with contact := .touch }).contact = .air) ∧
      classify 190 1000 = .valid 180 ∧ classify 100 1000 = .valid 0 := by
  refine ⟨fun p m => ⟨rfl, rfl, fun w hw h => ?_, rfl, rfl, rfl, rfl, rfl, rfl, rfl, rfl⟩, ⟨by decide, by decide⟩,
    ⟨by decide, by decide⟩, by decide, by decide, rfl, by decide +kernel, by decide +kernel, by decide +kernel⟩
  obtain rfl : w = ⟨stepFR 51, .granted, []⟩ := List.mem_singleton.mp hw
  cases h

/-- A state that holds what SAFE_HOLD holds still because its mode is another, with its plan running in STANDING only. -/
theorem holdsStill_of_other {s : State} (hm : s.sup.mode ≠ .safeHold) (hp : PlanStands s)
    (hw : planRuns s = false → s.plan.window = []) : HoldsStill s := ⟨hp, hw, fun h => absurd h hm⟩

/-- FR in REACH of a step, its next sample to load it, with a settle pending; the others stand. -/
def settlePending : State :=
  let s := stepping .reach .step
  modFoot .fr (fun f => { f with contact := .touch, qualify := 2, measurement := .measuring (some 190) })
    (s.setSup { s.sup with pendingSettle := true, policy := .settle })

/-- The last leg of a step, each leg of a PAIR, the last leg of a pre-shift, of a SHIFT, of a rise and of a settle, with every other
leg there; and the landing that completes a drain with a settle pending, and one that leaves another leg in the air. -/
theorem witness_RepliesComplete :
    let landing := windowOpen ⟨.fr, .poll⟩ (loadedAt .reach .step)
    let landed := fun (rs : List LegReport) =>
      windowOpen ⟨.fr, .poll⟩ (modFoot .fr (fun f => { f with contact := .loaded }) (paired .reach rs))
    let preshifting := windowOpen ⟨.fr, .poll⟩ preshifting
    let shifting := windowOpen ⟨.fr, .poll⟩ (after .planStart (asked (request 0x31#8 []) (planned .idle [shiftRecord 9])))
    let rising := windowOpen ⟨.fr, .poll⟩ (after .stand (asked (request 0x20#8 [0#8]) State.reset))
    let settling := windowOpen ⟨.fr, .poll⟩ (after .sit (asked (request 0x21#8 []) (stood 0 0)))
    (∀ s ∈ [landing, landed [], landed [⟨.rl, .missed, none⟩], preshifting, shifting, rising, settling],
      HoldsStill s ∧ s.bus.line = .window ⟨.fr, .poll⟩ 300 [] ∧ s.sup.pendingSettle = false ∧ s.sup.silenceInRise = false ∧
        s.plan.log.length ≤ 16) ∧
      (∀ rs ∈ ([[], [⟨.rl, .missed, none⟩], [⟨.rl, .ok, some ⟨0, 0, -430⟩⟩]] : List (List LegReport)),
        let s := landed rs
        s.plan.window = [⟨pairFRRL 51, .granted, rs⟩] ∧ s.plan.list = [] ∧ s.plan.log.length = 16 ∧ s.sup.mode = .standing ∧
          (s.legs.get .fr).record = some 51 ∧ (s.legs.get .fr).phase = .reach ∧ (s.legs.get .fr).motion = some .step ∧
          (s.feet.get .fr).contact = .loaded) ∧
      (∀ s ∈ [settlePending, modLeg .rl (fun q => { q with phase := .reach, motion := some .descent }) settlePending],
        s.sup.mode = .standing ∧ s.sup.pendingSettle = true ∧ (s.legs.get .fr).phase = .reach ∧
          (s.legs.get .fr).motion = some .step ∧ (s.feet.get .fr).measurement = .measuring (some 190) ∧
          classify 190 1000 = .valid 180 ∧ (s.feet.get .fr).contact = .touch ∧
          (sampledFoot (s.surf.get (s.feet.get .fr).cls) 180 (s.feet.get .fr)).contact = .loaded) ∧
      ((after (.loadSample .fr 1000) settlePending).plan.state = .idle ∧ (settlePending.legs.get .rl).phase = .stance) ∧
      (landing.plan.window = [⟨stepFR 51, .granted, []⟩] ∧ landing.plan.list = [] ∧ landing.sup.mode = .standing ∧
        (landing.legs.get .fr).phase = .reach ∧ (landing.legs.get .fr).motion = some .step ∧
        (landing.legs.get .fr).record = some 51 ∧ (landing.feet.get .fr).contact = .loaded ∧ landing.plan.state = .active) ∧
      (preshifting.bal.preshift.isSome = true ∧ (preshifting.legs.get .fr).phase = .stance ∧
        ∀ w ∈ preshifting.plan.window, w.cond ≠ .running) ∧
      (shifting.plan.window.map (fun w => (w.cond, w.body.kind)) = [(.running, .shift)] ∧ shifting.plan.list = [] ∧
        shifting.sup.mode = .standing ∧ (shifting.legs.get .fr).phase = .stance) ∧
      (rising.sup.mode = .rising ∧ (rising.legs.get .fr).phase = .posture) ∧
      (settling.sup.mode = .settling ∧ (settling.legs.get .fr).phase = .posture) := by
  refine ⟨?_, by decide +kernel, by decide +kernel, by decide +kernel, by decide +kernel, by decide +kernel, by decide +kernel,
    by decide +kernel, by decide +kernel⟩
  simp only [List.forall_mem_cons, List.not_mem_nil, false_imp_iff, implies_true, and_true]
  refine ⟨?_, ?_, ?_, ?_, ?_, ?_, ?_⟩
  all_goals exact ⟨holdsStill_of_other (by decide +kernel) (by unfold PlanStands; decide +kernel) (by decide +kernel),
    by decide +kernel, by decide +kernel, by decide +kernel, by decide +kernel⟩

theorem witness_StandRises :
    (∀ b s, s.link.tx = [] → s.link.resetTaken = false → Taking (asked (request 0x20#8 [b]) s) (request 0x20#8 [b]) []) ∧
      (stood 0 0).sup.mode ≠ .parked ∧ State.reset.sup.mode = .parked ∧ 4 < (5#8 : Byte).toNat ∧
      (4#8 : Byte).toNat = SurfaceClass.unsurveyed.code := by
  refine ⟨fun _ _ h h' => taking_asked _ _ h h', by decide, rfl, by decide, by decide⟩

theorem witness_SitSettles :
    (∀ s, s.link.tx = [] → s.link.resetTaken = false → Taking (asked (request 0x21#8 []) s) (request 0x21#8 []) []) ∧
      State.reset.sup.mode = .parked ∧ (inMode .settling State.reset).sup.mode = .settling ∧
      planRuns (waiting 0 0 0) = true ∧ planRuns (stood 0 0) = false ∧ (∀ l, ((stood 0 0).legs.get l).phase = .stance) ∧
      (modDrive .rr (fun d => { d with timeouts := 3 }) (inMode .safeHold (stood 0 0))).sup.mode = .safeHold ∧
      ((modDrive .rr (fun d => { d with timeouts := 3 }) (inMode .safeHold (stood 0 0))).bus.drives.get .rr).timeouts ≥ 3 ∧
      ∀ l, ¬ ((inMode .safeHold (stood 0 0)).bus.drives.get l).timeouts ≥ 3 := by
  refine ⟨fun _ h h' => taking_asked _ _ h h', rfl, rfl, by decide +kernel, by decide +kernel, fun l => by cases l <;> rfl, rfl,
    by decide +kernel, fun l => by cases l <;> decide⟩

theorem witness_ClearHoldStands :
    let held := inMode .safeHold (after .evaluationComplete (startEvaluation (stood 0 0)))
    (∀ s, s.link.tx = [] → s.link.resetTaken = false → Taking (asked (request 0x22#8 []) s) (request 0x22#8 []) []) ∧
      HoldsStill (inMode .safeHold (stood 0 0)) ∧ HoldsStill held ∧ held.sup.mode = .safeHold ∧
      ¬ (inMode .safeHold (stood 0 0)).bal.held.required ≤ (inMode .safeHold (stood 0 0)).bal.held.margin ∧
      (∀ l, (held.bus.drives.get l).timeouts < 3 ∧ (held.feet.get l).contact = .loaded ∧
        (held.bus.drives.get l).last = some ⟨.ready, true⟩) ∧ held.bal.held.required ≤ held.bal.held.margin := by
  refine ⟨fun _ h h' => taking_asked _ _ h h', ?_, ?_, rfl, by decide +kernel,
    fun l => by cases l <;> decide +kernel, by decide +kernel⟩
  all_goals
    refine ⟨(fun h => by cases h), fun _ => rfl, fun _ => ⟨(fun l => by cases l <;> rfl), rfl, rfl, rfl, rfl, rfl, rfl⟩⟩

theorem witness_SupervisorTimersExpire :
    let rising := after .stand (asked (request 0x20#8 [0#8]) State.reset)
    let settling := after .sit (asked (request 0x21#8 []) (stood 0 0))
    State.reset.sup.riseSettle = none ∧ State.reset.sup.supportLost = none ∧ (spent rising).sup.riseSettle = some 0 ∧
      rising.sup.mode = .rising ∧ (spent settling).sup.riseSettle = some 0 ∧ settling.sup.mode = .settling ∧
      (spent (supportFallen (stood 0 0))).sup.supportLost = some 0 ∧ (supportFallen (stood 0 0)).sup.mode = .standing ∧
      ((waiting 0 0 0).setLink { (waiting 0 0 0).link with silence := some 0 }).link.silence = some 0 ∧
      (waiting 0 0 0).plan.state = .active ∧ (waiting 0 0 0).sup.policy = .suspend ∧
      (let silent := fun (s : State) => { s with link := { s.link with silence := some 0 }, sup := { s.sup with policy := .settle } }
       (silent (waiting 0 0 0)).sup.policy = .settle ∧ (∀ w ∈ (silent (waiting 0 0 0)).plan.window, w.cond = .waiting) ∧
        (∀ l ∈ ([.fl, .fr, .rl, .rr] : List Leg), ((silent (waiting 0 0 0)).legs.get l).phase = .stance) ∧
        ((silent (stepping .swing .step)).legs.get .fr).phase ≠ .stance ∧ (silent (stepping .swing .step)).sup.mode = .standing) ∧
      (let running := spent (supportFallen (stepping .swing .step))
       planRuns running = true ∧ (idsInPlan running).Nodup ∧ running.plan.log.length ≤ 16 ∧ running.sup.mode = .standing ∧
        running.sup.supportLost = some 0 ∧ (servedOf running.plan.window).map (fun w => w.body.id) = [51]) := by decide +kernel

theorem witness_ModeFollowsItsTable :
    let late := spent (stood 0 0)
    HoldsStill late ∧ exec .attitudeLost late = .next (after .attitudeLost late) ∧ ¬ resetsPart .attitudeLost late ∧
      (after .attitudeLost late).sup.mode ≠ late.sup.mode ∧ settlePending.sup.pendingSettle = true ∧
      SettleWaits (settlePending.setPending [.ping]) ∧ step (settlePending.setPending [.ping]) = .next settlePending := by
  refine ⟨⟨(fun h => by cases h), fun _ => rfl, fun h => by cases h⟩, rfl, ?_, by decide +kernel, rfl,
    fun _ => ⟨rfl, fun _ => ⟨.fr, by decide +kernel⟩⟩, rfl⟩
  rintro (⟨_, _, _, h⟩ | ⟨h, _⟩) <;> cases h

theorem witness_SafeHoldHoldsStill :
    HoldsStill (inMode .safeHold (stood 0 0)) ∧ (inMode .safeHold (stood 0 0)).sup.mode = .safeHold ∧
      exec .attitudeLost (inMode .safeHold (stood 0 0)) = .next (after .attitudeLost (inMode .safeHold (stood 0 0))) ∧
      ¬ resetsPart .attitudeLost (inMode .safeHold (stood 0 0)) := by
  refine ⟨witness_ClearHoldStands.2.1, rfl, rfl, ?_⟩
  rintro (⟨_, _, _, h⟩ | ⟨h, _⟩) <;> cases h

theorem witness_BusTransactions :
    let s := after (.pollTimerExpiry .rr) (spent (after .guardEnd State.reset))
    State.reset.bus.line = .guard 400 ∧ s.bus.line = .idle ∧ s.bus.queue = ⟨.rr, .poll⟩ :: [] ∧
      (after .driveTransactionSend s).bus.line = .sending ⟨.rr, .poll⟩ (requestFrame ⟨.rr, .poll⟩) ∧
      (∀ x n got, State.reset.bus.line ≠ .window x n got) ∧ State.reset.bus.queue = [] ∧
      ((spent s).bus.drives.get .rr).poll = 0 ∧ (State.reset.bus.drives.get .rr).poll ≠ 0 ∧
      (let q : Txn := ⟨.fl, .setpoint ⟨0, 0, -430⟩ 150 false⟩
       State.reset.sup.mode = .parked ∧ (stood 0 0).sup.mode ≠ .parked ∧ q.op ≠ .poll ∧
        ([⟨.rr, .poll⟩, q, ⟨.fl, .poll⟩] : List Txn) = [⟨.rr, .poll⟩] ++ ⟨.fl, q.op⟩ :: [⟨.fl, .poll⟩] ∧
        ∀ x ∈ ([⟨.rr, .poll⟩] ++ [⟨.fl, .poll⟩] : List Txn), x.leg = .fl → x.op = .poll) := by
  refine ⟨rfl, by decide +kernel, by decide +kernel, by decide +kernel, (fun _ _ _ h => by cases h), rfl, rfl, by decide,
    by decide +kernel⟩

theorem witness_DriveReplyIsReadBack :
    fits16 (-32768) ∧ fits16 32767 ∧ (⟨.fl, .poll⟩ : Txn).leg ≠ (⟨.fr, .poll⟩ : Txn).leg ∧
      (windowOpen ⟨.fl, .poll⟩ State.reset).bus.line = .window ⟨.fl, .poll⟩ 300 [] ∧
      judgeReply ⟨.fl, .poll⟩ (driveReplyBytes ⟨.fr, .poll⟩ ⟨0, 0, -430⟩ .ready 0#8) = .stray ∧
      (let fields : List Byte := [0#8, 2#8, 0#8, 0#8, 0#8, 0#8, 0#8, 0#8, 5#8, 0#8]
       (fields ++ putCheck (crc16 fields)).length = 12 ∧ 4 < ((fields ++ putCheck (crc16 fields)).getD 8 0).toNat ∧
        judgeReply ⟨.fl, .poll⟩ (fields ++ putCheck (crc16 fields)) = .bad) := by
  refine ⟨⟨by decide, by decide⟩, ⟨by decide, by decide⟩, by decide, rfl, by decide +kernel, by decide +kernel⟩

theorem witness_GoodReplyIsTaken :
    (windowOpen ⟨.fl, .poll⟩ (inMode .safeHold (stood 0 0))).bus.line = .window ⟨.fl, .poll⟩ 300 [] ∧
      (windowOpen ⟨.fl, .poll⟩ (inMode .safeHold (stood 0 0))).sup.mode = .safeHold ∧
      (inMode .safeHold (stood 0 0)).plan.window = [] ∧ fits16 0 ∧ fits16 (-430) ∧
      ((stood 0 0).bus.drives.get .fl).last = some ⟨.ready, true⟩ ∧
      ((preshifting.legs.get .fl).speed.isSome = true ∧ preshifting.sup.mode = .standing ∧
        (preshifting.legs.get .fl).phase ≠ .folded ∧ (preshifting.legs.get .fl).reached = false ∧
        (preshifting.legs.get .fl).derating ≠ decide (DriveState.hot = .hot) ∧ (0#8 : Byte).getLsbD 0 = false) ∧
      ∀ p ∈ ([.lift, .swing, .reach] : List Phase),
        let s := windowOpen ⟨.fr, .poll⟩ (stepping p .step)
        s.bus.line = .window ⟨.fr, .poll⟩ 300 [] ∧ (s.legs.get .fr).step = some begun ∧ (s.legs.get .fr).motion = some .step ∧
          s.sup.mode = .standing ∧ s.sup.pendingSettle = false ∧ (∀ w ∈ s.plan.window, w.cond ≠ .running) ∧
          (idsInPlan s).Nodup ∧ (s.legs.get .fr).reached = false ∧ (s.legs.get .fr).phase = p ∧
          (s.feet.get .fr).contact = .air :=
  ⟨rfl, rfl, rfl, ⟨by decide, by decide⟩, ⟨by decide, by decide⟩, rfl, by decide +kernel, by decide +kernel⟩

theorem witness_FailedTransactionCounts :
    (windowOpen ⟨.fl, .poll⟩ (stood 0 0)).bus.line = .window ⟨.fl, .poll⟩ 300 [] ∧
      judgeReply ⟨.fl, .poll⟩ (List.replicate 12 7#8) = .bad ∧
      ((windowOpen ⟨.fl, .poll⟩ (stood 0 0)).bus.drives.get .fl).timeouts ≠ 2 ∧
      ((modDrive .fl (fun d => { d with timeouts := 2 }) (windowOpen ⟨.fl, .poll⟩ (stood 0 0))).bus.drives.get .fl).timeouts = 2 ∧
      (stood 0 0).sup.mode ≠ .safeHold ∧ (inMode .safeHold (stood 0 0)).sup.mode = .safeHold := by decide +kernel

end Sys2Proof.Tests
end

section
/-! SUPPORT. What follows a contact change report, and how a load sample is judged. `Calm` lets the class in force, the mode, the
timers and a running evaluation change, so the report's receivers are followed here by two narrower relations: `Steady` for what
changes no mode and no phase, `WatchKept` for what the supervision of support and a running evaluation rest on. -/

namespace Sys2Proof.Machine

/-- The inputs of an evaluation apart from its requests, which a withdrawal may take from it (R61; log 19). -/
def EvalInputs.withoutRequests (e : EvalInputs) : EvalInputs := { e with requests := [] }

/-- From `s` to `t` the feet, the support set, what an evaluation has read (but for withdrawn requests), the Mode Supervisor and the
phase of every leg are kept. -/
structure Steady (s t : State) : Prop where
  feet : t.feet = s.feet
  support : t.bal.support = s.bal.support
  evalPending : t.bal.evalPending = s.bal.evalPending
  eval : t.bal.eval.map EvalInputs.withoutRequests = s.bal.eval.map EvalInputs.withoutRequests
  sup : t.sup = s.sup
  phase : ∀ l, (t.legs.get l).phase = (s.legs.get l).phase

/-- From `s` to `t` the feet, the support set, what an evaluation has read (but for withdrawn requests) and the support-low flag are
kept, and with support held as restored the support-lost timer is not started (R48, R51, R150). -/
structure WatchKept (s t : State) : Prop where
  feet : t.feet = s.feet
  support : t.bal.support = s.bal.support
  evalPending : t.bal.evalPending = s.bal.evalPending
  eval : t.bal.eval.map EvalInputs.withoutRequests = s.bal.eval.map EvalInputs.withoutRequests
  supportLow : t.sup.supportLow = s.sup.supportLow
  supportLost : s.sup.supportLow = false → s.sup.supportLost = none → t.sup.supportLost = none

section

variable {s t u : State}

theorem Steady.refl (s : State) : Steady s s := ⟨rfl, rfl, rfl, rfl, rfl, fun _ => rfl⟩

theorem Steady.trans (h : Steady s t) (k : Steady t u) : Steady s u where
  feet := k.feet.trans h.feet
  support := k.support.trans h.support
  evalPending := k.evalPending.trans h.evalPending
  eval := k.eval.trans h.eval
  sup := k.sup.trans h.sup
  phase := fun l => (k.phase l).trans (h.phase l)

theorem WatchKept.refl (s : State) : WatchKept s s := ⟨rfl, rfl, rfl, rfl, rfl, fun _ h => h⟩

theorem WatchKept.trans (h : WatchKept s t) (k : WatchKept t u) : WatchKept s u where
  feet := k.feet.trans h.feet
  support := k.support.trans h.support
  evalPending := k.evalPending.trans h.evalPending
  eval := k.eval.trans h.eval
  supportLow := k.supportLow.trans h.supportLow
  supportLost := fun low lost => k.supportLost (h.supportLow.trans low) (h.supportLost low lost)

theorem Steady.watchKept (h : Steady s t) : WatchKept s t where
  feet := h.feet
  support := h.support
  evalPending := h.evalPending
  eval := h.eval
  supportLow := by rw [h.sup]
  supportLost := fun _ lost => by rw [h.sup, lost]

/-! ## Updates that keep mode and phases -/

theorem steady_setPlan (s : State) (p : Planner) : Steady s (s.setPlan p) := ⟨rfl, rfl, rfl, rfl, rfl, fun _ => rfl⟩

theorem steady_setBus (s : State) (b : Bus) : Steady s (s.setBus b) := ⟨rfl, rfl, rfl, rfl, rfl, fun _ => rfl⟩

theorem steady_setLink (s : State) (p : LinkPort) : Steady s (s.setLink p) := ⟨rfl, rfl, rfl, rfl, rfl, fun _ => rfl⟩

theorem steady_setEv (s : State) (e : EventUnit) : Steady s (s.setEv e) := ⟨rfl, rfl, rfl, rfl, rfl, fun _ => rfl⟩

theorem steady_setBal (s : State) (n : Nat) (b : Bool) (q : List SwingRequest) (p : Option Preshift) :
    Steady s (s.setBal { s.bal with below := n, braceOut := b, queue := q, preshift := p }) :=
  ⟨rfl, rfl, rfl, rfl, rfl, fun _ => rfl⟩

theorem steady_modLeg (l : Leg) (f : LegSeq → LegSeq) (s : State) (hf : ∀ q, (f q).phase = q.phase) :
    Steady s (modLeg l f s) := by
  refine ⟨rfl, rfl, rfl, rfl, rfl, fun m => ?_⟩
  rw [modLeg, State.setLegs_legs, Quad.get_set]
  split
  · subst m; exact hf _
  · rfl

theorem steady_forLegs {f : Leg → State → State} (hf : ∀ l s, Steady s (f l s)) (ls : List Leg) (s : State) :
    Steady s (forLegs f ls s) := by
  induction ls generalizing s with
  | nil => exact Steady.refl s
  | cons l rest ih => exact (hf l s).trans (ih (f l s))

theorem steady_raise (e : Event) (s : State) : Steady s (raise e s) := by
  unfold raise
  split
  · exact Steady.refl s
  · have h := steady_setEv s { s.ev with pending := s.ev.pending ||| onlyEvent e }
    dsimp only
    split
    · exact h
    · rcases requestNotice_cases (s.setEv { s.ev with pending := s.ev.pending ||| onlyEvent e }) with ⟨_, hn⟩ | ⟨_, hn⟩
      · rwa [hn]
      · rw [hn]; exact h.trans (steady_setLink _ _)

theorem steady_raiseIf (b : Bool) (e : Event) (s : State) : Steady s (if b then raise e s else s) := by
  cases b
  · exact Steady.refl s
  · exact steady_raise e s

theorem steady_bump (k : Counter) (s : State) : Steady s (bump k s) := steady_setEv s _

theorem steady_handover (l : Leg) (v : Vec3) (sp : Nat) (h : Bool) (s : State) : Steady s (handover l v sp h s) := by
  unfold handover
  split
  · exact Steady.refl s
  · split <;> exact steady_setBus s _

theorem steady_sendSetpoint (l : Leg) (v : Vec3) (sp : Nat) (s : State) : Steady s (sendSetpoint l v sp s) := by
  refine (steady_modLeg l _ s ?_).trans (steady_handover ..)
  exact fun _ => rfl

theorem steady_sendHold (l : Leg) (s : State) : Steady s (sendHold l s) := by
  refine (steady_modLeg l _ s ?_).trans (steady_handover ..)
  exact fun _ => rfl

theorem steady_modWindow (id : Nat) (f : WindowRecord → WindowRecord) (s : State) : Steady s (modWindow id f s) :=
  steady_setPlan s _

theorem steady_startShift (id : Nat) (d : Vec3) (s : State) : Steady s (startShift id d s) := by
  unfold startShift
  dsimp only
  refine Steady.trans ?_ (steady_setPlan _ _)
  refine Steady.trans ?_ (steady_forLegs (fun _ _ => steady_sendSetpoint ..) _ _)
  split
  · exact steady_modWindow id _ s
  · exact Steady.refl s

theorem steady_issueHead (r : PlanRecord) (rest : List PlanRecord) (s : State) : Steady s (issueHead r rest s) := by
  unfold issueHead
  dsimp only
  split
  · exact (steady_setPlan s _).trans (steady_startShift ..)
  · exact (steady_setPlan s _).trans (steady_setBal _ _ _ _ _)
  · exact (steady_setPlan s _).trans (steady_setBal _ _ _ _ _)

theorem steady_issueFrom (rs : List PlanRecord) (s : State) : Steady s (issueFrom rs s) := by
  induction rs generalizing s with
  | nil => exact Steady.refl s
  | cons r rest ih =>
    unfold issueFrom
    split
    · exact (steady_issueHead r rest s).trans (ih _)
    · exact Steady.refl s

theorem steady_issue (s : State) : Steady s (issue s) := steady_issueFrom _ s

/-- A withdrawal takes requests from a running evaluation and nothing else of it (R61; log 19). -/
theorem steady_removeRequests (ids : List Nat) (s : State) : Steady s (removeRequests ids s) := by
  refine ⟨rfl, rfl, rfl, ?_, rfl, fun _ => rfl⟩
  rw [removeRequests, State.setBal_bal, Option.map_map]
  rfl

theorem steady_stopPreshift (ids : List Nat) (s : State) : Steady s (stopPreshift ids s) := by
  unfold stopPreshift
  split
  · exact Steady.refl s
  · split
    · exact (steady_setBal s _ _ _ _).trans (steady_forLegs steady_sendHold _ _)
    · exact Steady.refl s

theorem steady_withdrawWaiting (s : State) : Steady s (withdrawWaiting s) :=
  ((steady_removeRequests _ s).trans (steady_stopPreshift _ _)).trans (steady_setPlan _ _)

theorem steady_pushLog (e : LogEntry) (s : State) : Steady s (pushLog e s) := by
  unfold pushLog
  split
  · exact (steady_setPlan s _).trans (steady_bump ..)
  · exact steady_setPlan s _

theorem steady_finishRecord (w : WindowRecord) (st : Status) (s : State) : Steady s (finishRecord w st s) := by
  unfold finishRecord
  dsimp only
  have logged := (steady_setPlan s
    { s.plan with
      window := s.plan.window.filter fun v => decide (v.body.id ≠ w.body.id)
      shiftTimer := if w.body.kind = .shift then none else s.plan.shiftTimer }).trans
    (steady_pushLog (logEntryOf w (finalStatus w st) s.ev.time) _)
  have notified := logged.trans (steady_raiseIf w.body.notify .stepDone _)
  split
  · exact notified
  · exact notified.trans (steady_bump ..)

theorem steady_markIfLimit (l : Leg) (s : State) : Steady s (markIfLimit l s) := by
  unfold markIfLimit
  dsimp only
  have h := steady_modLeg l (fun p => { p with clamped := true }) s fun _ => rfl
  split
  · split
    · exact h
    · exact h.trans (steady_modWindow ..)
  · exact Steady.refl s

/-! ## Updates that keep the supervision of support -/

theorem watchKept_setLegs (s : State) (q : Quad LegSeq) : WatchKept s (s.setLegs q) := ⟨rfl, rfl, rfl, rfl, rfl, fun _ h => h⟩

theorem watchKept_setSup (s : State) (m : Mode) (r : Option Nat) (p q : Bool) :
    WatchKept s (s.setSup { s.sup with mode := m, riseSettle := r, pendingSettle := p, silenceInRise := q }) :=
  ⟨rfl, rfl, rfl, rfl, rfl, fun _ lost => lost⟩

theorem watchKept_stopSupportLost (s : State) (r : Option Nat) :
    WatchKept s (s.setSup { s.sup with riseSettle := r, supportLost := none }) :=
  ⟨rfl, rfl, rfl, rfl, rfl, fun _ _ => rfl⟩

theorem watchKept_changeMode (m : Mode) (s : State) : WatchKept s (changeMode m s) := by
  unfold changeMode
  have moded := (watchKept_setSup s m s.sup.riseSettle (s.sup.pendingSettle && decide (m = .standing))
    s.sup.silenceInRise).trans (steady_raise .modeChange _).watchKept
  dsimp only
  split
  · unfold restartSilence
    split
    · exact moded.trans (steady_setLink _ _).watchKept
    · exact moded
  · exact moded.trans (steady_setLink _ _).watchKept

theorem watchKept_startSupportLost (s : State) : WatchKept s (startSupportLost s) := by
  unfold startSupportLost
  split
  case isTrue low => exact ⟨rfl, rfl, rfl, rfl, rfl, fun notLow => by rw [low] at notLow; cases notLow⟩
  case isFalse => exact WatchKept.refl s

theorem watchKept_enterSettling (s : State) : WatchKept s (enterSettling s) :=
  (((watchKept_changeMode .settling s).trans (watchKept_setLegs _ _)).trans
    (steady_forLegs (fun _ _ => steady_sendSetpoint ..) _ _).watchKept).trans (watchKept_stopSupportLost _ _)

theorem watchKept_settleTest (s : State) : WatchKept s (settleTest s) := by
  unfold settleTest
  split
  · exact (watchKept_setSup s _ _ _ _).trans (watchKept_enterSettling _)
  · exact WatchKept.refl s

theorem watchKept_phaseChanged (s : State) : WatchKept s (phaseChanged s) :=
  (steady_issue s).watchKept.trans (watchKept_settleTest _)

theorem watchKept_idleIfEmpty (s : State) : WatchKept s (idleIfEmpty s) := by
  unfold idleIfEmpty
  split
  · exact ((steady_setPlan s _).trans (steady_raise ..)).watchKept.trans (watchKept_settleTest _)
  · exact WatchKept.refl s

theorem watchKept_suspendIfEmpty (s : State) : WatchKept s (suspendIfEmpty s) := by
  unfold suspendIfEmpty
  split
  · exact ((steady_setPlan s _).trans (steady_raise ..)).watchKept.trans (watchKept_settleTest _)
  · exact WatchKept.refl s

theorem watchKept_drain (s : State) : WatchKept s (drain s) := by
  unfold drain
  split
  · exact ((steady_setPlan s _).trans (steady_withdrawWaiting _)).watchKept.trans (watchKept_suspendIfEmpty _)
  · exact WatchKept.refl s

theorem watchKept_completionActs (st : Status) (hold : Bool) (s : State) : WatchKept s (completionActs st hold s) := by
  unfold completionActs
  split
  · split
    · exact watchKept_drain s
    · exact (steady_issue s).watchKept.trans (watchKept_idleIfEmpty _)
  · split
    · exact watchKept_suspendIfEmpty s
    · exact WatchKept.refl s

theorem watchKept_completeRecord (id : Nat) (st : Status) (s : State) : WatchKept s (completeRecord id st s) := by
  unfold completeRecord
  split
  · exact WatchKept.refl s
  · exact (steady_finishRecord ..).watchKept.trans (watchKept_completionActs ..)

theorem watchKept_reportOutcome (l : Leg) (o : Outcome) (v : Option Vec3) (s : State) :
    WatchKept s (reportOutcome l o v s) := by
  unfold reportOutcome
  split
  · exact WatchKept.refl s
  · split
    · exact WatchKept.refl s
    · split
      · dsimp only
        split
        · exact (steady_modWindow ..).watchKept.trans (watchKept_completeRecord ..)
        · exact (steady_modWindow ..).watchKept
      · exact WatchKept.refl s

theorem watchKept_modLeg (l : Leg) (f : LegSeq → LegSeq) (s : State) : WatchKept s (modLeg l f s) := watchKept_setLegs s _

theorem watchKept_landCore (l : Leg) (s : State) : WatchKept s (landCore l s) := by
  unfold landCore
  dsimp only
  split
  · exact WatchKept.refl s
  · exact (((watchKept_modLeg ..).trans (steady_sendSetpoint ..).watchKept).trans (watchKept_reportOutcome ..)).trans
      (watchKept_modLeg ..)
  · exact watchKept_modLeg ..
  · exact ((watchKept_modLeg ..).trans (steady_sendSetpoint ..).watchKept).trans (watchKept_modLeg ..)

/-- LIFT ends without effect where no step is in progress; else the leg is put into SWING, sent its setpoint, and its change of phase
is reported (R96, R101). -/
theorem liftEnd_cases (l : Leg) (s : State) :
    liftEnd l s = s ∨ ∃ v t, (t.legs.get l).phase = .swing ∧ t.sup = s.sup ∧ WatchKept s t ∧
      liftEnd l s = phaseChanged (sendSetpoint l v s.gait.swingSpeed t) := by
  unfold liftEnd
  split
  · exact .inl rfl
  · have marked := steady_markIfLimit l s
    refine .inr ⟨_, startPhase l .swing s.gait.swingTimeout (markIfLimit l s), ?_, marked.sup,
      marked.watchKept.trans (watchKept_modLeg ..), rfl⟩
    simp [startPhase, modLeg]

theorem watchKept_liftEnd (l : Leg) (s : State) : WatchKept s (liftEnd l s) := by
  rcases liftEnd_cases l s with h | ⟨v, t, _, _, hw, h⟩
  · rw [h]; exact WatchKept.refl s
  · rw [h]; exact (hw.trans (steady_sendSetpoint ..).watchKept).trans (watchKept_phaseChanged _)

/-- What a contact change report does to its leg: nothing, the end of LIFT at AIR, or a landing at LOADED (R101, R103). -/
theorem seqContact_cases (l : Leg) (c : Contact) (s : State) :
    seqContact l c s = s ∨ c = .air ∧ seqContact l c s = liftEnd l s ∨ c = .loaded ∧ seqContact l c s = land l s := by
  unfold seqContact
  dsimp only
  split
  · exact .inl rfl
  · split
    · split
      case isTrue h => exact .inr (.inl ⟨h.2.2, rfl⟩)
      case isFalse => exact .inl rfl
    · split
      case isTrue h => exact .inr (.inr ⟨h, rfl⟩)
      case isFalse => exact .inl rfl
    all_goals exact .inl rfl

theorem watchKept_seqContact (l : Leg) (c : Contact) (s : State) : WatchKept s (seqContact l c s) := by
  rcases seqContact_cases l c s with h | ⟨_, h⟩ | ⟨_, h⟩ <;> rw [h]
  · exact WatchKept.refl s
  · exact watchKept_liftEnd l s
  · exact (watchKept_landCore l s).trans (watchKept_phaseChanged _)

theorem watchKept_setPendingSettle (s : State) : WatchKept s (setPendingSettle s) := by
  unfold setPendingSettle
  split
  · exact (watchKept_setSup s _ _ _ _).trans (watchKept_settleTest _)
  · exact WatchKept.refl s

theorem watchKept_applySilenceInRise (s : State) : WatchKept s (applySilenceInRise s) := by
  unfold applySilenceInRise
  split
  · exact ((watchKept_setSup s _ _ _ _).trans (watchKept_drain _)).trans (watchKept_setPendingSettle _)
  · exact WatchKept.refl s

theorem watchKept_riseTest (s : State) : WatchKept s (riseTest s) := by
  unfold riseTest
  split
  · exact (((((watchKept_setSup s _ _ _ _).trans (watchKept_changeMode ..)).trans
      (watchKept_setLegs _ _)).trans (watchKept_phaseChanged _)).trans (watchKept_startSupportLost _)).trans
      (watchKept_applySilenceInRise _)
  · exact WatchKept.refl s

/-! ## The Mode Supervisor at a report -/

/-- A pending settle waits while some leg is not in STANCE (R153). -/
theorem settleTest_of_phase {l : Leg} (h : (s.legs.get l).phase ≠ .stance) : settleTest s = s := by
  have unsettled : settleCondition s = false := by
    by_contra settled
    rw [Bool.not_eq_false, settleCondition, Bool.and_eq_true, Quad.all_iff] at settled
    exact h (of_decide_eq_true (settled.2 l))
  simp [settleTest, unsettled]

theorem liftEnd_sup (l : Leg) (s : State) : (liftEnd l s).sup = s.sup := by
  rcases liftEnd_cases l s with h | ⟨v, t, swing, hsup, _, h⟩
  · rw [h]
  · have sent := (steady_sendSetpoint l v s.gait.swingSpeed t).trans (steady_issue _)
    rw [h, phaseChanged, settleTest_of_phase (l := l) (by rw [sent.phase, swing]; decide), sent.sup, hsup]

theorem riseTest_of_mode (h : s.sup.mode ≠ .rising) : riseTest s = s := by simp [riseTest, riseDone, h]

/-- In STANDING a report other than LOADED, past the Balance Engine's share, leaves the Mode Supervisor as it is: no leg lands, a leg
that ends LIFT is not in STANCE, so a pending settle waits, and no rise completes. -/
theorem receivers_sup_of_standing {c : Contact} (hc : c ≠ .loaded) (l : Leg) (hm : s.sup.mode = .standing) :
    (riseTest (issue (seqContact l c s))).sup = s.sup := by
  have seq : (seqContact l c s).sup = s.sup := by
    rcases seqContact_cases l c s with h | ⟨_, h⟩ | ⟨h, _⟩
    · rw [h]
    · rw [h, liftEnd_sup]
    · exact absurd h hc
  have issued : (issue (seqContact l c s)).sup = s.sup := (steady_issue _).sup.trans seq
  rw [riseTest_of_mode (by rw [issued, hm]; decide), issued]

/-! ## The support set at a report -/

/-- The number of feet in a set does not rest on the order they are counted in. -/
theorem length_membersOf (q : Quad Bool) :
    (membersOf q).length = (([.fl, .fr, .rl, .rr] : List Leg).filter fun m => q.get m).length := by
  have order : polygonOrder.Perm [.fl, .fr, .rl, .rr] := by decide
  exact (order.filter _).length_eq

/-- A foot that joins does not lower the count. -/
theorem length_membersOf_le_set (q : Quad Bool) (l : Leg) : (membersOf q).length ≤ (membersOf (q.set l true)).length := by
  refine (List.monotone_filter_right polygonOrder fun m hm => ?_).length_le
  rw [Quad.get_set]
  split
  · rfl
  · exact hm

/-- The support set's share of a contact change report: the foot joins or leaves unless it is on that side already (R51). -/
def supportShare (l : Leg) (joins : Bool) (s : State) : State :=
  if s.bal.support.get l = joins then s else changeSupport l joins s

/-- Past the support set's share, the Balance Engine may only ask for a brace (R64). -/
theorem steady_balanceReport (l : Leg) (c : Contact) (s : State) :
    Steady (supportShare l (decide (c = .loaded)) s) (balanceReport l c s) := by
  have share : (if c = .loaded then if s.bal.support.get l then s else changeSupport l true s
      else if s.bal.support.get l then changeSupport l false s else s) = supportShare l (decide (c = .loaded)) s := by
    unfold supportShare
    by_cases hc : c = .loaded <;> cases s.bal.support.get l <;> simp [hc]
  unfold balanceReport
  dsimp only
  rw [share]
  split
  · exact (steady_setBal _ _ _ _ _).trans (steady_setBal _ _ _ _ _)
  · exact Steady.refl _

/-- A trigger begins an evaluation, or notes that one is wanted while one runs (R48). -/
theorem trigger_cases (s : State) :
    s.bal.eval = none ∧ trigger s = startEvaluation s ∨
      s.bal.eval.isSome = true ∧ trigger s = s.setBal { s.bal with evalPending := true } := by
  unfold trigger
  split
  case h_1 idle => exact .inl ⟨idle, rfl⟩
  case h_2 runs => exact .inr ⟨by rw [runs]; rfl, rfl⟩

theorem trigger_keeps (s : State) :
    (trigger s).bal.support = s.bal.support ∧ (trigger s).sup = s.sup ∧ (trigger s).feet = s.feet := by
  rcases trigger_cases s with ⟨-, h⟩ | ⟨-, h⟩ <;> rw [h] <;> exact ⟨rfl, rfl, rfl⟩

/-- The Mode Supervisor after the support-low message (R150). -/
theorem supportFallen_eq (s : State) :
    supportFallen s = s.setSup
      { s.sup with
        supportLow := true
        supportLost := if s.sup.mode = .standing then some s.balCfg.supportLost else s.sup.supportLost } := by
  unfold supportFallen
  by_cases h : s.sup.mode = .standing
  · simp only [State.setSup_sup, h, if_true, startSupportLost]
    rfl
  · simp only [h, if_false]

/-- The trigger that a foot which joins or leaves the support set gives, on the new set (R48, R51). -/
def triggeredBy (l : Leg) (joins : Bool) (s : State) : State :=
  trigger (s.setBal { s.bal with support := s.bal.support.set l joins })

theorem triggeredBy_keeps (l : Leg) (joins : Bool) (s : State) :
    (triggeredBy l joins s).bal.support = s.bal.support.set l joins ∧ (triggeredBy l joins s).sup = s.sup ∧
      (triggeredBy l joins s).feet = s.feet := trigger_keeps _

/-- After the trigger, the Mode Supervisor is told as the count passes two (R51). -/
theorem changeSupport_cases (l : Leg) (joins : Bool) (s : State) :
    let before := (membersOf s.bal.support).length
    let now := (membersOf (s.bal.support.set l joins)).length
    2 ≤ before ∧ now < 2 ∧ changeSupport l joins s = supportFallen (triggeredBy l joins s) ∨
      before < 2 ∧ 2 ≤ now ∧ changeSupport l joins s = supportRestored (triggeredBy l joins s) ∨
      (before < 2 ↔ now < 2) ∧ changeSupport l joins s = triggeredBy l joins s := by
  intro before now
  have branches : changeSupport l joins s =
      if 2 ≤ before ∧ supportCount (triggeredBy l joins s) < 2 then supportFallen (triggeredBy l joins s)
      else if before < 2 ∧ 2 ≤ supportCount (triggeredBy l joins s) then supportRestored (triggeredBy l joins s)
      else triggeredBy l joins s := rfl
  rw [branches, supportCount, (triggeredBy_keeps l joins s).1]
  split
  case isTrue fell => exact .inl ⟨fell.1, fell.2, rfl⟩
  case isFalse notFell =>
    split
    case isTrue rose => exact .inr (.inl ⟨rose.1, rose.2, rfl⟩)
    case isFalse notRose => exact .inr (.inr ⟨by omega, rfl⟩)

/-- The messages to the Mode Supervisor change neither what the trigger left in the Balance Engine, nor the feet, nor the mode. -/
theorem changeSupport_keeps (l : Leg) (joins : Bool) (s : State) :
    (changeSupport l joins s).bal = (triggeredBy l joins s).bal ∧ (changeSupport l joins s).feet = s.feet ∧
      (changeSupport l joins s).sup.mode = s.sup.mode := by
  obtain ⟨-, sup, feet⟩ := triggeredBy_keeps l joins s
  have mode : (triggeredBy l joins s).sup.mode = s.sup.mode := by rw [sup]
  rcases changeSupport_cases l joins s with ⟨-, -, h⟩ | ⟨-, -, h⟩ | ⟨-, h⟩ <;> rw [h]
  · rw [supportFallen_eq]
    exact ⟨rfl, feet, mode⟩
  · exact ⟨rfl, feet, mode⟩
  · exact ⟨rfl, feet, mode⟩

theorem supportFollows_changeSupport {l : Leg} {joins : Bool} (h : s.bal.support.get l ≠ joins) :
    SupportFollows l joins s (changeSupport l joins s) := by
  obtain ⟨support, sup, -⟩ := triggeredBy_keeps l joins s
  have bal := (changeSupport_keeps l joins s).1
  simp only [SupportFollows, ← length_membersOf, bal, support]
  refine ⟨trivial, fun same => absurd same h, fun _ => ⟨fun idle => ?_, fun runs => ?_, ?_⟩⟩
  · rcases trigger_cases (s.setBal { s.bal with support := s.bal.support.set l joins }) with ⟨-, began⟩ | ⟨runs, -⟩
    · rw [triggeredBy, began]
      exact ⟨_, rfl, rfl, rfl, rfl⟩
    · rw [State.setBal_bal, idle] at runs
      cases runs
  · rcases trigger_cases (s.setBal { s.bal with support := s.bal.support.set l joins }) with ⟨idle, -⟩ | ⟨-, noted⟩
    · rw [State.setBal_bal] at idle
      rw [idle] at runs
      cases runs
    · rw [triggeredBy, noted]
      rfl
  · rcases changeSupport_cases l joins s with ⟨was, is, h⟩ | ⟨was, is, h⟩ | ⟨same, h⟩ <;> rw [h]
    · rw [supportFallen_eq, State.setSup_sup, sup]
      refine ⟨fun _ _ => ⟨rfl, fun standing => ?_⟩, by omega, by omega⟩
      rw [if_pos standing]
      exact congrArg (some ·.supportLost) (quiet_trigger _).balCfg
    · exact ⟨by omega, fun _ _ => ⟨rfl, rfl⟩, by omega⟩
    · exact ⟨by omega, by omega, fun _ => by rw [sup]⟩

theorem supportFollows_supportShare (l : Leg) (joins : Bool) (s : State) :
    SupportFollows l joins s (supportShare l joins s) := by
  unfold supportShare
  split
  case isTrue same =>
    subst same
    exact ⟨(Quad.set_get_self _ _).symm, fun _ => ⟨rfl, rfl, rfl⟩, fun h => absurd rfl h⟩
  case isFalse other => exact supportFollows_changeSupport other

theorem supportShare_feet (l : Leg) (joins : Bool) (s : State) : (supportShare l joins s).feet = s.feet := by
  unfold supportShare
  split
  · rfl
  · exact (changeSupport_keeps l joins s).2.1

/-- What follows a support change lasts through all that keeps the supervision of support, if a timer started for a foot that
left is kept too. -/
theorem SupportFollows.trans_watchKept {l : Leg} {joins : Bool} (h : SupportFollows l joins s t) (k : WatchKept t u)
    (lost : joins = false → s.sup.mode = .standing → u.sup.supportLost = t.sup.supportLost) :
    SupportFollows l joins s u := by
  simp only [SupportFollows, ← length_membersOf, k.support, k.evalPending, k.supportLow] at h ⊢
  obtain ⟨support, same, other⟩ := h
  have evalSome : u.bal.eval.isSome = t.bal.eval.isSome := by
    simpa using congrArg Option.isSome k.eval
  refine ⟨support, fun hj => ?_, fun hj => ?_⟩
  · rw [evalSome]; exact same hj
  · obtain ⟨begins, runs, fell, rose, level⟩ := other hj
    refine ⟨fun idle => ?_, runs, fun was is => ?_, fun was is => ?_, level⟩
    · obtain ⟨e, he, supp, sample, pending⟩ := begins idle
      have read := k.eval
      rw [he, Option.map_some, Option.map_eq_some_iff] at read
      obtain ⟨e', he', eq⟩ := read
      have readSupport : e'.withoutRequests.support = e.withoutRequests.support := by rw [eq]
      have readSample : e'.withoutRequests.sample = e.withoutRequests.sample := by rw [eq]
      exact ⟨e', he', readSupport.trans supp, readSample.trans sample, pending⟩
    · have left : joins = false := by
        cases joins
        · rfl
        · have := length_membersOf_le_set s.bal.support l
          rw [support] at is
          omega
      exact ⟨(fell was is).1, fun standing => (lost left standing).trans ((fell was is).2 standing)⟩
    · obtain ⟨low, stopped⟩ := rose was is
      exact ⟨low, k.supportLost low stopped⟩

/-- Past the support set's share, all four receivers of a report keep the supervision of support (R29). -/
theorem watchKept_contactReport (l : Leg) (c : Contact) (s : State) :
    WatchKept (supportShare l (decide (c = .loaded)) s) (contactReport l c s) :=
  (((steady_balanceReport l c s).watchKept.trans (watchKept_seqContact l c _)).trans
    (steady_issue _).watchKept).trans (watchKept_riseTest _)

theorem contactReport_feet (l : Leg) (c : Contact) (s : State) : (contactReport l c s).feet = s.feet :=
  (watchKept_contactReport l c s).feet.trans (supportShare_feet ..)

theorem supportShare_mode (l : Leg) (joins : Bool) (s : State) : (supportShare l joins s).sup.mode = s.sup.mode := by
  unfold supportShare
  split
  · rfl
  · exact (changeSupport_keeps l joins s).2.2

/-- A contact change report moves its foot into or out of the support set, with the evaluation and the support-lost supervision that
follow (R48, R51, R150). -/
theorem supportFollows_contactReport (l : Leg) (c : Contact) (s : State) :
    SupportFollows l (decide (c = .loaded)) s (contactReport l c s) := by
  refine (supportFollows_supportShare l _ s).trans_watchKept (watchKept_contactReport l c s) fun left standing => ?_
  have share := (steady_balanceReport l c s).sup
  rw [contactReport, receivers_sup_of_standing (of_decide_eq_false left) l (by rw [share, supportShare_mode, standing]), share]

/-! ## A load sample -/

/-- The load of a duty, clamped (R18). -/
theorem loadOf_eq (duty : Nat) : loadOf duty = min 1600 (2 * (duty - 100)) := by
  unfold loadOf clampInt
  split
  · omega
  · split <;> omega

/-- How a completed period is classified (R18). -/
theorem classify_spec (high period : Nat) :
    (period < 800 ∨ 1250 < period → classify high period = .badPeriod) ∧
    (800 ≤ period → period ≤ 1250 →
      (high * 1000 / period < 50 → classify high period = .openCircuit) ∧
      (950 < high * 1000 / period → classify high period = .short) ∧
      (50 ≤ high * 1000 / period → high * 1000 / period ≤ 950 →
        classify high period = .valid (min 1600 (2 * (high * 1000 / period - 100))))) := by
  unfold classify dutyOf
  generalize high * 1000 / period = duty
  simp only [Config.periodMinUs, Config.periodMaxUs, Config.dutyMin, Config.dutyMax, loadOf_eq]
  refine ⟨fun bad => if_pos bad, fun least most => ?_⟩
  rw [if_neg (by omega)]
  refine ⟨fun h => if_pos h, fun h => ?_, fun h h' => ?_⟩
  · rw [if_neg (by omega), if_pos h]
  · rw [if_neg (by omega), if_neg (by omega)]

/-- The contact state machine judges a valid sample as the manual says (R20 to R23, R25). -/
theorem judgeSample_eq_sampledFoot (r : ClassRecord) (load : Nat) (f : Foot) : judgeSample r load f = sampledFoot r load f := by
  unfold judgeSample sampledFoot judgeAir judgeTouch
  cases f.contact <;> rfl

/-- A completed period with a valid load begins a new measurement, restarts the stale timer and takes its sample (R16, R17). -/
theorem loadSample_valid {l : Leg} {high : Option Nat} {period load : Nat}
    (measuring : (s.feet.get l).measurement = .measuring high) (valid : classify (high.getD period) period = .valid load) :
    loadSample l period s =
      takeValid l load (modFoot l (fun f => { f with measurement := .measuring none, stale := some 3 }) s) := by
  unfold loadSample
  rw [measuring]
  dsimp only
  rw [valid]
  rfl

/-- A valid sample judges its foot, and reports the contact state if that has changed (R19, R29). -/
theorem takeValid_eq (l : Leg) (load : Nat) (s : State) :
    let g := sampledFoot (recordInForce s l) load { s.feet.get l with lastLoad := load }
    takeValid l load s =
      if g.contact = (s.feet.get l).contact then s.setFeet (s.feet.set l g)
      else contactReport l g.contact (s.setFeet (s.feet.set l g)) := by
  unfold takeValid
  simp only [judgeSample_eq_sampledFoot, modFoot]

theorem takeValid_feet (l : Leg) (load : Nat) (s : State) :
    (takeValid l load s).feet =
      s.feet.set l (sampledFoot (recordInForce s l) load { s.feet.get l with lastLoad := load }) := by
  rw [takeValid_eq]
  dsimp only
  split
  · rfl
  · exact contactReport_feet ..

theorem takeValid_of_contact_eq {l : Leg} {load : Nat}
    (same : ((takeValid l load s).feet.get l).contact = (s.feet.get l).contact) :
    takeValid l load s = s.setFeet (takeValid l load s).feet := by
  rw [takeValid_feet, Quad.get_set_self] at same
  rw [takeValid_feet, takeValid_eq, if_pos same]

theorem takeValid_supportFollows {l : Leg} {load : Nat}
    (changed : ((takeValid l load s).feet.get l).contact ≠ (s.feet.get l).contact) :
    SupportFollows l (decide (((takeValid l load s).feet.get l).contact = .loaded)) s (takeValid l load s) := by
  rw [takeValid_feet, Quad.get_set_self] at changed ⊢
  rw [takeValid_eq, if_neg changed]
  exact supportFollows_contactReport l _ (s.setFeet _)

end

/-- Settles O24: the sample judges its foot, and only where that changes the contact state does a report follow, whose receivers
keep the feet and, past the support set's share, the supervision of support. -/
theorem validSampleMovesContact : Obligations.ValidSampleMovesContact := by
  unfold Obligations.ValidSampleMovesContact
  refine ⟨classify_spec, fun s l high period load measuring valid => ?_⟩
  let begun := modFoot l (fun f => { f with measurement := .measuring none, stale := some 3 }) s
  have foot : begun.feet.get l = { s.feet.get l with measurement := .measuring none, stale := some 3 } :=
    Quad.get_set_self ..
  have contact : (begun.feet.get l).contact = (s.feet.get l).contact := by rw [foot]
  have record : recordInForce begun l = s.surf.get (s.feet.get l).cls := by rw [recordInForce, foot]; rfl
  refine ⟨takeValid l load begun, congrArg Host.Outcome.next (loadSample_valid measuring valid), ?_, fun m hm => ?_,
    fun changed => ?_, fun same => ?_⟩
  · rw [takeValid_feet, Quad.get_set_self, record, foot]
  · rw [takeValid_feet, Quad.get_set_of_ne _ hm]
    exact Quad.get_set_of_ne _ hm _
  · exact takeValid_supportFollows (by rwa [contact])
  · rw [takeValid_of_contact_eq (same.trans contact.symm)]
    exact ⟨rfl, rfl⟩

end Sys2Proof.Machine
end

section
/-! MARGIN. The clamp, the integer root and the least and largest of a list as the manual's words have them, and from these the
stability margin, the required margin and the predicted set (R52 to R60). -/

namespace Sys2Proof.Machine

/-! ## Arithmetic -/

theorem clampInt_eq_max_min {lo hi : Int} (h : lo ≤ hi) (v : Int) : clampInt lo hi v = max lo (min hi v) := by
  unfold clampInt
  split
  · omega
  · split <;> omega

/-- With fuel for its argument the root is the floor of the true root: twice the root of a quarter, or one more. -/
theorem isqrtFuel_spec {fuel n : Nat} (h : n ≤ fuel) :
    isqrtFuel fuel n * isqrtFuel fuel n ≤ n ∧ n < (isqrtFuel fuel n + 1) * (isqrtFuel fuel n + 1) := by
  induction fuel generalizing n with
  | zero => simp [isqrtFuel, Nat.le_zero.mp h]
  | succ fuel ih =>
    by_cases zero : n = 0
    · simp [isqrtFuel, zero]
    · obtain ⟨below, above⟩ := ih (n := n / 4) (by omega)
      simp only [isqrtFuel, if_neg zero]
      generalize isqrtFuel fuel (n / 4) = r at below above
      have doubled : 2 * r * (2 * r) ≤ n := by
        have : 4 * (r * r) ≤ n := by omega
        linarith
      have next : n < (2 * r + 2) * (2 * r + 2) := by
        have : n < 4 * ((r + 1) * (r + 1)) := by omega
        linarith
      split
      case isTrue fits => exact ⟨fits, next⟩
      case isFalse exceeds => exact ⟨doubled, Nat.lt_of_not_le exceeds⟩

theorem isqrt_spec (n : Nat) : isqrt n * isqrt n ≤ n ∧ n < (isqrt n + 1) * (isqrt n + 1) := isqrtFuel_spec le_rfl

/-- The length of an edge is a whole number, the floor of the distance in the plane. -/
theorem edgeLength_spec (a b : Vec3) :
    ∃ n : Nat, edgeLength a b = n ∧ (n * n : Int) ≤ (b.x - a.x) * (b.x - a.x) + (b.y - a.y) * (b.y - a.y) ∧
      (b.x - a.x) * (b.x - a.x) + (b.y - a.y) * (b.y - a.y) < (n + 1) * (n + 1) := by
  refine ⟨isqrt _, rfl, ?_⟩
  have square : 0 ≤ (b.x - a.x) * (b.x - a.x) + (b.y - a.y) * (b.y - a.y) :=
    add_nonneg (mul_self_nonneg _) (mul_self_nonneg _)
  obtain ⟨n, hn⟩ := Int.eq_ofNat_of_zero_le square
  rw [hn, Int.toNat_natCast]
  exact_mod_cast isqrt_spec n

theorem sumInts_eq_sum (vs : List Int) : sumInts vs = vs.sum := List.sum_eq_foldr.symm

theorem leastOf_eq_min? (vs : List Int) : leastOf vs = vs.min? := by
  induction vs with
  | nil => rfl
  | cons v rest ih =>
    rw [leastOf, List.min?_cons, ih]
    cases rest.min? <;> rfl

theorem largestOf_spec {vs : List Int} (h : vs ≠ []) : largestOf vs ∈ vs ∧ ∀ v ∈ vs, v ≤ largestOf vs := by
  induction vs with
  | nil => exact absurd rfl h
  | cons v rest ih =>
    cases rest with
    | nil => simp [largestOf]
    | cons w rest =>
      obtain ⟨mem, le⟩ := ih (List.cons_ne_nil w rest)
      rw [largestOf]
      refine ⟨?_, fun u hu => ?_⟩
      · rcases max_choice v (largestOf (w :: rest)) with h | h <;> rw [h]
        · exact List.mem_cons_self
        · exact List.mem_cons_of_mem v mem
      · rcases List.mem_cons.mp hu with rfl | hu
        · exact le_max_left ..
        · exact (le u hu).trans (le_max_right ..)

/-! ## The margin -/

theorem lineMargin_of_short {a b : Vec3} (px py : Int) (h : edgeLength a b < 20) :
    lineMargin a b px py = ⟨-1000, true, false⟩ := if_pos h

theorem lineMargin_of_long {a b : Vec3} (px py : Int) (h : 20 ≤ edgeLength a b) :
    lineMargin a b px py =
      ⟨clampInt (-1000) 1000 (-(floorDiv ((crossValue a b px py).natAbs : Int) (edgeLength a b))), false, false⟩ :=
  if_neg (not_lt.mpr h)

/-- The margin of two feet at a length of 20 or more, in natural numbers (R56). -/
theorem lineMargin_eq_neg_min {a b : Vec3} {n : Nat} (px py : Int) (length : edgeLength a b = n) (h : 20 ≤ n) :
    lineMargin a b px py = ⟨-(min 1000 ((crossValue a b px py).natAbs / n) : Nat), false, false⟩ := by
  rw [lineMargin_of_long px py (by omega), length, floorDiv, Int.fdiv_eq_ediv_of_nonneg _ n.cast_nonneg,
    clampInt_eq_max_min (by decide), ← Int.natCast_ediv]
  generalize (crossValue a b px py).natAbs / n = m
  have : max (-1000) (min 1000 (-(m : Int))) = -(min 1000 m : Nat) := by omega
  rw [this]

/-- The edge distances of those edges that are not skipped (R55). -/
theorem filterMap_edgeDistance (px py : Int) (edges : List (Vec3 × Vec3)) :
    edges.filterMap (edgeDistance px py) =
      (edges.filter fun e => decide (20 ≤ edgeLength e.1 e.2)).map fun e =>
        (crossValue e.1 e.2 px py).fdiv (edgeLength e.1 e.2) := by
  induction edges with
  | nil => rfl
  | cons e rest ih =>
    by_cases short : edgeLength e.1 e.2 < 20
    · have skipped : edgeDistance px py e = none := if_pos short
      rw [List.filterMap_cons_none skipped, List.filter_cons_of_neg (by simpa using short), ih]
    · have kept : edgeDistance px py e = some ((crossValue e.1 e.2 px py).fdiv (edgeLength e.1 e.2)) := if_neg short
      rw [List.filterMap_cons_some kept, List.filter_cons_of_pos (by simpa using short), ih, List.map_cons]

/-- A polygon whose doubled area is not positive, or all of whose edges are skipped, is degenerate (R54, R55). -/
theorem polygonMargin_of_degenerate {pts : List Vec3} {px py : Int}
    (h : doubledArea pts ≤ 0 ∨ (edgesOf pts).filterMap (edgeDistance px py) = []) :
    polygonMargin pts px py = ⟨-1000, true, false⟩ := by
  unfold polygonMargin
  split
  case isTrue => rfl
  case isFalse area => rw [h.resolve_left area, leastOf]

/-- Any other polygon has the least of its edge distances, clamped (R55). -/
theorem polygonMargin_of_least {pts : List Vec3} {px py d : Int} (area : 0 < doubledArea pts)
    (least : leastOf ((edgesOf pts).filterMap (edgeDistance px py)) = some d) :
    polygonMargin pts px py = ⟨clampInt (-1000) 1000 d, false, false⟩ := by
  rw [polygonMargin, if_neg (not_le.mpr area), least]

/-- A margin is formed in three ways: of too few feet, of a degenerate set, or as a clamped value (R53 to R56). -/
theorem marginOf_cases (pts : List Vec3) (px py : Int) :
    pts.length < 2 ∧ marginOf pts px py = ⟨-1000, false, true⟩ ∨
      2 ≤ pts.length ∧ (marginOf pts px py = ⟨-1000, true, false⟩ ∨
        ∃ v, marginOf pts px py = ⟨clampInt (-1000) 1000 v, false, false⟩) := by
  match pts with
  | [] => exact .inl ⟨by simp, rfl⟩
  | [_] => exact .inl ⟨by simp, rfl⟩
  | [a, b] =>
    refine .inr ⟨by simp, ?_⟩
    rcases lt_or_ge (edgeLength a b) 20 with short | long
    · exact .inl (lineMargin_of_short px py short)
    · exact .inr ⟨_, lineMargin_of_long px py long⟩
  | a :: b :: c :: rest =>
    refine .inr ⟨by simp, ?_⟩
    rcases le_or_gt (doubledArea (a :: b :: c :: rest)) 0 with flat | area
    · exact .inl (polygonMargin_of_degenerate (.inl flat))
    · cases least : leastOf ((edgesOf (a :: b :: c :: rest)).filterMap (edgeDistance px py)) with
      | none =>
        rw [leastOf_eq_min?, List.min?_eq_none_iff] at least
        exact .inl (polygonMargin_of_degenerate (.inr least))
      | some d => exact .inr ⟨_, polygonMargin_of_least area least⟩

theorem marginOf_of_three_le {pts : List Vec3} (px py : Int) (h : 3 ≤ pts.length) :
    marginOf pts px py = polygonMargin pts px py := by
  match pts with
  | _ :: _ :: _ :: _ => rfl

/-- The edges lead from each corner to the next, and from the last to the first (R52). -/
theorem edgesOf_eq_zip (pts : List Vec3) : edgesOf pts = pts.zip (pts.tail ++ pts.take 1) := by
  cases pts <;> rfl

/-! ## The required margin and the predicted set -/

/-- The required margin of a set that is not empty is reached by a class of its legs, and by none exceeded (R58). -/
theorem largestOf_map_spec (f : Leg → Int) {legs : List Leg} (h : legs ≠ []) :
    (∃ l ∈ legs, largestOf (legs.map f) = f l) ∧ ∀ l ∈ legs, f l ≤ largestOf (legs.map f) := by
  obtain ⟨mem, le⟩ := largestOf_spec (vs := legs.map f) (by simpa using h)
  obtain ⟨l, hl, reached⟩ := List.mem_map.mp mem
  exact ⟨⟨l, hl, reached.symm⟩, fun m hm => le _ (List.mem_map_of_mem hm)⟩

/-- The stale penalty is all that is added to the largest margin (R59). -/
theorem requiredMargin_sub_penalty (e : EvalInputs) (set : List Leg) :
    requiredMargin e set - (if e.stale then e.balCfg.stalePenalty else 0) =
      if 3 ≤ set.length then largestOf (set.map fun l => (e.surf.get (e.classes.get l)).margin34)
      else if set.length = 2 then largestOf (set.map fun l => (e.surf.get (e.classes.get l)).margin2)
      else largestOf (legsInOrder.map fun l => (e.surf.get (e.classes.get l)).margin34) := by
  unfold requiredMargin
  cases e.stale
  · exact sub_zero _
  · exact add_sub_cancel_right ..

theorem Phase.airborne_eq_decide (p : Phase) : p.airborne = decide (p ∈ ([.lift, .swing, .reach] : List Phase)) := by
  cases p <;> rfl

theorem predictedSet_eq_filter (e : EvalInputs) (granted named : List Leg) :
    predictedSet e granted named = polygonOrder.filter fun l =>
      e.support.get l && decide (l ∉ named) && !(decide (e.phases.get l ∈ ([.lift, .swing, .reach] : List Phase))) &&
        decide (l ∉ granted) := by
  unfold predictedSet membersOf
  rw [List.filter_filter]
  refine List.filter_congr fun l _ => ?_
  simp only [Phase.airborne_eq_decide, List.contains_eq_mem, decide_not, Bool.and_assoc, Bool.and_comm (e.support.get l)]

theorem passesOnMargin_iff (e : EvalInputs) (granted named : List Leg) :
    passesOnMargin e granted named = true ↔
      requiredMargin e (predictedSet e granted named) ≤
        (marginOf ((predictedSet e granted named).map fun l => e.feet.get l) (pressurePoint e).1 (pressurePoint e).2).margin :=
  decide_eq_true_iff

theorem airborneCount_eq (e : EvalInputs) (granted named : List Leg) :
    airborneCount e granted named =
      (legsInOrder.filter fun l => decide (e.phases.get l ∈ ([.lift, .swing, .reach] : List Phase))).length +
        granted.length + named.length := by
  simp only [airborneCount, Phase.airborne_eq_decide]

/-- Settles O32: each clause from the case of its margin, and the required margin from the largest of its list. -/
theorem marginRules : Obligations.MarginRules := by
  unfold Obligations.MarginRules
  refine ⟨fun a b px py => ?_, fun pts px py => ?_, fun pts px py three => ?_, fun e set granted named => ?_⟩
  · obtain ⟨n, length, below, above⟩ := edgeLength_spec a b
    refine ⟨n, below, above, fun short => lineMargin_of_short px py (by omega), fun long =>
      ⟨_, lineMargin_eq_neg_min px py length long, Nat.div_mul_le_self _ _, ?_⟩⟩
    rw [Nat.succ_mul]
    exact Nat.lt_div_mul_add (by omega)
  · rcases marginOf_cases pts px py with ⟨few, h⟩ | ⟨enough, h | ⟨v, h⟩⟩ <;> rw [h]
    · simp [few]
    · simp [Nat.not_lt.mpr enough]
    · simp [Nat.not_lt.mpr enough, clampInt_eq_max_min]
  · intro edges area cross size distances
    have hdist : (edgesOf pts).filterMap (edgeDistance px py) = distances := by
      rw [filterMap_edgeDistance, edgesOf_eq_zip]
      rfl
    have harea : doubledArea pts = area := by
      rw [doubledArea, sumInts_eq_sum, edgesOf_eq_zip]
    rw [marginOf_of_three_le px py three]
    refine ⟨fun degenerate => polygonMargin_of_degenerate (by rwa [harea, hdist]), fun positive d hd least => ?_⟩
    rw [← clampInt_eq_max_min (by decide)]
    refine polygonMargin_of_least (by rwa [harea]) ?_
    rw [hdist, leastOf_eq_min?, List.min?_eq_some_iff]
    exact ⟨hd, least⟩
  · intro base largest airborne predicted p
    have hbase : base = _ := requiredMargin_sub_penalty e set
    have hpred : predictedSet e granted named = predicted := predictedSet_eq_filter e granted named
    refine ⟨fun three => ?_, fun two => ?_, fun few => ?_, hpred, ?_, airborneCount_eq e granted named⟩
    · rw [if_pos three] at hbase
      simp only [largest, hbase]
      exact largestOf_map_spec _ (List.ne_nil_of_length_pos (by omega))
    · rw [if_neg (by omega), if_pos two] at hbase
      simp only [largest, hbase]
      exact largestOf_map_spec _ (List.ne_nil_of_length_pos (by omega))
    · rw [if_neg (by omega), if_neg (by omega)] at hbase
      simp only [largest, hbase]
      exact largestOf_map_spec _ (List.cons_ne_nil _ _)
    · rw [← hpred]
      exact passesOnMargin_iff e granted named

end Sys2Proof.Machine
end

section
/-! CLEAR_HOLD. What an event, a mode change and the tests that follow a phase change leave of a state in which no plan runs and no
settle is pending; from these the whole next state of an accepted CLEAR_HOLD (R149). -/

namespace Sys2Proof.Machine

/-! ## Taking a request -/

/-- A request that is taken is carried out on the state it leaves, and its reply is queued (R161). -/
theorem serve_of_taking {wanted : Frame → Bool} {carryOut : Frame → State → Answer} {s : State} {f : Frame} {rest : List Frame}
    (taking : Taking s f rest) (hw : wanted f = true) :
    serve wanted carryOut s = queueReply f (carryOut f (s.setLink { s.link with buffer := rest })) := by
  obtain ⟨buffer, room, noReset⟩ := taking
  refine serve_eq buffer ?_ hw
  simp [mayTake, repliesWaiting, Config.replyRoom, room, noReset]

/-- A refusal leaves only its reply, in place of the request (R163). -/
theorem queueReply_refuse (f : Frame) (rest : List Frame) (r : Result) (s : State) :
    queueReply f (refuse r (s.setLink { s.link with buffer := rest })) = s.replied rest (replyTo f r []) := by
  simp [queueReply_eq, refuse, replyTo, State.replied, State.setLink]

/-- An answer OK without data leaves the state it answers with, and its reply (R163). -/
theorem queueReply_okWith (f : Frame) (s : State) :
    queueReply f (okWith [] s) = s.setLink { s.link with tx := s.link.tx ++ [.reply (replyTo f .ok []) false] } := by
  simp [queueReply_eq, okWith, replyTo]

/-! ## Events and modes -/

/-- Raising an event sets its flag and may queue a notice: nothing else changes (R169). -/
theorem raise_eq (e : Event) (s : State) :
    ∃ es tx, hasEvent es e = true ∧
      raise e s = (s.setEv { s.ev with pending := es }).setLink { s.link with tx := tx } := by
  have pending := raise_pending e s
  suffices h : ∃ es tx, raise e s = (s.setEv { s.ev with pending := es }).setLink { s.link with tx := tx } by
    obtain ⟨es, tx, h⟩ := h
    rw [h] at pending
    exact ⟨es, tx, pending, h⟩
  unfold raise
  split
  · exact ⟨s.ev.pending, s.link.tx, rfl⟩
  · refine ⟨s.ev.pending ||| onlyEvent e, ?_⟩
    dsimp only
    split
    · exact ⟨s.link.tx, rfl⟩
    · rcases requestNotice_cases (s.setEv { s.ev with pending := s.ev.pending ||| onlyEvent e }) with ⟨_, hn⟩ | ⟨_, hn⟩
      · exact ⟨s.link.tx, hn⟩
      · exact ⟨_, hn⟩

/-- Entering STANDING raises MODE_CHANGE and starts the silence timer where it has a limit (R142, R152). -/
theorem changeMode_standing_eq (s : State) :
    ∃ es tx, hasEvent es .modeChange = true ∧
      changeMode .standing s =
        ((s.setSup { s.sup with mode := .standing }).setEv { s.ev with pending := es }).setLink
          { s.link with
            tx := tx
            silence := if s.sup.silenceLimit ≠ 0 then some s.sup.silenceLimit else s.link.silence } := by
  obtain ⟨es, tx, raised, h⟩ := raise_eq .modeChange (s.setSup { s.sup with mode := .standing })
  refine ⟨es, tx, raised, ?_⟩
  have moded :
      s.setSup
          { s.sup with
            mode := .standing
            pendingSettle := s.sup.pendingSettle && decide (Mode.standing = .standing) } =
        s.setSup { s.sup with mode := .standing } := by
    simp
  rw [changeMode, moded, h]
  by_cases limit : s.sup.silenceLimit = 0
  · simp [restartSilence, silenceMode, limit]
  · simp [restartSilence, silenceMode, limit, State.setLink]

/-! ## A change of phase -/

/-- Nothing is issued unless the plan is ACTIVE (R76). -/
theorem issue_of_not_planRuns {s : State} (h : planRuns s = false) : issue s = s := by
  have inactive : s.plan.state ≠ .active := fun active => by simp [planRuns, active] at h
  unfold issue issueFrom
  split
  · rfl
  · simp [canIssue, inactive]

theorem settleTest_of_not_pending {s : State} (h : s.sup.pendingSettle = false) : settleTest s = s := by
  simp [settleTest, h]

theorem phaseChanged_eq_self {s : State} (plan : planRuns s = false) (settle : s.sup.pendingSettle = false) :
    phaseChanged s = s := by
  rw [phaseChanged, issue_of_not_planRuns plan, settleTest_of_not_pending settle]

/-- In SAFE_HOLD no plan runs. -/
theorem HoldsStill.not_planRuns {s : State} (still : HoldsStill s) (held : s.sup.mode = .safeHold) : planRuns s = false := by
  obtain ⟨stands, -, -⟩ := still
  by_contra runs
  have standing := stands (by simpa using runs)
  rw [held] at standing
  cases standing

/-! ## CLEAR_HOLD -/

theorem Drive.isLost_iff (d : Drive) : d.isLost = true ↔ 3 ≤ d.timeouts := by
  rw [Drive.isLost, decide_eq_true_iff, Drive.link, Config.lostCount]
  split
  case isTrue answered => simp [answered]
  case isFalse =>
    split
    case isTrue few => simpa using few
    case isFalse many => simpa using many

theorem Drive.reportsFault_iff (d : Drive) : d.reportsFault = true ↔ ∃ r, d.last = some r ∧ r.state = .fault := by
  unfold Drive.reportsFault
  split
  case h_1 none => simp [none]
  case h_2 r last => simp [last]

theorem holdClearable_iff (s : State) :
    holdClearable s = true ↔
      (∀ l, (s.bus.drives.get l).timeouts < 3 ∧ (s.feet.get l).contact = .loaded ∧
        ∀ r, (s.bus.drives.get l).last = some r → r.state ≠ .fault) ∧ s.bal.held.required ≤ s.bal.held.margin := by
  simp only [holdClearable, marginMet, Bool.and_eq_true, Bool.not_eq_true', Bool.eq_false_iff, ne_eq, Quad.any_iff,
    Quad.all_iff, Drive.isLost_iff, Drive.reportsFault_iff, decide_eq_true_iff, not_exists, not_and, not_le, forall_and,
    and_assoc]
  tauto

/-- An accepted CLEAR_HOLD changes modes, phases and timers, and issues and settles nothing, for in SAFE_HOLD no plan runs and no
settle is pending (R98, R149, R152). -/
theorem clearHold_eq {s : State} (still : HoldsStill s) (held : s.sup.mode = .safeHold) :
    ∃ es tx, hasEvent es .modeChange = true ∧
      clearHold s =
        (((s.setLegs (s.legs.map (LegSeq.settled .stance))).setSup
              { s.sup with
                mode := .standing
                supportLost := if s.sup.supportLow then some s.balCfg.supportLost else none }).setEv
            { s.ev with pending := es }).setLink
          { s.link with
            tx := tx
            silence := if s.sup.silenceLimit ≠ 0 then some s.sup.silenceLimit else none } := by
  have plan := still.not_planRuns held
  obtain ⟨-, -, stopped⟩ := still
  obtain ⟨-, -, -, lost, settle, -, silence⟩ := stopped held
  obtain ⟨es, tx, raised, h⟩ := changeMode_standing_eq s
  refine ⟨es, tx, raised, ?_⟩
  have unmoved : phaseChanged (setAllPhases .stance (changeMode .standing s)) =
      setAllPhases .stance (changeMode .standing s) := by
    rw [h]
    exact phaseChanged_eq_self plan settle
  rw [clearHold, unmoved, h, silence]
  cases low : s.sup.supportLow with
  | false =>
    rw [startSupportLost, if_neg (by simpa [setAllPhases] using low), if_neg Bool.false_ne_true, ← lost]
    rfl
  | true =>
    rw [startSupportLost, if_pos (by simpa [setAllPhases] using low), if_pos rfl]
    rfl

/-- What CLEAR_HOLD answers, by mode and by its four conditions (R149). -/
theorem exec_clearHold {s : State} {f : Frame} {rest : List Frame} (taking : Taking s f rest) (kind : f.kind = 0x22#8)
    (payload : f.payload = []) :
    exec .clearHold s =
      .next (if s.sup.mode = .safeHold then
          if holdClearable s then queueReply f (okWith [] (clearHold (s.setLink { s.link with buffer := rest })))
          else s.replied rest (replyTo f .notSettled [])
        else s.replied rest (replyTo f .wrongMode [])) := by
  have taken := serve_of_taking (wanted := isKind 0x22#8) (carryOut := answerClearHold) taking (by simp [isKind, kind])
  refine congrArg Host.Outcome.next (taken.trans ?_)
  have clearable : holdClearable (s.setLink { s.link with buffer := rest }) = holdClearable s := rfl
  rw [answerClearHold, withLen, payload, if_pos List.length_nil, clearable, State.setLink_sup]
  split
  · split
    · rfl
    · exact queueReply_refuse ..
  · exact queueReply_refuse ..

/-- Settles O53: each answer by its branch, and the state of the accepted request read off its whole next state. -/
theorem clearHoldStands : Obligations.ClearHoldStands := by
  unfold Obligations.ClearHoldStands
  intro s f rest taking kind payload still clear
  have clearable : holdClearable s = true ↔ clear := holdClearable_iff s
  rw [exec_clearHold taking kind payload]
  refine ⟨fun other => by rw [if_neg other], fun held fails => ?_, fun held clears => ?_⟩
  · rw [if_pos held, if_neg (fails ∘ clearable.mp)]
  · let taken := s.setLink { s.link with buffer := rest }
    have takenStill : HoldsStill taken := still
    obtain ⟨es, tx, raised, h⟩ := clearHold_eq takenStill held
    rw [if_pos held, if_pos (clearable.mpr clears), h, queueReply_okWith]
    refine ⟨_, rfl, List.getLast?_concat, rfl, raised, fun l => ?leg, ?low, ?notLow, ?limit, ?frame⟩
    case leg => simp [taken, LegSeq.settled]
    case low => exact fun low => if_pos low
    case notLow => exact fun notLow => if_neg (by simp [taken, notLow])
    case limit => exact fun limit => if_pos limit
    case frame => simp [taken]

end Sys2Proof.Machine
end

section
/-! EVENT UNIT REQUESTS. What a taken request leaves of the answer it is given, and which event sets a payload names and a mask
unmasks; from these the next states of the six requests on the Event Unit (R170, R171, R173, R175). -/

namespace Sys2Proof.Machine

/-! ## Taking a request -/

/-- A taken request that is no RESET FULL leaves the state of its answer, with its reply in place of the request (R161, R163). -/
theorem serve_eq_replied {k : Byte} {carryOut : Frame → State → Answer} {s t : State} {f : Frame} {rest : List Frame}
    {r : Result} {data : List Byte} (taking : Taking s f rest) (kind : f.kind = k)
    (carried : carryOut f (s.setLink { s.link with buffer := rest }) =
      ⟨r, data, t.setLink { t.link with buffer := rest }, false⟩) :
    serve (isKind k) carryOut s = t.replied rest (replyTo f r data) := by
  rw [serve_of_taking taking (by simp [isKind, kind]), carried]
  simp [queueReply_eq, replyTo, State.replied, State.setLink]

theorem withLen_of_length {n : Nat} {f : Frame} (h : f.payload.length = n) (s : State) (a : Answer) : withLen n f s a = a :=
  if_pos h

/-! ## Event sets -/

/-- An event set is named by two bytes, and refused when a bit above the twelfth is set (R170, R171, R176). -/
theorem decodeEventSet_pair (lo hi : Byte) :
    decodeEventSet [lo, hi] = if hi.toNat < 16 then some (BitVec.ofNat 12 (lo.toNat + 256 * hi.toNat)) else none := by
  have field : u16At [lo, hi] 0 = lo.toNat + 256 * hi.toNat := rfl
  have fits : lo.toNat + 256 * hi.toNat < 2 ^ 12 ↔ hi.toNat < 16 := by
    have := lo.isLt
    omega
  simp only [decodeEventSet, field, fits]

theorem Event.exists_index_eq {i : Nat} (h : i < 12) : ∃ e : Event, e.index = i := by
  interval_cases i
  exacts [⟨.stepDone, rfl⟩, ⟨.planIdle, rfl⟩, ⟨.planSuspended, rfl⟩, ⟨.brace, rfl⟩, ⟨.slip, rfl⟩, ⟨.snag, rfl⟩,
    ⟨.missed, rfl⟩, ⟨.driveFault, rfl⟩, ⟨.sensorFault, rfl⟩, ⟨.linkError, rfl⟩, ⟨.modeChange, rfl⟩, ⟨.silence, rfl⟩]

/-- A set of event kinds is empty where it names no kind: each of its twelve bits is some kind's. -/
theorem eventSet_eq_zero_iff (es : EventSet) : es = 0 ↔ ∀ e, hasEvent es e = false := by
  constructor
  · rintro rfl e
    simp [hasEvent]
  · intro unnamed
    refine BitVec.eq_of_getLsbD_eq fun i hi => ?_
    obtain ⟨e, rfl⟩ := Event.exists_index_eq hi
    simpa [hasEvent] using unnamed e

@[simp] theorem hasEvent_and (es fs : EventSet) (e : Event) : hasEvent (es &&& fs) e = (hasEvent es e && hasEvent fs e) :=
  BitVec.getLsbD_and

@[simp] theorem hasEvent_not (es : EventSet) (e : Event) : hasEvent (~~~es) e = !hasEvent es e := by
  simp [hasEvent, e.index_lt]

theorem any_isNotice_iff (tx : List TxItem) : tx.any TxItem.isNotice = true ↔ .notice ∈ tx := by
  rw [List.any_eq_true]
  constructor
  · rintro ⟨_ | _, mem, notice⟩
    · cases notice
    · exact mem
  · exact fun mem => ⟨_, mem, rfl⟩

/-! ## EVENT_MASK -/

/-- The new mask unmasks a pending kind, and no notice waits for it to merge into (R169, R170). -/
def UnmaskNotifies (mask : EventSet) (s : State) : Prop :=
  (∃ e, hasEvent s.ev.mask e = true ∧ hasEvent mask e = false ∧ hasEvent s.ev.pending e = true) ∧ .notice ∉ s.link.tx

theorem newlyUnmasked_eq_zero_iff (mask : EventSet) (s : State) :
    s.ev.mask &&& ~~~mask &&& s.ev.pending = 0 ↔
      ¬ ∃ e, hasEvent s.ev.mask e = true ∧ hasEvent mask e = false ∧ hasEvent s.ev.pending e = true := by
  rw [eventSet_eq_zero_iff]
  simp

theorem replaceMask_of_notifies {mask : EventSet} {s : State} (h : UnmaskNotifies mask s) :
    replaceMask mask s =
      (s.setEv { s.ev with mask := mask }).setLink { s.link with tx := s.link.tx ++ [.notice] } := by
  obtain ⟨unmasked, noNotice⟩ := h
  rw [replaceMask, if_neg (fun zero => (newlyUnmasked_eq_zero_iff mask s).mp zero unmasked)]
  exact if_neg (noNotice ∘ (any_isNotice_iff _).mp)

theorem replaceMask_of_not_notifies {mask : EventSet} {s : State} (h : ¬ UnmaskNotifies mask s) :
    replaceMask mask s = s.setEv { s.ev with mask := mask } := by
  rw [replaceMask]
  split
  case isTrue => rfl
  case isFalse unmasks =>
    have waits : .notice ∈ s.link.tx := by
      by_contra noNotice
      exact unmasks ((newlyUnmasked_eq_zero_iff mask s).mpr fun unmasked => h ⟨unmasked, noNotice⟩)
    exact if_pos ((any_isNotice_iff _).mpr waits)

theorem replaceMask_ev (mask : EventSet) (s : State) : (replaceMask mask s).ev = { s.ev with mask := mask } := by
  by_cases h : UnmaskNotifies mask s
  · rw [replaceMask_of_notifies h]; rfl
  · rw [replaceMask_of_not_notifies h]; rfl

/-- A new mask does not look at the receive buffer. -/
theorem replaceMask_setBuffer (mask : EventSet) (s : State) (rest : List Frame) :
    replaceMask mask (s.setLink { s.link with buffer := rest }) =
      (replaceMask mask s).setLink { (replaceMask mask s).link with buffer := rest } := by
  by_cases h : UnmaskNotifies mask s
  · rw [replaceMask_of_notifies h, replaceMask_of_notifies (s := s.setLink { s.link with buffer := rest }) h]; rfl
  · rw [replaceMask_of_not_notifies h, replaceMask_of_not_notifies (s := s.setLink { s.link with buffer := rest }) h]; rfl

section
variable {s : State} {f : Frame} {rest : List Frame} {lo hi : Byte}

theorem exec_eventMask (taking : Taking s f rest) (kind : f.kind = 0x40#8) (payload : f.payload = [lo, hi])
    (named : hi.toNat < 16) :
    let mask : EventSet := BitVec.ofNat 12 (lo.toNat + 256 * hi.toNat)
    exec .eventMask s =
      .next ((replaceMask mask s).replied rest (replyTo f .ok (put16 mask.toNat ++ put16 s.ev.pending.toNat))) := by
  refine congrArg Host.Outcome.next (serve_eq_replied taking kind ?_)
  rw [answerEventMask, withLen_of_length (by simp [payload]), payload, decodeEventSet_pair, if_pos named]
  simp only [okWith, eventSetBytes, replaceMask_ev, replaceMask_setBuffer, State.setLink_ev]

theorem exec_eventMask_of_reserved (taking : Taking s f rest) (kind : f.kind = 0x40#8) (payload : f.payload = [lo, hi])
    (reserved : 16 ≤ hi.toNat) : exec .eventMask s = .next (s.replied rest (replyTo f .badValue [])) := by
  refine congrArg Host.Outcome.next (serve_eq_replied taking kind ?_)
  rw [answerEventMask, withLen_of_length (by simp [payload]), payload, decodeEventSet_pair, if_neg reserved.not_gt]
  rfl

/-! ## EVENT_ACK -/

theorem exec_eventAck (taking : Taking s f rest) (kind : f.kind = 0x41#8) (payload : f.payload = [lo, hi])
    (named : hi.toNat < 16) :
    let left : EventSet := s.ev.pending &&& ~~~BitVec.ofNat 12 (lo.toNat + 256 * hi.toNat)
    exec .eventAck s =
      .next ((s.setEv { s.ev with pending := left }).replied rest (replyTo f .ok (put16 left.toNat))) := by
  refine congrArg Host.Outcome.next (serve_eq_replied taking kind ?_)
  rw [answerEventAck, withLen_of_length (by simp [payload]), payload, decodeEventSet_pair, if_pos named]
  rfl

theorem exec_eventAck_of_reserved (taking : Taking s f rest) (kind : f.kind = 0x41#8) (payload : f.payload = [lo, hi])
    (reserved : 16 ≤ hi.toNat) : exec .eventAck s = .next (s.replied rest (replyTo f .badValue [])) := by
  refine congrArg Host.Outcome.next (serve_eq_replied taking kind ?_)
  rw [answerEventAck, withLen_of_length (by simp [payload]), payload, decodeEventSet_pair, if_neg reserved.not_gt]
  rfl

/-! ## The fault record and the counters -/

theorem exec_faultRead (taking : Taking s f rest) (kind : f.kind = 0x42#8) (payload : f.payload = []) :
    exec .faultRead s = .next (s.replied rest (replyTo f .ok (faultBlock s))) :=
  congrArg Host.Outcome.next (serve_eq_replied taking kind (withLen_of_length (by simp [payload]) ..))

/-- The reply carries the record as it stood before the clearing (R173). -/
theorem exec_faultClear (taking : Taking s f rest) (kind : f.kind = 0x43#8) (payload : f.payload = []) :
    exec .faultClear s =
      .next ((s.setEv { s.ev with fault := none, overflow := false }).replied rest (replyTo f .ok (faultBlock s))) :=
  congrArg Host.Outcome.next (serve_eq_replied taking kind (withLen_of_length (by simp [payload]) ..))

theorem exec_countersRead (taking : Taking s f rest) (kind : f.kind = 0x44#8) (payload : f.payload = []) :
    exec .countersRead s = .next (s.replied rest (replyTo f .ok (counterBlock s.ev.counters))) :=
  congrArg Host.Outcome.next (serve_eq_replied taking kind (withLen_of_length (by simp [payload]) ..))

/-- The reply carries the counters as they stood before they were set to 0 (R175). -/
theorem exec_countersReadClear (taking : Taking s f rest) (kind : f.kind = 0x45#8) (payload : f.payload = []) :
    exec .countersReadClear s =
      .next ((s.setEv { s.ev with counters := Counters.zero }).replied rest
        (replyTo f .ok (counterBlock s.ev.counters))) :=
  congrArg Host.Outcome.next (serve_eq_replied taking kind (withLen_of_length (by simp [payload]) ..))

end

/-- Settles O7: each request by its next state; EVENT_MASK's by whether the new mask asks for a notice. -/
theorem eventUnitRequests : Obligations.EventUnitRequests := by
  unfold Obligations.EventUnitRequests
  intro s f rest taking
  refine ⟨fun kind lo hi payload named => ⟨?notice, ?noNotice⟩, fun kind _ _ => exec_eventAck taking kind,
    fun kind _ _ => exec_eventMask_of_reserved taking kind, fun kind _ _ => exec_eventAck_of_reserved taking kind,
    exec_faultRead taking, exec_faultClear taking, exec_countersRead taking, exec_countersReadClear taking⟩
  case notice =>
    intro notice
    rw [exec_eventMask taking kind payload named, replaceMask_of_notifies notice]
    simp [State.replied, State.setLink]
  case noNotice =>
    intro noNotice
    rw [exec_eventMask taking kind payload named, replaceMask_of_not_notifies noNotice]

end Sys2Proof.Machine
end

section
/-! WHAT A COMMAND CAN DO. `Served` says once what the carrying out of a request can make of the state, `Done` what any command can
make of it: the inversion of `exec`, from which every claim about all commands is proved. -/

namespace Sys2Proof.Machine

/-! ## Requests -/

/-- What the carrying out of a request of each command can leave: the state as it was, or with the one effect of an accepted
request. -/
inductive Served : Instr → State → State → Prop
  | unchanged (c : Instr) (s : State) : Served c s s
  | geometry {s : State} {g : Geometry} (parked : s.sup.mode = .parked) (ok : geometryOk g = true) :
      Served .setGeometry s (s.setGeo g)
  | surface {s : State} {k : SurfaceClass} {r : ClassRecord} (parked : s.sup.mode = .parked) (ok : classRecordOk r = true) :
      Served .setSurface s (s.setSurf (s.surf.set k r))
  | balance {s : State} {b : BalanceCfg} (parked : s.sup.mode = .parked) (ok : balanceCfgOk b = true) :
      Served .setBalance s (s.setBalCfg b)
  | gait {s : State} {g : GaitCfg} (parked : s.sup.mode = .parked) (ok : gaitCfgOk g = true) :
      Served .setGait s (s.setGait g)
  | supervision {s : State} {limit : Nat} {p : Policy} (ok : limit = 0 ∨ 50 ≤ limit ∧ limit ≤ 5000)
      (latched : ¬ (s.sup.latch = true ∧ p = .suspend)) : Served .setSupervision s (takeSupervision limit p s)
  | stand {s : State} {k : SurfaceClass} (parked : s.sup.mode = .parked) : Served .stand s (standUp k s)
  | sit {s : State} (sits : s.sup.mode = .standing ∧ planRuns s = false ∨ s.sup.mode = .safeHold) :
      Served .sit s (enterSettling s)
  | clearHold {s : State} (held : s.sup.mode = .safeHold) : Served .clearHold s (clearHold s)
  | motion {c : Instr} {s : State} (parked : s.sup.mode = .parked) : Served c s (motionReset s)
  | append {s : State} {rs : List PlanRecord} (fresh : hasDuplicate s rs = false)
      (room : s.plan.list.length + s.plan.window.length + rs.length ≤ Config.planRoom) :
      Served .planAppend s (appendRecords rs s)
  | activate {c : Instr} {s : State} (standing : s.sup.mode = .standing) (inactive : s.plan.state ≠ .active) :
      Served c s (activate s)
  | drain {s : State} : Served .planSuspend s (drain s)
  | cut {c : Instr} {s : State} {kept : List PlanRecord} (ahead : kept <+: s.plan.list) :
      Served c s (idleIfEmpty (setPlanList kept s))
  | report {s : State} : Served .planReport s (s.setPlan { s.plan with log := s.plan.log.drop Config.reportMax })
  | mask {s : State} {m : EventSet} : Served .eventMask s (replaceMask m s)
  | ack {s : State} {m : EventSet} : Served .eventAck s (s.setEv { s.ev with pending := s.ev.pending &&& ~~~m })
  | clearFault {s : State} : Served .faultClear s (s.setEv { s.ev with fault := none, overflow := false })
  | clearCounters {s : State} : Served .countersReadClear s (s.setEv { s.ev with counters := Counters.zero })

/-- A request of the wrong length leaves the state as it was (R162). -/
theorem served_withLen {c : Instr} {n : Nat} {f : Frame} {s : State} {a : Answer} (h : Served c s a.state) :
    Served c s (withLen n f s a).state := by
  unfold withLen
  split
  · exact h
  · exact .unchanged c s

theorem served_withPlanLen {c : Instr} {n : Nat} {f : Frame} {s : State} {a : Answer} (h : Served c s a.state) :
    Served c s (withPlanLen n f s a).state := by
  unfold withPlanLen
  split
  · exact h
  · exact .unchanged c s

section
variable (f : Frame) (s : State)

theorem served_setGeometry : Served .setGeometry s (answerSetGeometry f s).state := by
  refine served_withLen ?_
  split
  case isTrue parked =>
    unfold decodeGeometry
    dsimp only
    split
    case h_1 => exact .unchanged ..
    case h_2 g decoded =>
      split at decoded
      case isTrue ok => cases decoded; exact .geometry parked ok.2
      case isFalse => cases decoded
  case isFalse => exact .unchanged ..

theorem served_setSurface : Served .setSurface s (answerSetSurface f s).state := by
  refine served_withLen ?_
  split
  case isTrue parked =>
    unfold decodeSurface
    dsimp only
    split
    case h_1 => exact .unchanged ..
    case h_2 k r decoded =>
      split at decoded
      case h_1 => cases decoded
      case h_2 =>
        split at decoded
        case isTrue ok => cases decoded; exact .surface parked ok
        case isFalse => cases decoded
  case isFalse => exact .unchanged ..

theorem served_setBalance : Served .setBalance s (answerSetBalance f s).state := by
  refine served_withLen ?_
  split
  case isTrue parked =>
    unfold decodeBalanceCfg
    dsimp only
    split
    case h_1 => exact .unchanged ..
    case h_2 b decoded =>
      split at decoded
      case isTrue ok => cases decoded; exact .balance parked ok
      case isFalse => cases decoded
  case isFalse => exact .unchanged ..

theorem served_setGait : Served .setGait s (answerSetGait f s).state := by
  refine served_withLen ?_
  split
  case isTrue parked =>
    unfold decodeGaitCfg
    dsimp only
    split
    case h_1 => exact .unchanged ..
    case h_2 g decoded =>
      split at decoded
      case isTrue ok => cases decoded; exact .gait parked ok
      case isFalse => cases decoded
  case isFalse => exact .unchanged ..

theorem served_setSupervision : Served .setSupervision s (answerSetSupervision f s).state := by
  refine served_withLen ?_
  unfold decodeSupervision
  dsimp only
  split
  case h_1 => exact .unchanged ..
  case h_2 limit p decoded =>
    split at decoded
    case h_1 => cases decoded
    case h_2 =>
      split at decoded
      case isTrue ok =>
        cases decoded
        exact .supervision (by simpa [inRangeN] using ok.1) ok.2
      case isFalse => cases decoded

theorem served_stand : Served .stand s (answerStand f s).state := by
  refine served_withLen ?_
  split
  case isTrue parked =>
    split
    · exact .unchanged ..
    · exact .stand parked
  case isFalse => exact .unchanged ..

theorem served_sit : Served .sit s (answerSit f s).state := by
  refine served_withLen ?_
  split
  case h_4 standing =>
    split
    case isTrue => exact .unchanged ..
    case isFalse sits =>
      rw [not_or] at sits
      exact .sit (.inl ⟨standing, by simpa using sits.1⟩)
  case h_5 held =>
    split
    · exact .unchanged ..
    · exact .sit (.inr held)
  all_goals exact .unchanged ..

theorem served_clearHold : Served .clearHold s (answerClearHold f s).state := by
  refine served_withLen ?_
  split
  case isTrue held =>
    split
    · exact .clearHold held
    · exact .unchanged ..
  case isFalse => exact .unchanged ..

theorem served_reset (c : Instr) : Served c s (answerReset f s).state := by
  refine served_withLen ?_
  split
  case h_1 => exact .unchanged ..
  case h_2 =>
    split
    case isTrue parked => exact .motion parked
    case isFalse => exact .unchanged ..
  case h_3 => exact .unchanged ..

theorem served_planAppend : Served .planAppend s (answerPlanAppend f s).state := by
  unfold answerPlanAppend
  dsimp only
  split
  case isFalse => exact .unchanged ..
  case isTrue =>
    split
    · exact .unchanged ..
    · split
      · exact .unchanged ..
      · split
        · exact .unchanged ..
        case h_2.isFalse fresh =>
          split
          · exact .unchanged ..
          case isFalse room => exact .append (by simpa using fresh) (by omega)

theorem served_planStart : Served .planStart s (answerPlanStart f s).state := by
  refine served_withPlanLen ?_
  split
  case isTrue standing =>
    split
    case isTrue idle => exact .activate standing (by rw [idle]; decide)
    case isFalse => exact .unchanged ..
  case isFalse => exact .unchanged ..

theorem served_planResume : Served .planResume s (answerPlanResume f s).state := by
  refine served_withPlanLen ?_
  split
  case isFalse => exact .unchanged ..
  case isTrue standing =>
    split
    case h_1 draining => exact .activate standing (by rw [draining]; decide)
    case h_2 suspended => exact .activate standing (by rw [suspended]; decide)
    case h_3 braced =>
      split
      · exact .activate standing (by rw [braced]; decide)
      · exact .unchanged ..
    all_goals exact .unchanged ..

theorem served_planCancel : Served .planCancel s (answerPlanCancel f s).state := by
  refine served_withPlanLen ?_
  dsimp only
  split
  · exact .unchanged ..
  · split
    · exact .unchanged ..
    · exact .cut (List.takeWhile_prefix _)

theorem served_eventMask : Served .eventMask s (answerEventMask f s).state := by
  refine served_withLen ?_
  split
  · exact .unchanged ..
  · exact .mask

theorem served_eventAck : Served .eventAck s (answerEventAck f s).state := by
  refine served_withLen ?_
  split
  · exact .unchanged ..
  · exact .ack

end

/-! ## Commands -/

/-- What a command can make of a state. A request command serves the head frame of the receive buffer where it is there to be taken,
and queues its reply (R161); every other command is its own operation. -/
inductive Done : Instr → State → State → Prop
  | untaken {c : Instr} {s : State} (request : ∃ g, takes c g = true) (absent : ∀ f rest, Taking s f rest → takes c f = false) : Done c s s
  | taken {c : Instr} {s t : State} {f : Frame} {rest : List Frame} {r : Result} {data : List Byte} {full : Bool}
      (taking : Taking s f rest) (wanted : takes c f = true)
      (served : Served c (s.setLink { s.link with buffer := rest }) t) :
      Done c s (t.setLink
        { t.link with
          tx := t.link.tx ++ [.reply (replyTo f r data) full], resetTaken := t.link.resetTaken || full })
  | powerOnReset (a b i : Bool) (s : State) : Done (.powerOnReset a b i) s (powerOnValues (rateOf a b) i s)
  | timeBaseTick (s : State) : Done .timeBaseTick s (tick s)
  | linkByte (b : Byte) (e : Bool) (s : State) : Done (.linkByte b e) s (linkByte b e s)
  | gapTimerExpiry (s : State) : Done .gapTimerExpiry s (gapTimerExpiry s)
  | frameSendStart (s : State) : Done .frameSendStart s (frameSendStart s)
  | frameSendEnd (s : State) : Done .frameSendEnd s (frameSendEnd s)
  | silenceExpiry (s : State) : Done .silenceExpiry s (silenceExpiry s)
  | loadSample (l : Leg) (n : Nat) (s : State) : Done (.loadSample l n) s (loadSample l n s)
  | loadStale (l : Leg) (s : State) : Done (.loadStale l) s (loadStale l s)
  | slipPulse (l : Leg) (s : State) : Done (.slipPulse l) s (slipPulse l s)
  | attitudeReadStart (s : State) : Done .attitudeReadStart s (attitudeReadStart s)
  | attitudeReadDone (x y z : Half) (v : Bool) (s : State) :
      Done (.attitudeReadDone x y z v) s (attitudeReadDone x y z v s)
  | attitudeReadTimeout (s : State) : Done .attitudeReadTimeout s (attitudeReadTimeout s)
  | attitudeStaleExpiry (s : State) : Done .attitudeStaleExpiry s (attitudeStaleExpiry s)
  | attitudeLost (s : State) : Done .attitudeLost s (attitudeLost s)
  | evaluationComplete (s : State) : Done .evaluationComplete s (evaluationComplete s)
  | braceTaken (s : State) : Done .braceTaken s (braceTaken s)
  | preshiftTimeout (s : State) : Done .preshiftTimeout s (preshiftTimeout s)
  | shiftTimeout (s : State) : Done .shiftTimeout s (shiftTimeout s)
  | phaseTimerExpiry (l : Leg) (s : State) : Done (.phaseTimerExpiry l) s (phaseTimerExpiry l s)
  | driveTransactionSend (s : State) : Done .driveTransactionSend s (driveTransactionSend s)
  | driveRequestSent (s : State) : Done .driveRequestSent s (driveRequestSent s)
  | driveReply (bs : List Byte) (s : State) : Done (.driveReply bs) s (driveReply bs s)
  | driveReplyTimeout (s : State) : Done .driveReplyTimeout s (driveReplyTimeout s)
  | guardEnd (s : State) : Done .guardEnd s (guardEnd s)
  | pollTimerExpiry (l : Leg) (s : State) : Done (.pollTimerExpiry l) s (pollTimerExpiry l s)
  | riseSettleTimeout (s : State) : Done .riseSettleTimeout s (riseSettleTimeout s)
  | supportLost (s : State) : Done .supportLost s (supportLostExpiry s)
  | loadFallingEdge (l : Leg) (n : Nat) (s : State) : Done (.loadFallingEdge l n) s (loadFallingEdge l n s)

/-- The Link Port takes a request exactly where the buffer's head may be taken (R161). -/
theorem taking_iff {s : State} {f : Frame} {rest : List Frame} :
    Taking s f rest ↔ s.link.buffer = f :: rest ∧ mayTake s = true := by
  rw [Taking, mayTake, repliesWaiting, Config.replyRoom, Bool.and_eq_true, decide_eq_true_iff, Bool.not_eq_true']

/-- A request command does what `Done` says, given what its carrying out can leave. -/
theorem done_serve {c : Instr} {wanted : Frame → Bool} {carryOut : Frame → State → Answer} (s : State)
    (g : Frame) (request : takes c g = true) (same : ∀ f, wanted f = takes c f) (served : ∀ f s, Served c s (carryOut f s).state) :
    Done c s (serve wanted carryOut s) := by
  unfold serve
  split
  case h_1 empty =>
    refine .untaken ⟨g, request⟩ fun f rest taking => ?_
    rw [(taking_iff.mp taking).1] at empty
    cases empty
  case h_2 f rest buffer =>
    split
    case isTrue takes =>
      exact .taken (taking_iff.mpr ⟨buffer, takes.1⟩) ((same f).symm.trans takes.2) (served f _)
    case isFalse not =>
      refine .untaken ⟨g, request⟩ fun f' rest' taking => ?_
      obtain ⟨buffer', may⟩ := taking_iff.mp taking
      rw [buffer] at buffer'
      cases buffer'
      rw [← same]
      simpa [may] using not

/-- A RESET frame spells a scope whole exactly where its payload is that one byte (log 3). -/
theorem isResetBut_eq (scope : Byte) (f : Frame) :
    isResetBut scope.toNat f = decide (f.kind = 0x23#8 ∧ f.payload ≠ [scope]) := by
  have whole : f.payload.length = 1 ∧ u8At f.payload 0 = scope.toNat ↔ f.payload = [scope] := by
    rcases f.payload with _ | ⟨b, _ | ⟨c, rest⟩⟩
    · simp
    · simp [u8At, BitVec.toNat_inj]
    · simp
  rw [isResetBut, isKind, ← Bool.decide_and, ← decide_not, ← Bool.decide_and]
  exact decide_eq_decide.mpr (and_congr_right fun _ => not_congr whole)

/-- Every command completes, and `Done` says what it can leave. -/
theorem exec_done (c : Instr) (s : State) : ∃ t, exec c s = .next t ∧ Done c s t := by
  cases c
  case powerOnReset a b i => exact ⟨_, rfl, .powerOnReset ..⟩
  case timeBaseTick => exact ⟨_, rfl, .timeBaseTick s⟩
  case linkByte b e => exact ⟨_, rfl, .linkByte ..⟩
  case gapTimerExpiry => exact ⟨_, rfl, .gapTimerExpiry s⟩
  case requestUnknownKind => exact ⟨_, rfl, done_serve s ⟨0x00#8, 0#8, []⟩ rfl (fun _ => rfl) fun _ s => .unchanged _ s⟩
  case ping => exact ⟨_, rfl, done_serve s ⟨0x01#8, 0#8, []⟩ rfl (fun _ => rfl) fun _ s => served_withLen (.unchanged _ s)⟩
  case status => exact ⟨_, rfl, done_serve s ⟨0x02#8, 0#8, []⟩ rfl (fun _ => rfl) fun _ s => served_withLen (.unchanged _ s)⟩
  case setGeometry => exact ⟨_, rfl, done_serve s ⟨0x10#8, 0#8, []⟩ rfl (fun _ => rfl) served_setGeometry⟩
  case setSurface => exact ⟨_, rfl, done_serve s ⟨0x11#8, 0#8, []⟩ rfl (fun _ => rfl) served_setSurface⟩
  case setBalance => exact ⟨_, rfl, done_serve s ⟨0x12#8, 0#8, []⟩ rfl (fun _ => rfl) served_setBalance⟩
  case setGait => exact ⟨_, rfl, done_serve s ⟨0x13#8, 0#8, []⟩ rfl (fun _ => rfl) served_setGait⟩
  case setSupervision => exact ⟨_, rfl, done_serve s ⟨0x14#8, 0#8, []⟩ rfl (fun _ => rfl) served_setSupervision⟩
  case stand => exact ⟨_, rfl, done_serve s ⟨0x20#8, 0#8, []⟩ rfl (fun _ => rfl) served_stand⟩
  case sit => exact ⟨_, rfl, done_serve s ⟨0x21#8, 0#8, []⟩ rfl (fun _ => rfl) served_sit⟩
  case clearHold => exact ⟨_, rfl, done_serve s ⟨0x22#8, 0#8, []⟩ rfl (fun _ => rfl) served_clearHold⟩
  case resetFull => exact ⟨_, rfl, done_serve s ⟨0x23#8, 0#8, []⟩ rfl (isResetBut_eq 1#8) fun f s => served_reset f s _⟩
  case resetMotion => exact ⟨_, rfl, done_serve s ⟨0x23#8, 0#8, []⟩ rfl (isResetBut_eq 0#8) fun f s => served_reset f s _⟩
  case planAppend => exact ⟨_, rfl, done_serve s ⟨0x30#8, 0#8, []⟩ rfl (fun _ => rfl) served_planAppend⟩
  case planStart => exact ⟨_, rfl, done_serve s ⟨0x31#8, 0#8, []⟩ rfl (fun _ => rfl) served_planStart⟩
  case planSuspend => exact ⟨_, rfl, done_serve s ⟨0x32#8, 0#8, []⟩ rfl (fun _ => rfl) fun _ _ => served_withPlanLen .drain⟩
  case planResume => exact ⟨_, rfl, done_serve s ⟨0x33#8, 0#8, []⟩ rfl (fun _ => rfl) served_planResume⟩
  case planCancel => exact ⟨_, rfl, done_serve s ⟨0x34#8, 0#8, []⟩ rfl (fun _ => rfl) served_planCancel⟩
  case planFlush =>
    exact ⟨_, rfl, done_serve s ⟨0x35#8, 0#8, []⟩ rfl (fun _ => rfl) fun _ _ => served_withPlanLen (.cut List.nil_prefix)⟩
  case planReport => exact ⟨_, rfl, done_serve s ⟨0x36#8, 0#8, []⟩ rfl (fun _ => rfl) fun _ _ => served_withPlanLen .report⟩
  case eventMask => exact ⟨_, rfl, done_serve s ⟨0x40#8, 0#8, []⟩ rfl (fun _ => rfl) served_eventMask⟩
  case eventAck => exact ⟨_, rfl, done_serve s ⟨0x41#8, 0#8, []⟩ rfl (fun _ => rfl) served_eventAck⟩
  case faultRead => exact ⟨_, rfl, done_serve s ⟨0x42#8, 0#8, []⟩ rfl (fun _ => rfl) fun _ s => served_withLen (.unchanged _ s)⟩
  case faultClear => exact ⟨_, rfl, done_serve s ⟨0x43#8, 0#8, []⟩ rfl (fun _ => rfl) fun _ _ => served_withLen .clearFault⟩
  case countersRead => exact ⟨_, rfl, done_serve s ⟨0x44#8, 0#8, []⟩ rfl (fun _ => rfl) fun _ s => served_withLen (.unchanged _ s)⟩
  case countersReadClear => exact ⟨_, rfl, done_serve s ⟨0x45#8, 0#8, []⟩ rfl (fun _ => rfl) fun _ _ => served_withLen .clearCounters⟩
  case frameSendStart => exact ⟨_, rfl, .frameSendStart s⟩
  case frameSendEnd => exact ⟨_, rfl, .frameSendEnd s⟩
  case silenceExpiry => exact ⟨_, rfl, .silenceExpiry s⟩
  case loadSample l n => exact ⟨_, rfl, .loadSample l n s⟩
  case loadStale l => exact ⟨_, rfl, .loadStale l s⟩
  case slipPulse l => exact ⟨_, rfl, .slipPulse l s⟩
  case attitudeReadStart => exact ⟨_, rfl, .attitudeReadStart s⟩
  case attitudeReadDone x y z v => exact ⟨_, rfl, .attitudeReadDone x y z v s⟩
  case attitudeReadTimeout => exact ⟨_, rfl, .attitudeReadTimeout s⟩
  case attitudeStaleExpiry => exact ⟨_, rfl, .attitudeStaleExpiry s⟩
  case attitudeLost => exact ⟨_, rfl, .attitudeLost s⟩
  case evaluationComplete => exact ⟨_, rfl, .evaluationComplete s⟩
  case braceTaken => exact ⟨_, rfl, .braceTaken s⟩
  case preshiftTimeout => exact ⟨_, rfl, .preshiftTimeout s⟩
  case shiftTimeout => exact ⟨_, rfl, .shiftTimeout s⟩
  case phaseTimerExpiry l => exact ⟨_, rfl, .phaseTimerExpiry l s⟩
  case driveTransactionSend => exact ⟨_, rfl, .driveTransactionSend s⟩
  case driveRequestSent => exact ⟨_, rfl, .driveRequestSent s⟩
  case driveReply bs => exact ⟨_, rfl, .driveReply bs s⟩
  case driveReplyTimeout => exact ⟨_, rfl, .driveReplyTimeout s⟩
  case guardEnd => exact ⟨_, rfl, .guardEnd s⟩
  case pollTimerExpiry l => exact ⟨_, rfl, .pollTimerExpiry l s⟩
  case riseSettleTimeout => exact ⟨_, rfl, .riseSettleTimeout s⟩
  case supportLost => exact ⟨_, rfl, .supportLost s⟩
  case loadFallingEdge l n => exact ⟨_, rfl, .loadFallingEdge l n s⟩

theorem done_of_exec {c : Instr} {s t : State} (h : exec c s = .next t) : Done c s t := by
  obtain ⟨u, executed, done⟩ := exec_done c s
  rw [h] at executed
  cases executed
  exact done

/-- A step idles, or does the command at the front on the state with the queue's rest (log 11). -/
theorem step_cases {s t : State} (h : step s = .next t) :
    t = s ∨ ∃ c rest, s.pending = c :: rest ∧ Done c (s.setPending rest) t := by
  unfold step at h
  split at h
  case h_1 => cases h; exact .inl rfl
  case h_2 c rest pending => exact .inr ⟨c, rest, pending, done_of_exec h⟩

/-- An invariant that does not look at the waiting commands is kept by a step where every command keeps it. -/
theorem step_keeps {P : State → Prop} (queue : ∀ s q, P s → P (s.setPending q))
    (done : ∀ c s t, P s → Done c s t → P t) {s t : State} (held : P s) (h : step s = .next t) : P t := by
  rcases step_cases h with rfl | ⟨c, rest, -, did⟩
  · exact held
  · exact done c _ _ (queue s rest held) did

end Sys2Proof.Machine
end

section
/-! BESIDE THE RECORDS. `Beside` is `Quiet` without what the Attitude Port, the Contact Monitor and the bus line hold for themselves:
what a command of these three may change beside them. -/

namespace Sys2Proof.Machine

theorem Quad.set_set {α : Type} (q : Quad α) (l : Leg) (a b : α) : (q.set l a).set l b = q.set l b := by
  cases l <;> rfl

theorem State.setFeet_setFeet (s : State) (f g : Quad Foot) : (s.setFeet f).setFeet g = s.setFeet g := rfl

/-- `t` differs from `s` only as `Quiet` allows, or in the Attitude Port, the feet, the bus line and the drives. -/
structure Beside (s t : State) : Prop where
  geo : t.geo = s.geo
  surf : t.surf = s.surf
  balCfg : t.balCfg = s.balCfg
  gait : t.gait = s.gait
  pending : t.pending = s.pending
  silenceLimit : t.sup.silenceLimit = s.sup.silenceLimit
  policy : t.sup.policy = s.sup.policy
  latch : t.sup.latch = s.sup.latch
  linkRate : t.sup.linkRate = s.sup.linkRate
  imuFlip : t.sup.imuFlip = s.sup.imuFlip
  received : t.link.held = s.link.held
  gap : t.link.gap = s.link.gap
  buffer : t.link.buffer = s.link.buffer
  replies : repliesOf t.link.tx = repliesOf s.link.tx
  notices : noticesIn s.link.tx ≤ 1 → noticesIn t.link.tx ≤ 1
  time : t.ev.time = s.ev.time
  mask : t.ev.mask = s.ev.mask
  flags : ∀ e, hasEvent s.ev.pending e = true → hasEvent t.ev.pending e = true
  fault : ∀ r, s.ev.fault = some r → t.ev.fault = some r
  overflowFault : OverflowNeedsFault s → OverflowNeedsFault t

section
variable {s t u : State}

theorem Quiet.beside (h : Quiet s t) : Beside s t :=
  ⟨h.geo, h.surf, h.balCfg, h.gait, h.pending, h.silenceLimit, h.policy, h.latch, h.linkRate, h.imuFlip, h.received, h.gap,
    h.buffer, h.replies, h.notices, h.time, h.mask, h.flags, h.fault, h.overflowFault⟩

theorem Calm.beside (h : Calm s t) : Beside s t := h.quiet.beside

theorem Beside.refl (s : State) : Beside s s := (Quiet.refl s).beside

theorem Beside.trans (h : Beside s t) (k : Beside t u) : Beside s u where
  geo := k.geo.trans h.geo
  surf := k.surf.trans h.surf
  balCfg := k.balCfg.trans h.balCfg
  gait := k.gait.trans h.gait
  pending := k.pending.trans h.pending
  silenceLimit := k.silenceLimit.trans h.silenceLimit
  policy := k.policy.trans h.policy
  latch := k.latch.trans h.latch
  linkRate := k.linkRate.trans h.linkRate
  imuFlip := k.imuFlip.trans h.imuFlip
  received := k.received.trans h.received
  gap := k.gap.trans h.gap
  buffer := k.buffer.trans h.buffer
  replies := k.replies.trans h.replies
  notices := fun few => k.notices (h.notices few)
  time := k.time.trans h.time
  mask := k.mask.trans h.mask
  flags := fun e he => k.flags e (h.flags e he)
  fault := fun r hr => k.fault r (h.fault r hr)
  overflowFault := fun held => k.overflowFault (h.overflowFault held)

/-! ## What the blocks do -/

/-- What a valid, an invalid or no sample, a slip pulse or an edge makes of a foot (R16 to R26). -/
inductive NextFoot (r : ClassRecord) (g : Foot) : Foot → Prop
  | edge (m : Measurement) (timer : Option Nat) : NextFoot r g { g with measurement := m, stale := timer }
  | stillFault (m : Measurement) (timer : Option Nat) :
      NextFoot r g { g with lastLoad := 0, measurement := m, stale := timer }
  | fault (m : Measurement) (timer : Option Nat) :
      NextFoot r g
        { g with contact := .fault, qualify := 0, slip := 0, lastLoad := 0, measurement := m, stale := timer }
  | sample {load : Nat} (most : load ≤ 1600) (m : Measurement) (timer : Option Nat) :
      NextFoot r g (sampledFoot r load { g with lastLoad := load, measurement := m, stale := timer })
  | pulse (loaded : g.contact = .loaded) (few : g.slip + 1 ≤ 2 * r.slipLimit) : NextFoot r g { g with slip := g.slip + 1 }
  | slips (loaded : g.contact = .loaded) : NextFoot r g { g with contact := .slipping, slip := g.slip + 1 }

/-- What the commands do that are neither a request nor the tick nor one of the Link Port nor a reset: what the blocks do among
themselves, a new state of the Attitude Port or the bus, an evaluation begun or completed, and a foot judged anew, reported where
its contact state changes. -/
inductive Works : State → State → Prop
  | calm {s t : State} (h : Calm s t) : Works s t
  | att (s : State) (a : Attitude) (sample : a.sample = s.att.sample ∨ ∃ flip x y z, a.sample = intake flip x y z) :
      Works s (s.setAtt a)
  | bus (s : State) (b : Bus) : Works s (s.setBus b)
  | bal (s : State) (b : Balance) (support : b.support = s.bal.support) : Works s (s.setBal b)
  | foot {s : State} {l : Leg} {f : Foot} (next : NextFoot (recordInForce s l) (s.feet.get l) f)
      (same : f.contact = (s.feet.get l).contact) : Works s (s.setFeet (s.feet.set l f))
  | report {s u : State} {l : Leg} {f : Foot} {c : Contact} (next : NextFoot (recordInForce s l) (s.feet.get l) f)
      (now : f.contact = c) (told : Calm (s.setFeet (s.feet.set l f)) u) : Works s (contactReport l c u)
  | trans {s t u : State} (h : Works s t) (k : Works t u) : Works s u

theorem Works.refl (s : State) : Works s s := .calm (Calm.refl s)

theorem Works.beside (h : Works s t) : Beside s t := by
  induction h with
  | calm h => exact h.beside
  | att s => exact { Beside.refl s with }
  | bus s => exact { Beside.refl s with }
  | bal s b => exact (quiet_setBal s b).beside
  | @foot s => exact { Beside.refl s with }
  | @report s u l f _ _ _ told =>
    have set : Beside s (s.setFeet (s.feet.set l f)) := { Beside.refl s with }
    exact (set.trans told.beside).trans (quiet_contactReport ..).beside
  | trans _ _ h k => exact h.trans k

/-! ## The Attitude Port -/

theorem works_trigger (s : State) : Works s (trigger s) := by
  unfold trigger
  split <;> exact .bal _ _ rfl

theorem works_attitudeReadStart (s : State) : Works s (attitudeReadStart s) := by
  unfold attitudeReadStart
  split
  · exact .att _ _ (.inl rfl)
  · exact .refl s

theorem works_acceptSample (flip : Bool) (x y z : Int) (s : State) : Works s (acceptSample (intake flip x y z) s) := by
  have held := Works.att s { s.att with sample := intake flip x y z, stale := false } (.inr ⟨_, _, _, _, rfl⟩)
  refine ((held.trans (.calm (calm_issue _))).trans (.att _ _ (.inl ?_))).trans (works_trigger _)
  rfl

theorem works_attitudeReadDone (x y z : Half) (v : Bool) (s : State) : Works s (attitudeReadDone x y z v s) := by
  unfold attitudeReadDone
  split
  · exact .refl s
  · dsimp only
    split
    · refine (Works.att s _ (.inl ?_)).trans (works_acceptSample ..)
      rfl
    · exact .att _ _ (.inl rfl)

theorem works_attitudeReadTimeout (s : State) : Works s (attitudeReadTimeout s) := by
  unfold attitudeReadTimeout
  split
  · exact .att _ _ (.inl rfl)
  · exact .refl s

theorem works_attitudeStaleExpiry (s : State) : Works s (attitudeStaleExpiry s) := by
  unfold attitudeStaleExpiry goStale
  split
  · have stale := Works.att s { s.att with stale := true } (.inl rfl)
    dsimp only
    split
    · refine (stale.trans (.att _ _ (.inl ?_))).trans (works_trigger _)
      rfl
    · have raised := stale.trans (.calm ((calm_raise .sensorFault _).trans (calm_bump .attitudeStale _)))
      refine (raised.trans (.att _ _ (.inl ?_))).trans (works_trigger _)
      rfl
  · exact .refl s

theorem works_attitudeLost (s : State) : Works s (attitudeLost s) := by
  unfold attitudeLost
  split
  · refine (Works.att s _ (.inl ?_)).trans (.calm (calm_reportFault ..))
    rfl
  · exact .refl s

/-! ## The Contact Monitor -/

/-- What a fault entry does before its contact change is reported: SENSOR_FAULT, and the LOAD_SENSOR report of a second foot in
FAULT (R24, R31; log 35). -/
def faultTold (l : Leg) (s : State) : State :=
  let s1 := raise .sensorFault (bump .loadSensorFaults s)
  if 2 ≤ feetInFault s1 then reportFault .loadSensor (some l) s1 else s1

theorem calm_faultTold (l : Leg) (s : State) : Calm s (faultTold l s) := by
  have counted := (calm_bump .loadSensorFaults s).trans (calm_raise .sensorFault _)
  unfold faultTold
  dsimp only
  split
  · exact counted.trans (calm_reportFault ..)
  · exact counted

/-- The foot that an invalid sample leaves outside FAULT (R19, R24). -/
def Foot.faulty (f : Foot) : Foot := { f with contact := .fault, qualify := 0, slip := 0, lastLoad := 0 }

/-- An invalid sample takes the last load of a foot in FAULT, and any other foot to FAULT (R19, R24). -/
theorem takeInvalid_eq (l : Leg) (s : State) :
    takeInvalid l s =
      if (s.feet.get l).contact = .fault then s.setFeet (s.feet.set l { s.feet.get l with lastLoad := 0 })
      else contactReport l .fault (faultTold l (s.setFeet (s.feet.set l (s.feet.get l).faulty))) := by
  unfold takeInvalid
  split
  · rfl
  · have judged : modFoot l (fun f => { f with contact := .fault, qualify := 0, slip := 0 })
        (modFoot l (fun f => { f with lastLoad := 0 }) s) = s.setFeet (s.feet.set l (s.feet.get l).faulty) := by
      simp only [modFoot, State.setFeet_feet, Quad.get_set_self, Quad.set_set]
      rfl
    exact congrArg (contactReport l .fault) (congrArg (faultTold l) judged)

/-- A new measurement or a stopped timer, and then an invalid sample (R17, R19, R24). -/
theorem works_takeInvalid (l : Leg) (m : Measurement) (timer : Option Nat) (s : State) :
    Works s (takeInvalid l (s.setFeet (s.feet.set l { s.feet.get l with measurement := m, stale := timer }))) := by
  rw [takeInvalid_eq]
  simp only [State.setFeet_feet, Quad.get_set_self]
  split
  · rw [State.setFeet_setFeet, Quad.set_set]
    exact .foot (.stillFault m timer) rfl
  · rw [State.setFeet_setFeet, Quad.set_set]
    exact .report (.fault m timer) rfl (calm_faultTold ..)

theorem classify_valid_le {high period load : Nat} (h : classify high period = .valid load) : load ≤ 1600 := by
  unfold classify at h
  repeat' split at h
  all_goals cases h
  rw [loadOf_eq]
  exact min_le_left ..

theorem recordInForce_setFeet {s : State} {l : Leg} {f : Foot} (same : f.cls = (s.feet.get l).cls) :
    recordInForce (s.setFeet (s.feet.set l f)) l = recordInForce s l := by
  rw [recordInForce, State.setFeet_feet, Quad.get_set_self, same]
  rfl

theorem works_loadSample (l : Leg) (n : Nat) (s : State) : Works s (loadSample l n s) := by
  unfold loadSample
  split
  · exact .foot (.edge _ _) rfl
  · unfold takeSample
    dsimp only
    split
    case h_1 load valid =>
      rw [takeValid_eq]
      simp only [modFoot, State.setFeet_feet, Quad.get_set_self, State.setFeet_setFeet, Quad.set_set]
      have next := NextFoot.sample (r := recordInForce s l) (g := s.feet.get l) (classify_valid_le valid)
        (.measuring none) (some Config.loadStaleMs)
      rw [recordInForce_setFeet (by rfl)]
      split
      case isTrue same => exact .foot next same
      case isFalse => exact .report next rfl (Calm.refl _)
    all_goals exact works_takeInvalid ..

theorem works_loadStale (l : Leg) (s : State) : Works s (loadStale l s) := by
  unfold loadStale
  split
  · exact works_takeInvalid ..
  · exact .refl s

theorem works_slipPulse (l : Leg) (s : State) : Works s (slipPulse l s) := by
  unfold slipPulse
  dsimp only
  split
  case isTrue loaded =>
    split
    case isTrue =>
      have told := (calm_raise .slip (s.setFeet (s.feet.set l
        { s.feet.get l with contact := .slipping, slip := (s.feet.get l).slip + 1 }))).trans (calm_bump .slips _)
      exact .report (.slips loaded) rfl told
    case isFalse few => exact .foot (.pulse loaded (not_lt.mp few)) rfl
  case isFalse => exact .refl s

theorem works_loadFallingEdge (l : Leg) (n : Nat) (s : State) : Works s (loadFallingEdge l n s) := by
  unfold loadFallingEdge
  split
  · exact .foot (.edge _ _) rfl
  all_goals exact .refl s

/-! ## The Balance Engine -/

theorem works_braceTest (b : BalanceCfg) (f : Figures) (s : State) : Works s (braceTest b f s) := by
  unfold braceTest
  split
  · split
    · split
      · exact (Works.calm (calm_requestBrace s)).trans (.bal _ _ rfl)
      · exact .bal _ _ rfl
    · exact .bal _ _ rfl
  · exact .bal _ _ rfl

theorem works_nextEvaluation (s : State) : Works s (nextEvaluation s) := by
  unfold nextEvaluation
  split
  · exact .bal s _ rfl
  · exact .refl s

theorem works_evaluationComplete (s : State) : Works s (evaluationComplete s) := by
  unfold evaluationComplete
  split
  · exact .refl s
  · refine (((Works.bal s _ ?_).trans (works_braceTest ..)).trans (.calm (calm_considerGrants ..))).trans
      (works_nextEvaluation _)
    rfl

/-! ## The Drive Bus Controller -/

theorem works_closeFailed (t : Txn) (s : State) : Works s (closeFailed t s) := by
  have counted : Works s (countFailure t.leg s) := by
    unfold countFailure
    dsimp only
    split
    · exact .refl s
    · split
      · exact .trans (.bus s _) (.calm ((calm_raise ..).trans (calm_reportFault ..)))
      · exact .bus ..
  exact (counted.trans (.calm (calm_resend t _))).trans (.bus ..)

theorem works_goodReply (l : Leg) (v : Vec3) (st : DriveState) (b : Bool) (s : State) :
    Works s (goodReply l v st b s) :=
  (Works.bus s _).trans ((Works.bus _ _).trans (.calm
    (((((calm_seqReply l v st b _).trans (calm_preshiftTest _)).trans (calm_shiftTest _)).trans (calm_riseTest _)).trans
      (calm_settleCompleteTest _) |>.trans (calm_driveStateTest ..))))

theorem works_busByte (b : Byte) (s : State) : Works s (busByte b s) := by
  unfold busByte
  split
  · dsimp only
    split
    · exact .bus ..
    · split
      · exact .trans (.calm (calm_bump ..)) (works_closeFailed ..)
      · exact .bus ..
      · exact works_goodReply ..
  all_goals exact .refl s

theorem works_driveReply (bs : List Byte) (s : State) : Works s (driveReply bs s) := by
  induction bs generalizing s with
  | nil => exact .refl s
  | cons b rest ih => exact (works_busByte b s).trans (ih _)

theorem works_driveReplyTimeout (s : State) : Works s (driveReplyTimeout s) := by
  unfold driveReplyTimeout
  split
  · exact .trans (.calm (calm_bump ..)) (works_closeFailed ..)
  all_goals exact .refl s

theorem works_driveTransactionSend (s : State) : Works s (driveTransactionSend s) := by
  unfold driveTransactionSend
  split
  · exact .bus ..
  · exact .refl s

theorem works_driveRequestSent (s : State) : Works s (driveRequestSent s) := by
  unfold driveRequestSent
  split
  · exact .bus ..
  all_goals exact .refl s

theorem works_guardEnd (s : State) : Works s (guardEnd s) := by
  unfold guardEnd
  split
  · exact .bus ..
  all_goals exact .refl s

theorem works_pollTimerExpiry (l : Leg) (s : State) : Works s (pollTimerExpiry l s) := by
  unfold pollTimerExpiry pollDrive
  dsimp only
  split
  · split
    · exact .bus ..
    · exact .trans (.bus s _) (.bus ..)
  · exact .refl s

/-! ## Every command -/

/-- What a command can make of a state, seen from the Link Port and the records: a request, a command of the Link Port, the tick, a
power-on, or what the blocks do. -/
inductive LinkDone : Instr → State → State → Prop
  | works {c : Instr} {s t : State} (h : Works s t) : LinkDone c s t
  | taken {c : Instr} {s t : State} {f : Frame} {rest : List Frame} {r : Result} {data : List Byte} {full : Bool}
      (taking : Taking s f rest) (served : Served c (s.setLink { s.link with buffer := rest }) t) :
      LinkDone c s (t.setLink
        { t.link with
          tx := t.link.tx ++ [.reply (replyTo f r data) full], resetTaken := t.link.resetTaken || full })
  | powerOnReset (a b i : Bool) (s : State) : LinkDone (.powerOnReset a b i) s (powerOnValues (rateOf a b) i s)
  | timeBaseTick (s : State) : LinkDone .timeBaseTick s (tick s)
  | linkByte (b : Byte) (e : Bool) (s : State) : LinkDone (.linkByte b e) s (linkByte b e s)
  | gapTimerExpiry (s : State) : LinkDone .gapTimerExpiry s (gapTimerExpiry s)
  | frameSendStart (s : State) : LinkDone .frameSendStart s (frameSendStart s)
  | frameSendEnd (s : State) : LinkDone .frameSendEnd s (frameSendEnd s)

theorem linkDone_of_done {c : Instr} (done : Done c s t) : LinkDone c s t := by
  cases done with
  | untaken => exact .works (.refl s)
  | taken taking _ served => exact .taken taking served
  | powerOnReset => exact .powerOnReset ..
  | timeBaseTick => exact .timeBaseTick s
  | linkByte => exact .linkByte ..
  | gapTimerExpiry => exact .gapTimerExpiry s
  | frameSendStart => exact .frameSendStart s
  | frameSendEnd => exact .frameSendEnd s
  | silenceExpiry => exact .works (.calm (calm_silenceExpiry s))
  | loadSample => exact .works (works_loadSample ..)
  | loadStale => exact .works (works_loadStale ..)
  | slipPulse => exact .works (works_slipPulse ..)
  | attitudeReadStart => exact .works (works_attitudeReadStart s)
  | attitudeReadDone => exact .works (works_attitudeReadDone ..)
  | attitudeReadTimeout => exact .works (works_attitudeReadTimeout s)
  | attitudeStaleExpiry => exact .works (works_attitudeStaleExpiry s)
  | attitudeLost => exact .works (works_attitudeLost s)
  | evaluationComplete => exact .works (works_evaluationComplete s)
  | braceTaken => exact .works (.calm (calm_braceTaken s))
  | preshiftTimeout => exact .works (.calm (calm_preshiftTimeout s))
  | shiftTimeout => exact .works (.calm (calm_shiftTimeout s))
  | phaseTimerExpiry => exact .works (.calm (calm_phaseTimerExpiry ..))
  | driveTransactionSend => exact .works (works_driveTransactionSend s)
  | driveRequestSent => exact .works (works_driveRequestSent s)
  | driveReply => exact .works (works_driveReply ..)
  | driveReplyTimeout => exact .works (works_driveReplyTimeout s)
  | guardEnd => exact .works (works_guardEnd s)
  | pollTimerExpiry => exact .works (works_pollTimerExpiry ..)
  | riseSettleTimeout => exact .works (.calm (calm_riseSettleTimeout s))
  | supportLost => exact .works (.calm (calm_supportLostExpiry s))
  | loadFallingEdge => exact .works (works_loadFallingEdge ..)

end

end Sys2Proof.Machine
end

section
/-! WHO WRITES WHAT. `Owned` names the one command that may change each record: the time base, the event mask, the configuration, the
silence settings, a pending flag, a captured fault. Every command but a reset of the whole part keeps to it. -/

namespace Sys2Proof.Machine

/-- From `s` to `t` a command `c` has changed only such records as it is the writer of (R1, R6, R11, R67, R123, R151, R154, R168,
R170 to R172). -/
structure Owned (c : Instr) (s t : State) : Prop where
  pending : t.pending = s.pending
  time : c ≠ .timeBaseTick → t.ev.time = s.ev.time
  mask : c ≠ .eventMask → t.ev.mask = s.ev.mask
  geo : c ≠ .setGeometry → t.geo = s.geo
  surf : c ≠ .setSurface → t.surf = s.surf
  balCfg : c ≠ .setBalance → t.balCfg = s.balCfg
  gait : c ≠ .setGait → t.gait = s.gait
  silenceLimit : c ≠ .setSupervision → t.sup.silenceLimit = s.sup.silenceLimit
  policy : c ≠ .setSupervision → t.sup.policy = s.sup.policy
  latch : c ≠ .setSupervision → t.sup.latch = s.sup.latch
  linkRate : t.sup.linkRate = s.sup.linkRate
  imuFlip : t.sup.imuFlip = s.sup.imuFlip
  flags : c ≠ .eventAck → ∀ e, hasEvent s.ev.pending e = true → hasEvent t.ev.pending e = true
  fault : c ≠ .faultClear → ∀ r, s.ev.fault = some r → t.ev.fault = some r
  overflowFault : OverflowNeedsFault s → OverflowNeedsFault t

section
variable {c : Instr} {s t u : State}

theorem Owned.refl (c : Instr) (s : State) : Owned c s s :=
  ⟨rfl, fun _ => rfl, fun _ => rfl, fun _ => rfl, fun _ => rfl, fun _ => rfl, fun _ => rfl, fun _ => rfl, fun _ => rfl,
    fun _ => rfl, rfl, rfl, fun _ _ h => h, fun _ _ h => h, fun h => h⟩

theorem Owned.trans (h : Owned c s t) (k : Owned c t u) : Owned c s u where
  pending := k.pending.trans h.pending
  time := fun n => (k.time n).trans (h.time n)
  mask := fun n => (k.mask n).trans (h.mask n)
  geo := fun n => (k.geo n).trans (h.geo n)
  surf := fun n => (k.surf n).trans (h.surf n)
  balCfg := fun n => (k.balCfg n).trans (h.balCfg n)
  gait := fun n => (k.gait n).trans (h.gait n)
  silenceLimit := fun n => (k.silenceLimit n).trans (h.silenceLimit n)
  policy := fun n => (k.policy n).trans (h.policy n)
  latch := fun n => (k.latch n).trans (h.latch n)
  linkRate := k.linkRate.trans h.linkRate
  imuFlip := k.imuFlip.trans h.imuFlip
  flags := fun n e he => k.flags n e (h.flags n e he)
  fault := fun n r hr => k.fault n r (h.fault n r hr)
  overflowFault := fun held => k.overflowFault (h.overflowFault held)

/-- What a command changes beside the records writes none of them. -/
theorem Beside.owned (h : Beside s t) (c : Instr) : Owned c s t where
  pending := h.pending
  time := fun _ => h.time
  mask := fun _ => h.mask
  geo := fun _ => h.geo
  surf := fun _ => h.surf
  balCfg := fun _ => h.balCfg
  gait := fun _ => h.gait
  silenceLimit := fun _ => h.silenceLimit
  policy := fun _ => h.policy
  latch := fun _ => h.latch
  linkRate := h.linkRate
  imuFlip := h.imuFlip
  flags := fun _ => h.flags
  fault := fun _ => h.fault
  overflowFault := h.overflowFault

theorem Calm.owned (h : Calm s t) (c : Instr) : Owned c s t := h.beside.owned c

/-- The records stand outside the plan and the Link Port. -/
theorem owned_setPlan (c : Instr) (s : State) (p : Planner) : Owned c s (s.setPlan p) := { Owned.refl c s with }
theorem owned_setLink (c : Instr) (s : State) (p : LinkPort) : Owned c s (s.setLink p) := { Owned.refl c s with }

/-! ## Requests -/

theorem owned_replaceMask (m : EventSet) (s : State) : Owned .eventMask s (replaceMask m s) := by
  unfold replaceMask
  have masked : Owned .eventMask s (s.setEv { s.ev with mask := m }) :=
    { Owned.refl .eventMask s with mask := fun other => absurd rfl other }
  dsimp only
  split
  · exact masked
  · exact masked.trans ((calm_requestNotice _).owned _)

theorem owned_takeSupervision (limit : Nat) (p : Policy) (s : State) :
    Owned .setSupervision s (takeSupervision limit p s) := by
  unfold takeSupervision
  have settings : Owned .setSupervision s (s.setSup
      { s.sup with silenceLimit := limit, policy := p, latch := s.sup.latch || decide (p = .settle) }) :=
    { Owned.refl .setSupervision s with
      silenceLimit := fun other => absurd rfl other
      policy := fun other => absurd rfl other
      latch := fun other => absurd rfl other }
  dsimp only
  split
  · exact settings.trans ((calm_stopSilence _).owned _)
  · exact settings.trans ((calm_restartSilence _).owned _)

theorem Served.owned (h : Served c s t) : Owned c s t := by
  cases h with
  | unchanged => exact Owned.refl c s
  | geometry => exact { Owned.refl _ s with geo := fun other => absurd rfl other }
  | surface => exact { Owned.refl _ s with surf := fun other => absurd rfl other }
  | balance => exact { Owned.refl _ s with balCfg := fun other => absurd rfl other }
  | gait => exact { Owned.refl _ s with gait := fun other => absurd rfl other }
  | supervision => exact owned_takeSupervision ..
  | stand => exact (calm_standUp ..).owned _
  | sit => exact (calm_enterSettling s).owned _
  | clearHold => exact (calm_clearHold s).owned _
  | motion => exact { Owned.refl c s with }
  | append => exact (calm_appendRecords ..).owned _
  | activate => exact (calm_activate s).owned _
  | drain => exact (calm_drain s).owned _
  | cut => exact (owned_setPlan c s _).trans ((calm_idleIfEmpty _).owned _)
  | report => exact owned_setPlan ..
  | mask => exact owned_replaceMask ..
  | ack => exact { Owned.refl _ s with flags := fun other => absurd rfl other }
  | clearFault =>
    exact { Owned.refl _ s with
      fault := fun other => absurd rfl other, overflowFault := fun _ overflow => by cases overflow }
  | clearCounters => exact { Owned.refl _ s with }

/-! ## The Link Port -/

theorem owned_discardFrame (c : Instr) (s : State) : Owned c s (discardFrame s) :=
  ((calm_bump ..).trans (calm_raise ..)).owned c

theorem owned_goodFrame (c : Instr) (f : Frame) (s : State) : Owned c s (goodFrame f s) := by
  unfold goodFrame
  have counted := (calm_bump .framesGood s).owned c
  dsimp only
  split
  · exact (counted.trans (owned_setLink c _ _)).trans ((calm_restartSilence _).owned c)
  · exact counted.trans (((calm_bump ..).trans (calm_raise ..)).owned c)

theorem owned_receive (c : Instr) (bs : List Byte) (skip : Nat) (s : State) : Owned c s (receive bs skip s) := by
  induction bs generalizing skip s with
  | nil => exact owned_setLink ..
  | cons b rest ih =>
    cases skip with
    | succ skip => exact ih skip s
    | zero =>
      unfold receive
      split
      · split
        · exact owned_setLink ..
        · exact (owned_discardFrame c s).trans (ih ..)
        · exact (owned_discardFrame c s).trans (ih ..)
        · exact (owned_goodFrame c _ s).trans (ih ..)
      · exact ih 0 s

theorem owned_discardAndGoBack (c : Instr) (s : State) : Owned c s (discardAndGoBack s) :=
  (owned_discardFrame c s).trans (owned_receive ..)

theorem owned_frameSendStart (c : Instr) (s : State) : Owned c s (frameSendStart s) := by
  unfold frameSendStart
  split
  · exact owned_setLink ..
  · split <;> exact owned_setLink ..
  · exact Owned.refl c s
  · exact Owned.refl c s

/-! ## Every command -/

/-- Every command that is no reset of the whole part writes only the records it is the writer of. -/
theorem owned_of_done (done : Done c s t) (noReset : ¬ resetsPart c s) : Owned c s t := by
  cases linkDone_of_done done with
  | works h => exact h.beside.owned c
  | taken _ served => exact ((owned_setLink c s _).trans served.owned).trans (owned_setLink ..)
  | powerOnReset a b i => exact absurd (.inl ⟨a, b, i, rfl⟩) noReset
  | timeBaseTick => exact { Owned.refl _ s with time := fun other => absurd rfl other }
  | linkByte =>
    unfold linkByte
    split
    · split
      · exact Owned.refl ..
      · exact owned_discardAndGoBack ..
    · exact owned_receive ..
  | gapTimerExpiry =>
    unfold gapTimerExpiry
    split
    · exact owned_discardAndGoBack ..
    · exact Owned.refl ..
  | frameSendStart => exact owned_frameSendStart ..
  | frameSendEnd =>
    unfold frameSendEnd
    split
    case h_1 => exact Owned.refl ..
    case h_2 f sending =>
      split
      case isTrue full => exact absurd (.inr ⟨rfl, f, sending, full⟩) noReset
      case isFalse => exact owned_setLink ..

end

/-- A reset of the whole part gives every block its power-on value, whatever the straps, and keeps the waiting commands (R154,
R155; log 24). -/
theorem resetsPart_done {c : Instr} {s t : State} (done : Done c s t) (reset : resetsPart c s) :
    ∃ rate flip, t = powerOnValues rate flip s := by
  rcases reset with ⟨a, b, i, rfl⟩ | ⟨rfl, f, sending, full⟩
  · cases done with
    | untaken request => obtain ⟨g, wanted⟩ := request; cases wanted
    | taken _ wanted => cases wanted
    | powerOnReset => exact ⟨_, _, rfl⟩
  · cases done with
    | untaken request => obtain ⟨g, wanted⟩ := request; cases wanted
    | taken _ wanted => cases wanted
    | frameSendEnd =>
      refine ⟨s.sup.linkRate, s.sup.imuFlip, ?_⟩
      rw [frameSendEnd, sending]
      exact if_pos full

section
variable {c : Instr} {s t : State}

/-- Every command keeps the waiting commands: a reset as any other (log 24). -/
theorem done_pending (done : Done c s t) : t.pending = s.pending := by
  by_cases reset : resetsPart c s
  · obtain ⟨rate, flip, rfl⟩ := resetsPart_done done reset
    rfl
  · exact (owned_of_done done reset).pending

theorem overflowNeedsFault_done (held : OverflowNeedsFault s) (done : Done c s t) : OverflowNeedsFault t := by
  by_cases reset : resetsPart c s
  · obtain ⟨rate, flip, rfl⟩ := resetsPart_done done reset
    exact fun overflow => by cases overflow
  · exact (owned_of_done done reset).overflowFault held

end

/-- Settles O1: by the two cases of the queue. -/
theorem stepRunsTheFrontCommand : Obligations.StepRunsTheFrontCommand := by
  unfold Obligations.StepRunsTheFrontCommand
  intro s
  constructor
  · intro c rest pending
    rw [step, pending]
  · intro idle
    rw [step, idle]

/-- Settles O2: every command completes, and keeps the waiting commands. -/
theorem everyCommandCompletes : Obligations.EveryCommandCompletes := by
  unfold Obligations.EveryCommandCompletes
  intro c s
  obtain ⟨t, executed, done⟩ := exec_done c s
  exact ⟨t, executed, done_pending done⟩

/-- Settles O8: FAULT_CLEAR is the one writer of a captured fault, and every command keeps the overflow flag's condition. -/
theorem faultRecordIsKept : Obligations.FaultRecordIsKept := by
  unfold Obligations.FaultRecordIsKept
  refine ⟨fun c s t r executed captured notClear noReset => ?_, fun s t => step_keeps (fun _ _ h => h)
    fun c s t => overflowNeedsFault_done⟩
  exact (owned_of_done (done_of_exec executed) noReset).fault notClear r captured

/-- Settles O9: EVENT_ACK is the one writer that clears a pending flag. -/
theorem pendingFlagsStay : Obligations.PendingFlagsStay := by
  unfold Obligations.PendingFlagsStay
  intro c s t e executed pending notAck noReset
  exact (owned_of_done (done_of_exec executed) noReset).flags notAck e pending

/-- Settles O10: each record by the writer that `Owned` names. -/
theorem eachRecordHasOneWriter : Obligations.EachRecordHasOneWriter := by
  unfold Obligations.EachRecordHasOneWriter
  intro c s t executed noReset
  have owned := owned_of_done (done_of_exec executed) noReset
  exact ⟨owned.time, owned.mask, owned.geo, owned.surf, owned.balCfg, owned.gait,
    fun other => ⟨owned.silenceLimit other, owned.policy other, owned.latch other⟩, owned.linkRate, owned.imuFlip⟩

end Sys2Proof.Machine
end

section
/-! THE LINK PORT'S ROOM. What requests and the commands of the Link Port do to its buffers: one reply to each request taken, and the
room of R158 to R160 and R164. -/

namespace Sys2Proof.Machine

/-- From `s` to `t` the receiver, the receive buffer and the replies that wait are kept, and no second notice has joined. -/
structure LinkKept (s t : State) : Prop where
  received : t.link.held = s.link.held
  gap : t.link.gap = s.link.gap
  buffer : t.link.buffer = s.link.buffer
  replies : repliesOf t.link.tx = repliesOf s.link.tx
  notices : noticesIn s.link.tx ≤ 1 → noticesIn t.link.tx ≤ 1

section
variable {c : Instr} {s t u : State}

theorem Beside.linkKept (h : Beside s t) : LinkKept s t := ⟨h.received, h.gap, h.buffer, h.replies, h.notices⟩

theorem Calm.linkKept (h : Calm s t) : LinkKept s t := h.beside.linkKept

theorem LinkKept.refl (s : State) : LinkKept s s := (Beside.refl s).linkKept

theorem LinkKept.trans (h : LinkKept s t) (k : LinkKept t u) : LinkKept s u where
  received := k.received.trans h.received
  gap := k.gap.trans h.gap
  buffer := k.buffer.trans h.buffer
  replies := k.replies.trans h.replies
  notices := fun few => k.notices (h.notices few)

/-- Carrying out a request queues no reply and touches no buffer. -/
theorem Served.linkKept (h : Served c s t) : LinkKept s t := by
  cases h with
  | unchanged => exact LinkKept.refl s
  | supervision =>
    unfold takeSupervision
    dsimp only
    split
    · exact { (calm_stopSilence _).linkKept with }
    · exact { (calm_restartSilence (s.setSup _)).linkKept with }
  | stand => exact (calm_standUp ..).linkKept
  | sit => exact (calm_enterSettling s).linkKept
  | clearHold => exact (calm_clearHold s).linkKept
  | append => exact (calm_appendRecords ..).linkKept
  | activate => exact (calm_activate s).linkKept
  | drain => exact (calm_drain s).linkKept
  | cut => exact (calm_setPlan s _).linkKept.trans (calm_idleIfEmpty _).linkKept
  | mask =>
    unfold replaceMask
    dsimp only
    split
    · exact ⟨rfl, rfl, rfl, rfl, id⟩
    · exact { (calm_requestNotice (s.setEv _)).linkKept with }
  | _ => exact ⟨rfl, rfl, rfl, rfl, id⟩

theorem repliesOf_append_reply (tx : List TxItem) (f : Frame) (full : Bool) :
    repliesOf (tx ++ [.reply f full]) = repliesOf tx ++ [.reply f full] := by
  simp [repliesOf, TxItem.isNotice]

theorem noticesIn_append_reply (tx : List TxItem) (f : Frame) (full : Bool) :
    noticesIn (tx ++ [.reply f full]) = noticesIn tx := by
  simp [noticesIn, TxItem.isNotice]

/-! ## The receiver -/

/-- The buffers of the Link Port are within their room (R160, R164). -/
def BuffersFit (s : State) : Prop :=
  s.link.buffer.length ≤ 4 ∧ (repliesOf s.link.tx).length ≤ 4 ∧ noticesIn s.link.tx ≤ 1

/-- The receiver hunts, or assembles a frame that is not whole yet with its gap timer running (R158). -/
def ReceiverFits (s : State) : Prop :=
  s.link.held = [] ∧ s.link.gap = none ∨
    s.link.held.head? = some syncByte ∧ assemble s.link.held = .incomplete ∧ s.link.gap.isSome = true

theorem linkRoom_iff (s : State) : LinkRoom s ↔ BuffersFit s ∧ ReceiverFits s := by
  simp only [LinkRoom, BuffersFit, ReceiverFits, repliesWaiting, repliesOf, noticesIn, and_assoc]

theorem LinkKept.buffersFit (h : LinkKept s t) (fit : BuffersFit s) : BuffersFit t := by
  obtain ⟨buffer, replies, notices⟩ := fit
  exact ⟨by rwa [h.buffer], by rwa [h.replies], h.notices notices⟩

theorem LinkKept.receiverFits (h : LinkKept s t) (fit : ReceiverFits s) : ReceiverFits t := by
  unfold ReceiverFits
  rwa [h.received, h.gap]

theorem linkKept_discardFrame (s : State) : LinkKept s (discardFrame s) := ((calm_bump ..).trans (calm_raise ..)).linkKept

/-- A good frame is buffered only where there is room (R160). -/
theorem buffersFit_goodFrame (f : Frame) (fit : BuffersFit s) : BuffersFit (goodFrame f s) := by
  unfold goodFrame
  have counted := (calm_bump .framesGood s).linkKept.buffersFit fit
  dsimp only
  split
  case isTrue room =>
    refine (calm_restartSilence _).linkKept.buffersFit ⟨?_, counted.2⟩
    rw [State.setLink_link, List.length_append]
    exact room
  case isFalse => exact ((calm_bump ..).trans (calm_raise ..)).linkKept.buffersFit counted

/-- Whatever bytes the receiver takes, it ends hunting or with a frame that is not whole. -/
theorem linkRoom_receive (bs : List Byte) (skip : Nat) (s : State) (fit : BuffersFit s) : LinkRoom (receive bs skip s) := by
  rw [linkRoom_iff]
  induction bs generalizing skip s with
  | nil => exact ⟨fit, .inl ⟨rfl, rfl⟩⟩
  | cons b rest ih =>
    cases skip with
    | succ skip => exact ih skip s fit
    | zero =>
      unfold receive
      split
      case isTrue sync =>
        split
        case h_1 incomplete => exact ⟨fit, .inr ⟨congrArg some sync, incomplete, rfl⟩⟩
        case h_2 => exact ih _ _ ((linkKept_discardFrame s).buffersFit fit)
        case h_3 => exact ih _ _ ((linkKept_discardFrame s).buffersFit fit)
        case h_4 f _ => exact ih _ _ (buffersFit_goodFrame f fit)
      case isFalse => exact ih 0 s fit

theorem linkRoom_discardAndGoBack (s : State) (fit : BuffersFit s) : LinkRoom (discardAndGoBack s) :=
  linkRoom_receive _ _ _ ((linkKept_discardFrame s).buffersFit fit)

/-! ## Every command -/

theorem linkRoom_frameSendStart (room : LinkRoom s) : LinkRoom (frameSendStart s) := by
  rw [linkRoom_iff] at room
  obtain ⟨⟨buffer, replies, notices⟩, receiver⟩ := room
  have tail : ∀ i rest sending, s.link.tx = i :: rest →
      LinkRoom (s.setLink { s.link with tx := rest, sending := sending }) := by
    intro i rest sending tx
    rw [linkRoom_iff]
    have sub : rest.Sublist s.link.tx := tx ▸ List.sublist_cons_self i rest
    exact ⟨⟨buffer, (sub.filter _).length_le.trans replies, (sub.filter _).length_le.trans notices⟩, receiver⟩
  unfold frameSendStart
  split
  case h_1 tx => exact tail _ _ _ tx
  case h_2 tx => split <;> exact tail _ _ _ tx
  all_goals exact (linkRoom_iff s).mpr ⟨⟨buffer, replies, notices⟩, receiver⟩

theorem linkRoom_powerOnValues (rate : Nat) (flip : Bool) (s : State) : LinkRoom (powerOnValues rate flip s) :=
  ⟨Nat.zero_le _, Nat.zero_le _, Nat.zero_le _, .inl ⟨rfl, rfl⟩⟩

theorem linkRoom_done (room : LinkRoom s) (done : Done c s t) : LinkRoom t := by
  obtain ⟨fit, receiver⟩ := (linkRoom_iff s).mp room
  cases linkDone_of_done done with
  | works h => exact (linkRoom_iff t).mpr ⟨h.beside.linkKept.buffersFit fit, h.beside.linkKept.receiverFits receiver⟩
  | @taken c s t f rest r data full taking served =>
    obtain ⟨buffer, replies, notices⟩ := fit
    obtain ⟨head, few, -⟩ := taking
    have kept := served.linkKept
    refine (linkRoom_iff _).mpr ⟨⟨?_, ?_, ?_⟩, kept.receiverFits receiver⟩
    · have : t.link.buffer = rest := kept.buffer
      rw [head, List.length_cons] at buffer
      rw [State.setLink_link, this]
      omega
    · have : repliesOf t.link.tx = repliesOf s.link.tx := kept.replies
      rw [State.setLink_link, repliesOf_append_reply, this, List.length_append]
      exact few
    · rw [State.setLink_link, noticesIn_append_reply]
      exact kept.notices notices
  | powerOnReset => exact linkRoom_powerOnValues ..
  | timeBaseTick =>
    refine (linkRoom_iff _).mpr ⟨fit, ?_⟩
    rcases receiver with ⟨hunting, stopped⟩ | ⟨sync, short, runs⟩
    · exact .inl ⟨hunting, by simp [tick, tickTimer, stopped]⟩
    · exact .inr ⟨sync, short, by simpa [tick, tickTimer] using runs⟩
  | linkByte =>
    unfold linkByte
    split
    · split
      · exact room
      · exact linkRoom_discardAndGoBack s fit
    · exact linkRoom_receive _ _ s fit
  | gapTimerExpiry =>
    unfold gapTimerExpiry
    split
    · exact linkRoom_discardAndGoBack s fit
    · exact room
  | frameSendStart => exact linkRoom_frameSendStart room
  | frameSendEnd =>
    unfold frameSendEnd
    split
    · exact room
    · split
      · exact linkRoom_powerOnValues ..
      · exact room

end

/-- Settles O18: a request command whose request is not there leaves the state, and one that is taken queues its one reply. -/
theorem eachRequestGetsOneReply : Obligations.EachRequestGetsOneReply := by
  unfold Obligations.EachRequestGetsOneReply
  intro c s t executed request
  cases done_of_exec executed with
  | untaken _ absent =>
    refine ⟨fun _ => rfl, fun f rest _ => ⟨fun _ => rfl, fun wanted taking => ?_, fun _ _ => rfl⟩⟩
    rw [absent f rest taking] at wanted
    cases wanted
  | @taken _ _ u g left r data full taking wanted served =>
    have kept := served.linkKept
    refine ⟨fun empty => ?_, fun f rest buffer => ?_⟩
    · rw [taking.1] at empty
      cases empty
    · have same := taking.1
      rw [buffer] at same
      cases same
      refine ⟨fun unwanted => ?_, fun _ _ => ⟨r, data, full, kept.buffer, ?_⟩, fun _ notTaking => absurd taking notTaking⟩
      · rw [wanted] at unwanted
        cases unwanted
      · exact (repliesOf_append_reply ..).trans (congrArg (· ++ _) kept.replies)
  | _ =>
    obtain ⟨g, wanted⟩ := request
    cases wanted

end Sys2Proof.Machine
end

section
/-! RANGES AND SUPPORT. What every command keeps of the support set and of the ranges: by what `Works` can make of a foot and a sample,
by the checks of the requests, and because the Link Port's commands touch neither. -/

namespace Sys2Proof.Machine

/-! ## The Link Port's commands -/

/-- From `s` to `t` only the Link Port and the Event Unit have changed, the silence timer only where it may run (R152). -/
structure LinkMoves (s t : State) : Prop where
  rest : t = (s.setLink t.link).setEv t.ev
  silence : t.link.silence = s.link.silence ∨ silenceMode s.sup.mode = true

section
variable {s t u : State}

theorem LinkMoves.refl (s : State) : LinkMoves s s := ⟨rfl, .inl rfl⟩

theorem LinkMoves.sup (h : LinkMoves s t) : t.sup = s.sup := by rw [h.rest]; rfl

theorem LinkMoves.trans (h : LinkMoves s t) (k : LinkMoves t u) : LinkMoves s u where
  rest := by
    have first := h.rest
    have second := k.rest
    rw [first] at second
    exact second
  silence := by
    rcases k.silence with same | runs
    · rw [same]
      exact h.silence
    · exact .inr (h.sup ▸ runs)

theorem linkMoves_setEv (s : State) (e : EventUnit) : LinkMoves s (s.setEv e) := ⟨rfl, .inl rfl⟩

theorem linkMoves_raise (e : Event) (s : State) : LinkMoves s (raise e s) := by
  unfold raise
  split
  · exact .refl s
  · dsimp only
    split
    · exact linkMoves_setEv ..
    · rcases requestNotice_cases (s.setEv { s.ev with pending := s.ev.pending ||| onlyEvent e }) with ⟨_, kept⟩ | ⟨_, joined⟩
      · rw [kept]
        exact linkMoves_setEv ..
      · rw [joined]
        exact ⟨rfl, .inl rfl⟩

theorem linkMoves_discardFrame (s : State) : LinkMoves s (discardFrame s) :=
  (linkMoves_setEv s _).trans (linkMoves_raise ..)

theorem linkMoves_restartSilence (s : State) : LinkMoves s (restartSilence s) := by
  unfold restartSilence
  split
  case isTrue runs => exact ⟨rfl, .inr runs.1⟩
  case isFalse => exact .refl s

theorem linkMoves_goodFrame (f : Frame) (s : State) : LinkMoves s (goodFrame f s) := by
  unfold goodFrame
  have counted : LinkMoves s (bump .framesGood s) := linkMoves_setEv ..
  dsimp only
  split
  · refine counted.trans (LinkMoves.trans ?_ (linkMoves_restartSilence _))
    exact ⟨rfl, .inl rfl⟩
  · exact counted.trans ((linkMoves_setEv _ _).trans (linkMoves_raise ..))

theorem linkMoves_holdBytes (bs : List Byte) (s : State) : LinkMoves s (holdBytes bs s) := ⟨rfl, .inl rfl⟩

theorem linkMoves_receive (bs : List Byte) (skip : Nat) (s : State) : LinkMoves s (receive bs skip s) := by
  induction bs generalizing skip s with
  | nil => exact linkMoves_holdBytes ..
  | cons b rest ih =>
    cases skip with
    | succ skip => exact ih skip s
    | zero =>
      unfold receive
      split
      · split
        · exact linkMoves_holdBytes ..
        · exact (linkMoves_discardFrame s).trans (ih ..)
        · exact (linkMoves_discardFrame s).trans (ih ..)
        · exact (linkMoves_goodFrame _ s).trans (ih ..)
      · exact ih 0 s

theorem linkMoves_discardAndGoBack (s : State) : LinkMoves s (discardAndGoBack s) :=
  (linkMoves_discardFrame s).trans (linkMoves_receive ..)

theorem linkMoves_linkByte (b : Byte) (e : Bool) (s : State) : LinkMoves s (linkByte b e s) := by
  unfold linkByte
  split
  · split
    · exact .refl s
    · exact linkMoves_discardAndGoBack s
  · exact linkMoves_receive ..

theorem linkMoves_gapTimerExpiry (s : State) : LinkMoves s (gapTimerExpiry s) := by
  unfold gapTimerExpiry
  split
  · exact linkMoves_discardAndGoBack s
  · exact .refl s

theorem linkMoves_frameSendStart (s : State) : LinkMoves s (frameSendStart s) := by
  unfold frameSendStart
  split
  · exact ⟨rfl, .inl rfl⟩
  · split <;> exact ⟨rfl, .inl rfl⟩
  · exact .refl s
  · exact .refl s

theorem linkMoves_frameSendEnd (s : State) :
    LinkMoves s (frameSendEnd s) ∨ frameSendEnd s = powerOnValues s.sup.linkRate s.sup.imuFlip s := by
  unfold frameSendEnd
  split
  · exact .inl (.refl s)
  · split
    · exact .inr rfl
    · exact .inl ⟨rfl, .inl rfl⟩

/-- The taking of a request changes the receive buffer and, once it is carried out, the transmit queue. -/
theorem linkMoves_buffer (s : State) (rest : List Frame) : LinkMoves s (s.setLink { s.link with buffer := rest }) :=
  ⟨rfl, .inl rfl⟩

end

/-- What a command can make of a state, the Link Port's own doings taken together: what the blocks do, a request carried out, the tick,
or a reset of the whole part. -/
inductive Deed (c : Instr) (s : State) : State → Prop
  | link {t : State} (h : LinkMoves s t) : Deed c s t
  | works {t : State} (h : Works s t) : Deed c s t
  | served {u v t : State} (taken : LinkMoves s u) (served : Served c u v) (replied : LinkMoves v t) : Deed c s t
  | tick : Deed c s (tick s)
  | reset (rate : Nat) (flip : Bool) : Deed c s (powerOnValues rate flip s)

theorem deed_of_done {c : Instr} {s t : State} (done : Done c s t) : Deed c s t := by
  cases linkDone_of_done done with
  | works h => exact .works h
  | taken _ served => exact .served (linkMoves_buffer ..) served ⟨rfl, .inl rfl⟩
  | powerOnReset => exact .reset ..
  | timeBaseTick => exact .tick
  | linkByte => exact .link (linkMoves_linkByte ..)
  | gapTimerExpiry => exact .link (linkMoves_gapTimerExpiry s)
  | frameSendStart => exact .link (linkMoves_frameSendStart s)
  | frameSendEnd =>
    rcases linkMoves_frameSendEnd s with moves | reset
    · exact .link moves
    · rw [reset]
      exact .reset ..

/-- An invariant that the Link Port's doings, the blocks' works, each request, the tick and the resets keep is kept by every step. -/
theorem step_keeps_of_deed {P : State → Prop} (queue : ∀ s q, P s → P (s.setPending q))
    (deed : ∀ c s t, P s → Deed c s t → P t) {s t : State} (held : P s) (stepped : step s = .next t) : P t :=
  step_keeps (fun s q => queue s q) (fun c s t held done => deed c s t held (deed_of_done done)) held stepped

/-! ## The support set -/

theorem supportIsLoaded_calm {s t : State} (h : Calm s t) (held : SupportIsLoaded s) : SupportIsLoaded t := by
  intro l
  rw [h.support, h.quiet.contact l]
  exact held l

/-- A contact change report moves its foot into or out of the support set as its new state says; every other foot keeps its place. -/
theorem supportIsLoaded_report {s u : State} {l : Leg} {f : Foot} (told : Calm (s.setFeet (s.feet.set l f)) u)
    (held : SupportIsLoaded s) : SupportIsLoaded (contactReport l f.contact u) := by
  intro m
  rw [(supportFollows_contactReport l f.contact u).1, contactReport_feet, told.support, told.quiet.contact m,
    State.setFeet_feet, State.setFeet_bal, Quad.get_set, Quad.get_set]
  split
  · exact decide_eq_true_iff
  · exact held m

theorem supportIsLoaded_works {s t : State} (h : Works s t) (held : SupportIsLoaded s) : SupportIsLoaded t := by
  induction h with
  | calm h => exact supportIsLoaded_calm h held
  | att | bus => exact held
  | bal s b support =>
    intro l
    rw [State.setBal_bal, support]
    exact held l
  | @foot s l f _ same =>
    intro m
    rw [State.setFeet_feet, Quad.get_set]
    split
    case isTrue h => rw [same, ← h]; exact held m
    case isFalse => exact held m
  | report _ now told => exact now ▸ supportIsLoaded_report told held
  | trans _ _ first second => exact second (first held)

/-- After every reset no foot is LOADED and the support set is empty (R33, R52). -/
theorem supportIsLoaded_of_reset {s : State} (support : s.bal.support = Quad.const false)
    (feet : s.feet = Quad.const Foot.reset) : SupportIsLoaded s := by
  intro l
  rw [support, feet, Quad.get_const, Quad.get_const]
  decide

theorem supportIsLoaded_served {c : Instr} {s t : State} (h : Served c s t) (held : SupportIsLoaded s) : SupportIsLoaded t := by
  cases h with
  | supervision =>
    unfold takeSupervision
    dsimp only
    split
    · exact held
    · exact supportIsLoaded_calm (calm_restartSilence (s.setSup _)) held
  | stand => exact supportIsLoaded_calm (calm_standUp ..) held
  | sit => exact supportIsLoaded_calm (calm_enterSettling s) held
  | clearHold => exact supportIsLoaded_calm (calm_clearHold s) held
  | motion => exact supportIsLoaded_of_reset rfl rfl
  | append => exact supportIsLoaded_calm (calm_appendRecords ..) held
  | activate => exact supportIsLoaded_calm (calm_activate s) held
  | drain => exact supportIsLoaded_calm (calm_drain s) held
  | cut => exact supportIsLoaded_calm ((calm_setPlan s _).trans (calm_idleIfEmpty _)) held
  | mask =>
    unfold replaceMask
    dsimp only
    split
    · exact held
    · exact supportIsLoaded_calm (calm_requestNotice (s.setEv _)) held
  | _ => exact held

theorem LinkMoves.supportIsLoaded {s t : State} (h : LinkMoves s t) (held : SupportIsLoaded s) : SupportIsLoaded t := by
  rw [h.rest]
  exact held

theorem supportIsLoaded_deed {c : Instr} {s t : State} (held : SupportIsLoaded s) (deed : Deed c s t) : SupportIsLoaded t := by
  cases deed with
  | link h => exact h.supportIsLoaded held
  | works h => exact supportIsLoaded_works h held
  | served taken served replied => exact replied.supportIsLoaded (supportIsLoaded_served served (taken.supportIsLoaded held))
  | tick =>
    intro l
    simpa [tick] using held l
  | reset => exact supportIsLoaded_of_reset rfl rfl

/-! ## The ranges -/

/-- The ranges of the held sample (R36). -/
def SampleInRange (v : Vec3) : Prop :=
  -2000 ≤ v.x ∧ v.x ≤ 2000 ∧ -2000 ≤ v.y ∧ v.y ≤ 2000 ∧ 400 ≤ v.z ∧ v.z ≤ 3000

/-- The ranges of a foot's slip count, last load and qualify counter (R19, R21, R26). -/
def Foot.inRange (f : Foot) : Prop :=
  f.slip ≤ 121 ∧ (f.contact = .loaded → f.slip ≤ 120) ∧ f.lastLoad ≤ 1600 ∧ f.qualify ≤ 3

theorem clampInt_mem {lo hi : Int} (h : lo ≤ hi) (v : Int) : lo ≤ clampInt lo hi v ∧ clampInt lo hi v ≤ hi := by
  rw [clampInt_eq_max_min h]
  omega

theorem sampleInRange_intake (flip : Bool) (x y z : Int) : SampleInRange (intake flip x y z) :=
  ⟨(clampInt_mem (by decide) _).1, (clampInt_mem (by decide) _).2, (clampInt_mem (by decide) _).1,
    (clampInt_mem (by decide) _).2, (clampInt_mem (by decide) _).1, (clampInt_mem (by decide) _).2⟩

/-- The contact state machine counts at most three samples, and clears the slip count where a foot becomes LOADED (R20 to R25). -/
theorem inRange_sampledFoot {r : ClassRecord} {load : Nat} {f : Foot} (held : f.inRange) : (sampledFoot r load f).inRange := by
  obtain ⟨slip, loaded, lastLoad, qualify⟩ := held
  unfold sampledFoot
  dsimp only
  split <;> split <;> refine ⟨?_, ?_, ?_, ?_⟩ <;> repeat' split
  all_goals simp_all
  all_goals omega

theorem NextFoot.inRange {r : ClassRecord} {g f : Foot} (next : NextFoot r g f) (limit : r.slipLimit ≤ 60) (held : g.inRange) :
    f.inRange := by
  obtain ⟨slip, loaded, lastLoad, qualify⟩ := held
  cases next with
  | edge => exact ⟨slip, loaded, lastLoad, qualify⟩
  | stillFault => exact ⟨slip, loaded, Nat.zero_le _, qualify⟩
  | fault => exact ⟨Nat.zero_le _, fun _ => Nat.zero_le _, Nat.zero_le _, Nat.zero_le _⟩
  | sample most => exact inRange_sampledFoot ⟨slip, loaded, most, qualify⟩
  | pulse _ few =>
    have : g.slip + 1 ≤ 120 := by omega
    exact ⟨this.trans (by decide), fun _ => this, lastLoad, qualify⟩
  | slips was =>
    have := loaded was
    exact ⟨Nat.succ_le_succ this, nofun, lastLoad, qualify⟩

/-- The ranges of what the Attitude Port and the Contact Monitor hold, with the slip limit they rest on. -/
def SensorsInRange (s : State) : Prop :=
  (∀ k, (s.surf.get k).slipLimit ≤ 60) ∧ SampleInRange s.att.sample ∧ ∀ l, (s.feet.get l).inRange

/-- The ranges of the configuration records and of the silence limit. -/
def RecordsInRange (s : State) : Prop :=
  s.geo.inRange ∧ (∀ k, (s.surf.get k).inRange) ∧ s.balCfg.inRange ∧ s.gait.inRange ∧
    (s.sup.silenceLimit = 0 ∨ 50 ≤ s.sup.silenceLimit ∧ s.sup.silenceLimit ≤ 5000)

theorem inRange_iff (s : State) : InRange s ↔ RecordsInRange s ∧ SensorsInRange s := by
  constructor
  · rintro ⟨geo, surf, balCfg, gait, limit, sample, feet⟩
    exact ⟨⟨geo, surf, balCfg, gait, limit⟩, fun k => (surf k).2.2.2.1, sample, feet⟩
  · rintro ⟨⟨geo, surf, balCfg, gait, limit⟩, -, sample, feet⟩
    exact ⟨geo, surf, balCfg, gait, limit, sample, feet⟩

theorem sensorsInRange_quiet {s t : State} (h : Quiet s t) (held : SensorsInRange s) : SensorsInRange t := by
  obtain ⟨limit, sample, feet⟩ := held
  refine ⟨by rwa [h.surf], by rwa [h.att], fun l => ?_⟩
  rw [h.feet l]
  exact feet l

theorem sensorsInRange_setFoot {s : State} {l : Leg} {f : Foot} (next : NextFoot (recordInForce s l) (s.feet.get l) f)
    (held : SensorsInRange s) : SensorsInRange (s.setFeet (s.feet.set l f)) := by
  obtain ⟨limit, sample, feet⟩ := held
  refine ⟨limit, sample, fun m => ?_⟩
  rw [State.setFeet_feet, Quad.get_set]
  split
  · exact next.inRange (limit _) (feet l)
  · exact feet m

theorem sensorsInRange_works {s t : State} (h : Works s t) (held : SensorsInRange s) : SensorsInRange t := by
  induction h with
  | calm h => exact sensorsInRange_quiet h.quiet held
  | att s a sample =>
    refine ⟨held.1, ?_, held.2.2⟩
    rcases sample with kept | ⟨flip, x, y, z, taken⟩
    · rw [State.setAtt_att, kept]
      exact held.2.1
    · rw [State.setAtt_att, taken]
      exact sampleInRange_intake ..
  | bus | bal => exact held
  | foot next => exact sensorsInRange_setFoot next held
  | report next _ told =>
    exact sensorsInRange_quiet (quiet_contactReport ..) (sensorsInRange_quiet told.quiet (sensorsInRange_setFoot next held))
  | trans _ _ first second => exact second (first held)

theorem recordsInRange_beside {s t : State} (h : Beside s t) (held : RecordsInRange s) : RecordsInRange t := by
  unfold RecordsInRange
  rwa [h.geo, h.surf, h.balCfg, h.gait, h.silenceLimit]

/-! ## The ranges at a request -/

theorem inRange_eq_true {lo hi v : Int} : inRange lo hi v = true ↔ lo ≤ v ∧ v ≤ hi := decide_eq_true_iff

theorem inRangeN_eq_true {lo hi v : Nat} : inRangeN lo hi v = true ↔ lo ≤ v ∧ v ≤ hi := decide_eq_true_iff

theorem geometryOk_iff (g : Geometry) : geometryOk g = true ↔ g.inRange := by
  simp only [geometryOk, Geometry.inRange, Bool.and_eq_true, Quad.all_iff, inRange_eq_true, decide_eq_true_iff]
  constructor
  · rintro ⟨⟨⟨⟨⟨⟨⟨⟨⟨⟨hx, hy⟩, cx⟩, cy⟩, cz⟩, reach⟩, zMin⟩, zMax⟩, order⟩, standing⟩, park⟩
    exact ⟨fun l => ⟨(hx l).1, (hx l).2, (hy l).1, (hy l).2⟩, ⟨cx.1, cx.2, cy.1, cy.2, cz.1, cz.2⟩, reach,
      ⟨zMin.1, zMin.2, zMax.1, zMax.2, order⟩, standing, park⟩
  · rintro ⟨hips, com, reach, z, standing, park⟩
    exact ⟨⟨⟨⟨⟨⟨⟨⟨⟨⟨fun l => ⟨(hips l).1, (hips l).2.1⟩, fun l => (hips l).2.2⟩, by omega⟩, by omega⟩, by omega⟩, reach⟩,
      by omega⟩, by omega⟩, z.2.2.2.2⟩, standing⟩, park⟩

theorem classRecordOk_iff (r : ClassRecord) : classRecordOk r = true ↔ r.inRange := by
  simp only [classRecordOk, ClassRecord.inRange, Bool.and_eq_true, inRange_eq_true, inRangeN_eq_true]
  omega

theorem balanceCfgOk_iff (b : BalanceCfg) : balanceCfgOk b = true ↔ b.inRange := by
  simp only [balanceCfgOk, BalanceCfg.inRange, Bool.and_eq_true, inRange_eq_true, inRangeN_eq_true]
  omega

theorem gaitCfgOk_iff (g : GaitCfg) : gaitCfgOk g = true ↔ g.inRange := by
  simp only [gaitCfgOk, GaitCfg.inRange, Bool.and_eq_true, inRangeN_eq_true]
  omega

theorem Surfaces.get_set (t : Surfaces) (c k : SurfaceClass) (r : ClassRecord) :
    (t.set c r).get k = if k = c then r else t.get k := by
  cases c <;> cases k <;> rfl

theorem inRange_beside_works {s t : State} (h : Works s t) (held : InRange s) : InRange t := by
  rw [inRange_iff] at held ⊢
  exact ⟨recordsInRange_beside h.beside held.1, sensorsInRange_works h held.2⟩

theorem sampleInRange_reset : SampleInRange ⟨0, 0, 1000⟩ := by
  unfold SampleInRange
  decide

theorem footInRange_of_reset {s : State} (feet : s.feet = Quad.const Foot.reset) (l : Leg) : (s.feet.get l).inRange := by
  rw [feet, Quad.get_const]
  exact ⟨by decide, fun _ => by decide, by decide, by decide⟩

theorem inRange_motionReset {s : State} (held : InRange s) : InRange (motionReset s) := by
  obtain ⟨geo, surf, balCfg, gait, limit, -, -⟩ := held
  exact ⟨geo, surf, balCfg, gait, limit, sampleInRange_reset, footInRange_of_reset rfl⟩

theorem inRange_powerOnValues (rate : Nat) (flip : Bool) (s : State) : InRange (powerOnValues rate flip s) := by
  have geo : geometryOk Geometry.default = true := by decide
  have surf : ∀ k, classRecordOk (Surfaces.default.get k) = true := by
    intro k
    cases k <;> decide
  have balCfg : balanceCfgOk BalanceCfg.default = true := by decide
  have gait : gaitCfgOk GaitCfg.default = true := by decide
  exact ⟨(geometryOk_iff _).mp geo, fun k => (classRecordOk_iff _).mp (surf k), (balanceCfgOk_iff _).mp balCfg,
    (gaitCfgOk_iff _).mp gait, .inl rfl, sampleInRange_reset, footInRange_of_reset rfl⟩

theorem inRange_served {c : Instr} {s t : State} (h : Served c s t) (held : InRange s) : InRange t := by
  have calm : ∀ {u}, Calm s u → InRange u := fun k => inRange_beside_works (.calm k) held
  have ⟨geo, surf, balCfg, gait, limit, sensors⟩ := held
  cases h with
  | geometry _ ok => exact ⟨(geometryOk_iff _).mp ok, surf, balCfg, gait, limit, sensors⟩
  | surface _ ok =>
    refine ⟨geo, fun k => ?_, balCfg, gait, limit, sensors⟩
    rw [State.setSurf_surf, Surfaces.get_set]
    split
    · exact (classRecordOk_iff _).mp ok
    · exact surf k
  | balance _ ok => exact ⟨geo, surf, (balanceCfgOk_iff _).mp ok, gait, limit, sensors⟩
  | gait _ ok => exact ⟨geo, surf, balCfg, (gaitCfgOk_iff _).mp ok, limit, sensors⟩
  | supervision ok =>
    unfold takeSupervision
    dsimp only
    split
    · exact ⟨geo, surf, balCfg, gait, ok, sensors⟩
    · exact inRange_beside_works (.calm (calm_restartSilence (s.setSup _))) ⟨geo, surf, balCfg, gait, ok, sensors⟩
  | stand => exact calm (calm_standUp ..)
  | sit => exact calm (calm_enterSettling s)
  | clearHold => exact calm (calm_clearHold s)
  | motion => exact inRange_motionReset held
  | append => exact calm (calm_appendRecords ..)
  | activate => exact calm (calm_activate s)
  | drain => exact calm (calm_drain s)
  | cut => exact calm ((calm_setPlan s _).trans (calm_idleIfEmpty _))
  | mask =>
    unfold replaceMask
    dsimp only
    split
    · exact held
    · exact inRange_beside_works (.calm (calm_requestNotice (s.setEv _))) held
  | _ => exact held

theorem LinkMoves.inRange {s t : State} (h : LinkMoves s t) (held : InRange s) : InRange t := by
  rw [h.rest]
  exact held

theorem inRange_deed {c : Instr} {s t : State} (held : InRange s) (deed : Deed c s t) : InRange t := by
  cases deed with
  | link h => exact h.inRange held
  | works h => exact inRange_beside_works h held
  | served taken served replied => exact replied.inRange (inRange_served served (taken.inRange held))
  | tick =>
    obtain ⟨geo, surf, balCfg, gait, limit, sample, feet⟩ := held
    refine ⟨geo, surf, balCfg, gait, limit, sample, fun l => ?_⟩
    simpa [tick] using feet l
  | reset rate flip => exact inRange_powerOnValues rate flip s

/-- Settles O22: what `Works` makes of a foot or a sample, and what a request checks, stays in range. -/
theorem rangesAreKept : Obligations.RangesAreKept := by
  unfold Obligations.RangesAreKept
  intro s t
  exact step_keeps_of_deed (fun _ _ held => held) fun _ _ _ => inRange_deed

/-- Settles O27: a foot changes its contact state with a report, and the report moves it into or out of the support set. -/
theorem supportSetFollowsContact : Obligations.SupportSetFollowsContact := by
  unfold Obligations.SupportSetFollowsContact
  intro s t
  exact step_keeps_of_deed (fun _ _ held => held) fun _ _ _ => supportIsLoaded_deed

end Sys2Proof.Machine
end

section
/-! THE BOARD. Of a state only a little decides which legs may move: which records wait and stand, what is queued and read, where each
leg is. `Board` holds that much, `PlanMove` and `Move` what the blocks can do to it, and each operation is shown once to be made of
such moves. An invariant that speaks of the board is then proved move by move. -/

namespace Sys2Proof.Machine

/-! ## What the board shows -/

/-- Of a leg: its phase, its motion, the record it serves, and whether a step's data stand. -/
structure LegView where
  phase : Phase
  motion : Option Motion
  record : Option Nat
  planned : Bool

def LegSeq.view (q : LegSeq) : LegView := ⟨q.phase, q.motion, q.record, q.step.isSome⟩

/-- Of a record in the issue window: its id, its legs, its condition, and which legs have reported. -/
structure Seat where
  id : Nat
  legs : List Leg
  cond : Condition
  reported : List Leg

def WindowRecord.seat (w : WindowRecord) : Seat := ⟨w.body.id, w.body.legs, w.cond, w.reports.map LegReport.leg⟩

/-- Of a swing request: its id and its legs. -/
def SwingRequest.named (q : SwingRequest) : Nat × List Leg := (q.id, q.legs)

/-- Of what an evaluation has read: the phases and the requests. -/
structure ReadView where
  phases : Quad Phase
  queue : List (Nat × List Leg)

def EvalInputs.view (e : EvalInputs) : ReadView := ⟨e.phases, e.requests.map SwingRequest.named⟩

/-- What decides which legs may move. -/
structure Board where
  waits : List Nat
  window : List Seat
  state : PlanState
  logged : Nat
  mode : Mode
  legs : Quad LegView
  queue : List (Nat × List Leg)
  eval : Option ReadView
  bus : Bus

def board (s : State) : Board where
  waits := s.plan.list.map PlanRecord.id
  window := s.plan.window.map WindowRecord.seat
  state := s.plan.state
  logged := s.plan.log.length
  mode := s.sup.mode
  legs := s.legs.map LegSeq.view
  queue := s.bal.queue.map SwingRequest.named
  eval := s.bal.eval.map EvalInputs.view
  bus := s.bus

/-- The plan runs (R82). -/
def Board.runs (b : Board) : Bool := decide (b.state = .active ∨ b.state = .draining)

/-- The ids in the plan list and the window (R73). -/
def Board.ids (b : Board) : List Nat := b.waits ++ b.window.map Seat.id

theorem board_runs (s : State) : (board s).runs = planRuns s := rfl

theorem board_ids (s : State) : (board s).ids = idsInPlan s := by
  simp [Board.ids, idsInPlan, board, Function.comp_def, WindowRecord.seat]

/-- The room of the transaction queue, and the range of the timeout counts, are kept from one bus to another (R128, R137). -/
def BusKeeps (b c : Bus) : Prop :=
  ∀ l, ((b.queue.filter (Txn.isSetpointFor l)).length ≤ 1 → (c.queue.filter (Txn.isSetpointFor l)).length ≤ 1) ∧
    ((b.queue.filter (Txn.isPollFor l)).length ≤ 1 → (c.queue.filter (Txn.isPollFor l)).length ≤ 1) ∧
    ((b.drives.get l).timeouts ≤ 3 → (c.drives.get l).timeouts ≤ 3)

/-! ## Moves -/

/-- The queue without the requests of some records. -/
def without (ids : List Nat) (queue : List (Nat × List Leg)) : List (Nat × List Leg) :=
  queue.filter fun q => !(ids.contains q.1)

/-- What the Step Planner and the Drive Bus Controller can do to the board: no leg moves and the mode is kept. `x` names a leg whose
outcome is being reported, if there is one. -/
inductive PlanMove (x : Option Leg) (b : Board) : Board → Prop
  | bus {u : Bus} (h : BusKeeps b.bus u) : PlanMove x b { b with bus := u }
  | log {n : Nat} (h : b.logged ≤ 16 → n ≤ 16) : PlanMove x b { b with logged := n }
  | await {id : Nat} {rest : List Nat} {legs : List Leg} (active : b.state = .active) (head : b.waits = id :: rest)
      (ready : ∀ l ∈ legs, (b.legs.get l).phase = .stance ∧ ∀ w ∈ b.window, l ∉ w.legs) :
      PlanMove x b
        { b with waits := rest, window := b.window ++ [⟨id, legs, .waiting, []⟩], queue := b.queue ++ [(id, legs)] }
  | shift {id : Nat} {rest : List Nat} {legs : List Leg} (active : b.state = .active) (head : b.waits = id :: rest)
      (alone : b.window = []) : PlanMove x b { b with waits := rest, window := [⟨id, legs, .running, []⟩] }
  | stop {p : PlanState} (alone : b.window = []) (stopped : p ≠ .active ∧ p ≠ .draining) : PlanMove x b { b with state := p }
  | drain (active : b.state = .active) : PlanMove x b { b with state := .draining }
  | forget (ids : List Nat) :
      PlanMove x b { b with
        queue := without ids b.queue, eval := b.eval.map fun e => { e with queue := without ids e.queue } }
  | withdraw (free : ∀ q ∈ b.queue, ∀ w ∈ b.window, w.cond = .waiting → w.id ≠ q.1) :
      PlanMove x b { b with
        window := b.window.filter fun w => decide (w.cond ≠ .waiting)
        waits := (b.window.filter fun w => decide (w.cond = .waiting)).map Seat.id ++ b.waits }
  | remove {w : Seat} (mem : w ∈ b.window)
      (done : b.ids.Nodup → w.cond ≠ .waiting ∧ (w.cond = .granted → ∀ l ∈ w.legs, l ∈ w.reported)) :
      PlanMove x b { b with window := b.window.filter fun v => decide (v.id ≠ w.id) }
  | report {l : Leg} {w : Seat} (exempt : x = some l) (mem : w ∈ b.window) (granted : w.cond = .granted) :
      PlanMove x b { b with
        window := b.window.map fun v => if v.id = w.id then { w with reported := w.reported ++ [l] } else v }
  | activate (standing : b.mode = .standing) : PlanMove x b { b with state := .active }
  | append {ids : List Nat} (fresh : b.ids.Nodup → (ids ++ b.ids).Nodup)
      (room : b.waits.length + b.window.length + ids.length ≤ 32) : PlanMove x b { b with waits := b.waits ++ ids }
  | cut {kept : List Nat} (ahead : kept <+: b.waits) : PlanMove x b { b with waits := kept }

/-- Any number of the Step Planner's moves. -/
def PlanFlow (x : Option Leg) : Board → Board → Prop := Relation.ReflTransGen (PlanMove x)

/-- A standing phase for every leg, with nothing of a motion left (R98). -/
def LegView.settled (p : Phase) : LegView := ⟨p, none, none, false⟩

/-- What the blocks can do to the board apart from an evaluation, a brace and a SAFE_HOLD entry. A leg whose outcome is reported
before its motion follows is exempt from what a stepping leg owes meanwhile. `g` allows the arbiter's moves, of which nothing but
the plan's ids and the mode is kept. -/
inductive Move (g : Prop) : Option Leg × Board → Option Leg × Board → Prop
  | plan {x : Option Leg} {b c : Board} (h : PlanMove x b c) : Move g (x, b) (x, c)
  | settle {x : Option Leg} {b : Board} (stopped : b.runs = false ∨ b.mode = .safeHold) :
      Move g (x, b) (x, { b with mode := .settling, legs := Quad.const (LegView.settled .posture) })
  | fly {b : Board} {l : Leg} {v : LegView} (moving : (b.legs.get l).motion ≠ none)
      (off : v.phase = .swing ∨ v.phase = .reach) (moves : v.motion ≠ none)
      (steps : v.motion = some .step → (b.legs.get l).motion = some .step ∧ v.record = (b.legs.get l).record ∧
        v.planned = (b.legs.get l).planned) : Move g (none, b) (none, { b with legs := b.legs.set l v })
  | except {b : Board} (l : Leg) : Move g (none, b) (some l, b)
  | alight {b : Board} {l : Leg} {v : LegView} (moving : (b.legs.get l).motion ≠ none) (v_eq : v = { b.legs.get l with phase := .stance }) :
      Move g (none, b) (some l, { b with legs := b.legs.set l v })
  | turn {b : Board} {l : Leg} {v : LegView} (airborne : (b.legs.get l).phase.airborne = true)
      (moving : (b.legs.get l).motion ≠ none) (off : v.phase = .swing ∨ v.phase = .reach) (moves : v.motion ≠ none)
      (noStep : v.motion ≠ some .step) : Move g (some l, b) (none, { b with legs := b.legs.set l v })
  | clear {b : Board} {l : Leg} {v : LegView} (still : v.motion = none) (stays : v.phase = (b.legs.get l).phase) :
      Move g (some l, b) (none, { b with legs := b.legs.set l v })
  | stand {b : Board} (parked : b.mode = .parked) :
      Move g (none, b) (none, { b with mode := .rising, legs := b.legs.map fun v => { v with phase := .posture } })
  | standing {b : Board} (was : b.mode = .rising ∨ b.mode = .safeHold) :
      Move g (none, b) (none, { b with mode := .standing, legs := Quad.const (LegView.settled .stance) })
  | park {b : Board} (settling : b.mode = .settling) :
      Move g (none, b) (none,
        { b with mode := .parked, state := .idle, legs := b.legs.map fun v => { v with phase := .folded } })
  | lift {x : Option Leg} {b : Board} (allowed : g) (legs : Quad LegView) : Move g (x, b) (x, { b with legs := legs })
  | relabel {x : Option Leg} {b : Board} (allowed : g) {f : Seat → Seat} (same : ∀ w, (f w).id = w.id) :
      Move g (x, b) (x, { b with window := b.window.map f })
  | drop {x : Option Leg} {b : Board} (allowed : g) (idle : b.eval = none) : Move g (x, b) (x, { b with queue := b.queue.tail })
  | strike {x : Option Leg} {b : Board} (allowed : g) (id : Nat) :
      Move g (x, b) (x, { b with window := b.window.filter fun v => decide (v.id ≠ id) })

/-- Any number of moves. -/
def Flow (g : Prop) : Option Leg × Board → Option Leg × Board → Prop := Relation.ReflTransGen (Move g)

theorem PlanFlow.flow {g : Prop} {x : Option Leg} {b c : Board} (h : PlanFlow x b c) : Flow g (x, b) (x, c) := by
  induction h with
  | refl => exact .refl
  | tail _ move ih => exact ih.tail (.plan move)

/-- What the Step Planner does leaves every leg and the mode. -/
theorem PlanFlow.keeps {x : Option Leg} {b c : Board} (h : PlanFlow x b c) : c.legs = b.legs ∧ c.mode = b.mode := by
  induction h with
  | refl => exact ⟨rfl, rfl⟩
  | tail _ move ih => cases move <;> exact ih

/-! ## What the updates do to the board -/

section
variable (x : Option Leg) (s : State)

theorem Quad.map_set {α β : Type} (f : α → β) (q : Quad α) (l : Leg) (a : α) : (q.set l a).map f = (q.map f).set l (f a) := by
  cases l <;> rfl

theorem board_modLeg (l : Leg) (f : LegSeq → LegSeq) (s : State) :
    board (modLeg l f s) = { board s with legs := (board s).legs.set l (f (s.legs.get l)).view } := by
  simp only [modLeg, board, State.setLegs, Quad.map_set]

theorem board_legs (l : Leg) : (board s).legs.get l = (s.legs.get l).view := Quad.get_map ..

theorem board_modLeg_of_view {l : Leg} {f : LegSeq → LegSeq} {s : State} (same : (f (s.legs.get l)).view = (s.legs.get l).view) :
    board (modLeg l f s) = board s := by
  rw [board_modLeg, same, ← board_legs, Quad.set_get_self]

theorem board_raise (e : Event) : board (raise e s) = board s := by
  rw [(linkMoves_raise e s).rest]
  rfl

theorem board_raiseIf (b : Bool) (e : Event) : board (if b then raise e s else s) = board s := by
  cases b
  · rfl
  · exact board_raise s e

theorem board_bump (k : Counter) : board (bump k s) = board s := rfl

theorem board_restartSilence : board (restartSilence s) = board s := by
  rw [(linkMoves_restartSilence s).rest]
  rfl

theorem board_offerFault (k : FaultKind) (l : Option Leg) : board (offerFault k l s) = board s := by
  unfold offerFault
  split <;> rfl

theorem board_changeMode (m : Mode) : board (changeMode m s) = { board s with mode := m } := by
  unfold changeMode
  dsimp only
  split
  · rw [board_restartSilence, board_raise]
    rfl
  · exact board_raise (s.setSup _) .modeChange

theorem board_startSupportLost : board (startSupportLost s) = board s := by
  unfold startSupportLost
  split <;> rfl

theorem board_modWindow (id : Nat) (f : WindowRecord → WindowRecord) (same : ∀ w, (f w).seat = w.seat) :
    board (modWindow id f s) = board s := by
  have seats : (s.plan.window.map fun w => if w.body.id = id then f w else w).map WindowRecord.seat =
      s.plan.window.map WindowRecord.seat := by
    rw [List.map_map]
    refine List.map_congr_left fun w _ => ?_
    by_cases h : w.body.id = id
    · simp [h, same]
    · simp [h]
  unfold modWindow board
  dsimp only [State.setPlan]
  rw [seats]

theorem board_markRecord (id : Nat) : board (markRecord id s) = board s := board_modWindow s id _ fun _ => rfl

/-! ## The transaction queue -/

theorem BusKeeps.refl (b : Bus) : BusKeeps b b := fun _ => ⟨id, id, id⟩

theorem isSetpointFor_of {l : Leg} {t : Txn} (h : t.isSetpointFor l = true) : t.leg = l := by
  unfold Txn.isSetpointFor at h
  split at h
  · exact of_decide_eq_true h
  · cases h

/-- A setpoint in place of another for the same drive leaves every count as it was (R129). -/
theorem filter_coalesced (p : Txn → Bool) (l : Leg) (t : Txn) (queue : List Txn)
    (same : ∀ u, u.isSetpointFor l = true → p u = p t) :
    (queue.map fun u => if u.isSetpointFor l then t else u).filter p =
      (queue.filter p).map fun u => if u.isSetpointFor l then t else u := by
  rw [List.filter_map]
  refine congrArg _ (List.filter_congr fun u _ => ?_)
  by_cases h : u.isSetpointFor l = true
  · simp [h, same u h]
  · simp [h]

theorem isSetpointFor_setpoint (l m : Leg) (v : Vec3) (speed : Nat) (hold : Bool) :
    (⟨l, .setpoint v speed hold⟩ : Txn).isSetpointFor m = decide (l = m) := rfl

theorem isSetpointFor_eq_decide {l : Leg} {t : Txn} (h : t.isSetpointFor l = true) (m : Leg) :
    t.isSetpointFor m = decide (l = m) := by
  obtain ⟨leg, op⟩ := t
  cases op with
  | setpoint =>
    have : leg = l := isSetpointFor_of h
    rw [← this]
    rfl
  | poll => cases h

theorem isPollFor_eq_false {l : Leg} {t : Txn} (h : t.isSetpointFor l = true) (m : Leg) : t.isPollFor m = false := by
  obtain ⟨leg, op⟩ := t
  cases op with
  | setpoint => rfl
  | poll => cases h

/-- A setpoint at the tail, where none waits for its drive. -/
theorem busKeeps_append {b : Bus} {t : Txn} {l : Leg} (setpoint : t.isSetpointFor l = true)
    (none : b.queue.any (Txn.isSetpointFor l) = false) : BusKeeps b { b with queue := b.queue ++ [t] } := by
  intro m
  have single : ∀ p : Txn → Bool, ([t].filter p).length = if p t then 1 else 0 := by
    intro p
    cases h : p t <;> simp [h]
  refine ⟨fun few => ?_, fun few => ?_, fun few => few⟩
  · rw [List.filter_append, List.length_append, single, isSetpointFor_eq_decide setpoint]
    by_cases h : l = m
    · subst h
      have : b.queue.filter (Txn.isSetpointFor l) = [] := by
        rw [List.filter_eq_nil_iff]
        exact fun u mem => by simpa using List.any_eq_false.mp none u mem
      simp [this]
    · simpa [h] using few
  · rw [List.filter_append, List.length_append, single, isPollFor_eq_false setpoint]
    exact few

/-- From `s` to `t` only the bus has changed of the board, its queue within its room. -/
def Sends (s t : State) : Prop := BusKeeps s.bus t.bus ∧ board t = { board s with bus := t.bus }

variable {s}

theorem BusKeeps.trans {b c d : Bus} (h : BusKeeps b c) (k : BusKeeps c d) : BusKeeps b d := fun l =>
  ⟨fun few => (k l).1 ((h l).1 few), fun few => (k l).2.1 ((h l).2.1 few), fun few => (k l).2.2 ((h l).2.2 few)⟩

theorem Sends.refl (s : State) : Sends s s := ⟨.refl _, rfl⟩

theorem Sends.of_board_eq {t : State} (same : board t = board s) : Sends s t := by
  have bus : t.bus = s.bus := congrArg Board.bus same
  exact ⟨bus ▸ .refl _, by rw [same, bus]; rfl⟩

theorem Sends.trans {t u : State} (h : Sends s t) (k : Sends t u) : Sends s u := ⟨h.1.trans k.1, by rw [k.2, h.2]⟩

theorem Sends.planFlow {t : State} (h : Sends s t) : PlanFlow x (board s) (board t) := by
  rw [h.2]
  exact .single (.bus h.1)

variable (s)

/-- Taking a setpoint keeps the room of the queue (R128, R129). -/
theorem sends_handover (l : Leg) (v : Vec3) (speed : Nat) (hold : Bool) : Sends s (handover l v speed hold s) := by
  unfold handover
  split
  · exact .refl s
  · split
    · refine ⟨fun m => ⟨fun few => ?_, fun few => ?_, fun few => few⟩, rfl⟩
      · dsimp only [State.setBus_bus]
        rw [filter_coalesced _ _ _ _ fun u h => by rw [isSetpointFor_eq_decide h, isSetpointFor_setpoint], List.length_map]
        exact few
      · dsimp only [State.setBus_bus]
        rw [filter_coalesced _ _ _ _ fun u h => by rw [isPollFor_eq_false h]; rfl, List.length_map]
        exact few
    case isFalse none => exact ⟨busKeeps_append (decide_eq_true rfl) (by simpa using none), rfl⟩

theorem sends_setpoint {f : LegSeq → LegSeq} (same : ∀ q, (f q).view = q.view) (l : Leg) (v : Vec3) (speed : Nat)
    (hold : Bool) : Sends s (handover l v speed hold (modLeg l f s)) :=
  (Sends.of_board_eq (board_modLeg_of_view (same _))).trans (sends_handover ..)

theorem sends_sendSetpoint (l : Leg) (v : Vec3) (speed : Nat) : Sends s (sendSetpoint l v speed s) :=
  sends_setpoint s (by intro; rfl) ..

theorem sends_sendHold (l : Leg) : Sends s (sendHold l s) := sends_setpoint s (by intro; rfl) ..

theorem sends_resendSetpoint (l : Leg) (speed : Nat) : Sends s (resendSetpoint l speed s) :=
  sends_setpoint s (by intro; rfl) ..

theorem sends_forLegs {f : Leg → State → State} (each : ∀ l s, Sends s (f l s)) (ls : List Leg) (s : State) :
    Sends s (forLegs f ls s) := by
  induction ls generalizing s with
  | nil => exact .refl s
  | cons l rest ih => exact (each l s).trans (ih _)

theorem sends_holdLegs (ls : List Leg) : Sends s (holdLegs ls s) := sends_forLegs (fun l s => sends_sendHold s l) ls s

theorem sends_sendPose (p : Vec3) : Sends s (sendPose p s) := sends_forLegs (fun _ _ => sends_sendSetpoint ..) _ s

end

end Sys2Proof.Machine
end

section
/-! THE STEP PLANNER ON THE BOARD. Each of its operations is made of planner moves, with the test of a pending settle last. -/

namespace Sys2Proof.Machine

section
variable (x : Option Leg) (s : State)

/-! ## Issue -/

theorem board_setPlan (s : State) (p : Planner) :
    board (s.setPlan p) = { board s with
      waits := p.list.map PlanRecord.id, window := p.window.map WindowRecord.seat, state := p.state, logged := p.log.length } :=
  rfl

theorem board_shiftTimer (timer : Option Nat) (s : State) : board (s.setPlan { s.plan with shiftTimer := timer }) = board s := rfl

theorem sends_startShift (id : Nat) (d : Vec3) : Sends s (startShift id d s) := by
  have sent : Sends s (forLegs (sendShifted d.neg) legsInOrder
      (if legsInOrder.any (fun l => isClamped s.geo l (shiftedTarget s d.neg l)) then markRecord id s else s)) := by
    refine Sends.trans ?_ (sends_forLegs (fun _ _ => sends_sendSetpoint ..) _ _)
    split
    · exact .of_board_eq (board_markRecord s id)
    · exact .refl s
  exact sent.trans (.of_board_eq (board_shiftTimer _ _))

/-- A record found in the window by its id. -/
theorem findWindow_some {id : Nat} {s : State} {w : WindowRecord} (found : findWindow id s = some w) :
    w ∈ s.plan.window ∧ w.body.id = id :=
  ⟨List.mem_of_find?_eq_some found, by simpa using List.find?_some found⟩

theorem canIssue_active {r : PlanRecord} {s : State} (h : canIssue r s = true) : s.plan.state = .active := by
  simp only [canIssue, Bool.and_eq_true, decide_eq_true_iff] at h
  exact h.1.1.1.1.1.1

/-- The legs of an issued STEP or PAIR stand, and no record of the window names them (R76). -/
theorem canIssue_ready {r : PlanRecord} {s : State} (h : canIssue r s = true) (kind : r.kind ≠ .shift) :
    ∀ l ∈ r.legs, ((board s).legs.get l).phase = .stance ∧ ∀ w ∈ (board s).window, l ∉ w.legs := by
  intro l mem
  have ready : legReady s l = true := by
    simp only [canIssue, Bool.and_eq_true] at h
    have last := h.2
    cases kindEq : r.kind with
    | shift => exact absurd kindEq kind
    | step | pair =>
      rw [kindEq] at last
      exact List.all_eq_true.mp last l mem
  simp only [legReady, Bool.and_eq_true, Bool.not_eq_true', decide_eq_true_iff] at ready
  obtain ⟨⟨stance, unnamed⟩, -⟩ := ready
  refine ⟨by rw [board_legs]; exact stance, fun w seated named => ?_⟩
  obtain ⟨v, window, rfl⟩ := List.mem_map.mp seated
  exact List.any_eq_false.mp unnamed v window (List.elem_eq_true_of_mem named)

/-- A SHIFT is issued alone (R76). -/
theorem canIssue_alone {r : PlanRecord} {s : State} (h : canIssue r s = true) (kind : r.kind = .shift) : s.plan.window = [] := by
  simp only [canIssue, Bool.and_eq_true] at h
  have last := h.2
  rw [kind] at last
  rw [Bool.and_eq_true] at last
  exact List.isEmpty_iff.mp last.1

theorem planFlow_issueHead {r : PlanRecord} {rest : List PlanRecord} {s : State} (can : canIssue r s = true)
    (head : s.plan.list = r :: rest) : PlanFlow x (board s) (board (issueHead r rest s)) := by
  have active := canIssue_active can
  have heads : (board s).waits = r.id :: rest.map PlanRecord.id := congrArg (List.map PlanRecord.id) head
  have waits : r.kind ≠ .shift → PlanFlow x (board s) (board
      ((s.setPlan { s.plan with
          list := rest, window := s.plan.window ++ [⟨{ r with preshifts := 0 }, .waiting, []⟩] }).setBal
        { s.bal with queue := s.bal.queue ++ [⟨r.id, r.legs, r.noPreshift, 0⟩] })) := fun kind => by
    have move := PlanMove.await (x := x) active heads (canIssue_ready can kind)
    have shown : board ((s.setPlan { s.plan with
          list := rest, window := s.plan.window ++ [⟨{ r with preshifts := 0 }, .waiting, []⟩] }).setBal
        { s.bal with queue := s.bal.queue ++ [⟨r.id, r.legs, r.noPreshift, 0⟩] }) =
        { board s with
          waits := rest.map PlanRecord.id, window := (board s).window ++ [⟨r.id, r.legs, .waiting, []⟩]
          queue := (board s).queue ++ [(r.id, r.legs)] } := by
      simp [board, WindowRecord.seat, SwingRequest.named]
    rw [shown]
    exact .single move
  unfold issueHead
  dsimp only
  split
  case h_1 kind =>
    have alone := canIssue_alone can kind
    refine .head (PlanMove.shift (legs := r.legs) active heads (congrArg (List.map WindowRecord.seat) alone)) ?_
    have shown : board (s.setPlan { s.plan with
        list := rest, window := s.plan.window ++ [⟨{ r with preshifts := 0 }, .running, []⟩] }) =
        { board s with waits := rest.map PlanRecord.id, window := [⟨r.id, r.legs, .running, []⟩] } := by
      simp [board, WindowRecord.seat, alone]
    exact shown ▸ (sends_startShift _ r.id r.disp).planFlow x
  case h_2 kind => exact waits (by rw [kind]; decide)
  case h_3 kind => exact waits (by rw [kind]; decide)

theorem issueHead_list (r : PlanRecord) (rest : List PlanRecord) (s : State) : (issueHead r rest s).plan.list = rest := by
  have sent : ∀ (d : Vec3) (ls : List Leg) (s : State), (forLegs (sendShifted d) ls s).plan = s.plan := by
    intro d ls
    induction ls with
    | nil => exact fun _ => rfl
    | cons l ls ih =>
      intro s
      refine (ih _).trans ?_
      unfold sendShifted sendSetpoint handover
      dsimp only
      split
      · rfl
      · split <;> rfl
  unfold issueHead
  dsimp only
  split
  · unfold startShift
    dsimp only
    rw [State.setPlan_plan, sent]
    split <;> rfl
  · rfl
  · rfl

theorem planFlow_issueFrom (rs : List PlanRecord) (s : State) (list : s.plan.list = rs) :
    PlanFlow x (board s) (board (issueFrom rs s)) := by
  induction rs generalizing s with
  | nil => exact .refl
  | cons r rest ih =>
    unfold issueFrom
    split
    case isTrue can => exact (planFlow_issueHead x can list).trans (ih _ (issueHead_list ..))
    case isFalse => exact .refl

theorem planFlow_issue : PlanFlow x (board s) (board (issue s)) := planFlow_issueFrom x _ s rfl

/-! ## Withdrawal -/

theorem sends_stopPreshift (ids : List Nat) : Sends s (stopPreshift ids s) := by
  unfold stopPreshift
  split
  · exact .refl s
  · split
    · exact (Sends.of_board_eq rfl).trans (sends_holdLegs (s.setBal { s.bal with preshift := none }) _)
    · exact .refl s

theorem filter_named (ids : List Nat) (queue : List SwingRequest) :
    (queue.filter fun q => !(ids.contains q.id)).map SwingRequest.named = without ids (queue.map SwingRequest.named) := by
  rw [without, List.filter_map]
  rfl

theorem board_removeRequests (ids : List Nat) :
    board (removeRequests ids s) = { board s with
      queue := without ids (board s).queue
      eval := (board s).eval.map fun e => { e with queue := without ids e.queue } } := by
  unfold removeRequests board
  dsimp only [State.setBal]
  rw [filter_named, Option.map_map, Option.map_map]
  refine congrArg (fun e => Board.mk _ _ _ _ _ _ _ e _) (congrFun (congrArg Option.map (funext fun e => ?_)) _)
  exact congrArg (ReadView.mk e.phases) (filter_named ids e.requests)

/-- The ids of the WAITING records of a window. -/
def waitingIds (ws : List Seat) : List Nat := (ws.filter fun w => decide (w.cond = .waiting)).map Seat.id

/-- Withdrawal returns the WAITING records to the head of the list and takes their requests from the queue and from a running
evaluation (R85, R118; log 19). -/
theorem board_withdrawWaiting :
    BusKeeps s.bus (withdrawWaiting s).bus ∧
      let ids := waitingIds (board s).window
      board (withdrawWaiting s) = { board s with
        window := (board s).window.filter fun w => decide (w.cond ≠ .waiting), waits := ids ++ (board s).waits
        queue := without ids (board s).queue
        eval := (board s).eval.map fun e => { e with queue := without ids e.queue }, bus := (withdrawWaiting s).bus } := by
  let ids := (s.plan.window.filter WindowRecord.isWaiting).map fun w => w.body.id
  have same : ids = waitingIds (board s).window := by
    unfold waitingIds board
    rw [List.filter_map, List.map_map]
    rfl
  let t := stopPreshift ids (removeRequests ids s)
  have stopped : Sends (removeRequests ids s) t := sends_stopPreshift _ ids
  refine ⟨stopped.1, ?_⟩
  have shown : board t = { board s with
      queue := without ids (board s).queue
      eval := (board s).eval.map fun e => { e with queue := without ids e.queue }, bus := t.bus } := by
    rw [stopped.2, board_removeRequests]
  have back : ((s.plan.window.filter WindowRecord.isWaiting).map WindowRecord.body ++ t.plan.list).map PlanRecord.id =
      ids ++ t.plan.list.map PlanRecord.id := by
    rw [List.map_append, List.map_map]
    rfl
  have left : (t.plan.window.filter fun w => !w.isWaiting).map WindowRecord.seat =
      (t.plan.window.map WindowRecord.seat).filter fun w => decide (w.cond ≠ .waiting) := by
    rw [List.filter_map]
    refine congrArg _ (List.filter_congr fun w _ => ?_)
    rw [WindowRecord.isWaiting, ← decide_not]
    rfl
  have withdrawn : board (withdrawWaiting s) = { board t with
      window := (board t).window.filter fun w => decide (w.cond ≠ .waiting), waits := ids ++ (board t).waits } := by
    have set := board_setPlan t { t.plan with
      window := t.plan.window.filter fun w => !w.isWaiting
      list := (s.plan.window.filter WindowRecord.isWaiting).map WindowRecord.body ++ t.plan.list }
    rw [left, back] at set
    exact set
  rw [withdrawn, shown, same]
  rfl

theorem planFlow_withdrawWaiting : PlanFlow x (board s) (board (withdrawWaiting s)) := by
  obtain ⟨room, shown⟩ := board_withdrawWaiting s
  rw [shown]
  refine .tail (.tail (.single (.forget (waitingIds (board s).window))) (.bus room)) (.withdraw fun q mem w seated waiting same => ?_)
  have gone : q.1 ∉ waitingIds (board s).window := by simpa using (List.mem_filter.mp mem).2
  have named : w.id ∈ waitingIds (board s).window :=
    List.mem_map_of_mem (List.mem_filter.mpr ⟨seated, decide_eq_true waiting⟩)
  exact gone (same ▸ named)

/-! ## Leaving ACTIVE and DRAINING -/

/-- From `s` the Step Planner's moves lead to `t`, and the test of a pending settle may follow them. -/
def Tested (s t : State) : Prop := ∃ u, PlanFlow x (board s) (board u) ∧ (t = u ∨ t = settleTest u)

variable {x s} {t u : State}

theorem Tested.refl (x : Option Leg) (s : State) : Tested x s s := ⟨s, .refl, .inl rfl⟩

theorem PlanFlow.tested (h : PlanFlow x (board s) (board t)) : Tested x s t := ⟨t, h, .inl rfl⟩

theorem PlanFlow.test (h : PlanFlow x (board s) (board t)) : Tested x s (settleTest t) := ⟨t, h, .inr rfl⟩

theorem Tested.after (k : Tested x t u) (h : PlanFlow x (board s) (board t)) : Tested x s u := by
  obtain ⟨v, moves, test⟩ := k
  exact ⟨v, h.trans moves, test⟩

variable (x s)

theorem tested_phaseChanged : Tested x s (phaseChanged s) := (planFlow_issue x s).test

theorem tested_idleIfEmpty : Tested x s (idleIfEmpty s) := by
  unfold idleIfEmpty
  split
  case isTrue h =>
    refine PlanFlow.test ?_
    rw [board_raise]
    exact .single (.stop (congrArg (List.map WindowRecord.seat) h.2.2) ⟨nofun, nofun⟩)
  case isFalse => exact .refl x s

theorem tested_suspendIfEmpty : Tested x s (suspendIfEmpty s) := by
  unfold suspendIfEmpty
  split
  case isTrue h =>
    refine PlanFlow.test ?_
    rw [board_raise]
    exact .single (.stop (congrArg (List.map WindowRecord.seat) h.2) ⟨nofun, nofun⟩)
  case isFalse => exact .refl x s

theorem tested_drain : Tested x s (drain s) := by
  unfold drain
  split
  case isTrue active =>
    have drained : PlanFlow x (board s) (board (setPlanState .draining s)) := .single (.drain active)
    exact (tested_suspendIfEmpty x _).after (drained.trans (planFlow_withdrawWaiting x _))
  case isFalse => exact .refl x s

theorem tested_completionActs (st : Status) (hold : Bool) : Tested x s (completionActs st hold s) := by
  unfold completionActs
  split
  · split
    · exact tested_drain x s
    · exact (tested_idleIfEmpty x _).after (planFlow_issue x s)
  · split
    · exact tested_suspendIfEmpty x s
    · exact .refl x s

/-! ## Completion -/

theorem pushLog_log (e : LogEntry) (s : State) :
    board (pushLog e s) = { board s with logged := (pushLog e s).plan.log.length } ∧
      (s.plan.log.length ≤ 16 → (pushLog e s).plan.log.length ≤ 16) := by
  unfold pushLog
  split
  case isTrue full =>
    refine ⟨rfl, fun room => ?_⟩
    have : 16 ≤ s.plan.log.length := full
    show (s.plan.log.drop 1 ++ [e]).length ≤ 16
    simp
    omega
  case isFalse free =>
    refine ⟨rfl, fun _ => ?_⟩
    have : ¬ 16 ≤ s.plan.log.length := free
    show (s.plan.log ++ [e]).length ≤ 16
    simp
    omega

/-- A record that is finished leaves the window, and an entry the log at its room (R79, R80). -/
theorem board_finishRecord (w : WindowRecord) (st : Status) (s : State) :
    ∃ n, ((board s).logged ≤ 16 → n ≤ 16) ∧
      board (finishRecord w st s) = { board s with
        window := (board s).window.filter fun v => decide (v.id ≠ w.body.id), logged := n } := by
  let left := s.setPlan
    { s.plan with
      window := s.plan.window.filter fun v => decide (v.body.id ≠ w.body.id)
      shiftTimer := if w.body.kind = .shift then none else s.plan.shiftTimer }
  let logged := pushLog (logEntryOf w (finalStatus w st) s.ev.time) left
  have shown : board left = { board s with window := (board s).window.filter fun v => decide (v.id ≠ w.body.id) } := by
    show _ = Board.mk _ _ _ _ _ _ _ _ _
    dsimp only [board]
    rw [List.filter_map]
    rfl
  obtain ⟨pushed, room⟩ := pushLog_log (logEntryOf w (finalStatus w st) s.ev.time) left
  refine ⟨logged.plan.log.length, room, ?_⟩
  have finished : board (finishRecord w st s) = board logged := by
    unfold finishRecord
    dsimp only
    rcases completionCounter w.body.kind (finalStatus w st) with _ | k
    · exact board_raiseIf _ _ _
    · exact (board_bump _ k).trans (board_raiseIf _ _ _)
  rw [finished, pushed, shown]

/-- A record of the window completes: one that has nothing more to report (R78, R87). -/
theorem tested_completeRecord (id : Nat) (st : Status)
    (done : ∀ w ∈ (board s).window, w.id = id → (board s).ids.Nodup →
      w.cond ≠ .waiting ∧ (w.cond = .granted → ∀ l ∈ w.legs, l ∈ w.reported)) :
    Tested x s (completeRecord id st s) := by
  unfold completeRecord
  split
  case h_1 => exact .refl x s
  case h_2 w found =>
    obtain ⟨mem, same⟩ := findWindow_some found
    obtain ⟨n, room, shown⟩ := board_finishRecord w st s
    refine (tested_completionActs x _ st w.body.hold).after ?_
    rw [shown]
    have seated := List.mem_map_of_mem (f := WindowRecord.seat) mem
    exact .tail (.single (.remove (w := w.seat) seated (done _ seated same))) (.log room)

theorem board_report {l : Leg} {o : Outcome} {v : Option Vec3} {w : WindowRecord} {id : Nat} (same : w.body.id = id) :
    board (modWindow id (fun _ => { w with reports := w.reports ++ [⟨l, o, v⟩] }) s) = { board s with
      window := (board s).window.map fun u =>
        if u.id = w.seat.id then { w.seat with reported := w.seat.reported ++ [l] } else u } := by
  unfold modWindow board
  dsimp only [State.setPlan]
  rw [List.map_map, List.map_map]
  refine congrArg (fun ws => Board.mk _ ws _ _ _ _ _ _ _) (List.map_congr_left fun u _ => ?_)
  have ids : u.seat.id = u.body.id := rfl
  have mine : w.seat.id = id := same
  by_cases h : u.body.id = id
  · simp only [Function.comp, h, ids, mine, if_true]
    simp [WindowRecord.seat, same]
  · simp only [Function.comp, h, ids, mine, if_false]

/-- A leg's outcome is reported to its record, which completes with the last of its legs (R78, R95). -/
theorem tested_reportOutcome (l : Leg) (o : Outcome) (v : Option Vec3) : Tested (some l) s (reportOutcome l o v s) := by
  unfold reportOutcome
  split
  case h_1 => exact .refl _ s
  case h_2 id _ =>
    split
    case h_1 => exact .refl _ s
    case h_2 w found =>
      split
      case isTrue granted =>
        obtain ⟨mem, same⟩ := findWindow_some found
        have reported : PlanFlow (some l) (board s)
            (board (modWindow id (fun _ => { w with reports := w.reports ++ [⟨l, o, v⟩] }) s)) := by
          rw [board_report s same]
          exact .single (.report rfl (List.mem_map_of_mem mem) granted)
        dsimp only
        split
        case isTrue all =>
          refine (tested_completeRecord _ _ id _ fun u window named _ => ?_).after reported
          rw [board_report s same] at window
          obtain ⟨r, _, rfl⟩ := List.mem_map.mp window
          have now : r.id = w.seat.id := by
            by_contra other
            rw [if_neg other] at named
            exact other (named.trans same.symm)
          rw [if_pos now]
          refine ⟨by simp [WindowRecord.seat, granted], fun _ m leg => ?_⟩
          simpa [WindowRecord.hasReported, WindowRecord.seat, or_comm, @eq_comm _ m l] using List.all_eq_true.mp all m leg
        case isFalse => exact reported.tested
      case isFalse => exact .refl _ s

end

end Sys2Proof.Machine
end

section
/-! LEGS AND MODES ON THE BOARD. What the Leg Sequencers and the Mode Supervisor do is made of moves. -/

namespace Sys2Proof.Machine

section
variable {g : Prop}

theorem Flow.refl' (x : Option Leg) (b : Board) : Flow g (x, b) (x, b) := Relation.ReflTransGen.refl

/-! ## Settling -/

theorem view_setAllPhases (p : Phase) (q : Quad LegSeq) :
    (q.map (LegSeq.settled p)).map LegSeq.view = Quad.const (LegView.settled p) := by
  ext1 l
  simp [LegSeq.view, LegSeq.settled, LegView.settled]

theorem board_setAllPhases (p : Phase) (s : State) :
    board (setAllPhases p s) = { board s with legs := Quad.const (LegView.settled p) } := by
  unfold setAllPhases board
  dsimp only [State.setLegs]
  rw [view_setAllPhases]

theorem board_setSup {m : Supervisor} {s : State} (same : m.mode = s.sup.mode) : board (s.setSup m) = board s := by
  unfold board
  rw [State.setSup_sup, same]
  rfl

theorem board_motion (l : Leg) (s : State) : ((board s).legs.get l).motion = (s.legs.get l).motion := by
  rw [board_legs]
  rfl

theorem flow_enterSettling (x : Option Leg) (s : State) (stopped : planRuns s = false ∨ s.sup.mode = .safeHold) :
    Flow g (x, board s) (x, board (enterSettling s)) := by
  have posture : board (setAllPhases .posture (changeMode .settling s)) =
      { board s with mode := .settling, legs := Quad.const (LegView.settled .posture) } := by
    rw [board_setAllPhases, board_changeMode]
  have settled := Relation.ReflTransGen.single (Move.settle (g := g) (x := x) (b := board s) stopped)
  rw [← posture] at settled
  unfold enterSettling
  dsimp only
  rw [board_setSup (by rfl)]
  exact Relation.ReflTransGen.trans settled ((sends_sendPose _ _).planFlow x).flow

theorem settleCondition_stopped {s : State} (h : settleCondition s = true) : planRuns s = false := by
  simp only [settleCondition, Bool.and_eq_true, decide_eq_true_iff] at h
  rcases h.1 with state | state | state <;> simp [planRuns, state]

theorem flow_settleTest (x : Option Leg) (s : State) : Flow g (x, board s) (x, board (settleTest s)) := by
  unfold settleTest
  split
  case isTrue h =>
    have stopped : planRuns s = false := settleCondition_stopped h.2.2
    exact flow_enterSettling x (s.setSup { s.sup with pendingSettle := false }) (.inl stopped)
  case isFalse => exact .refl

theorem Tested.flow {x : Option Leg} {s t : State} (h : Tested x s t) : Flow g (x, board s) (x, board t) := by
  obtain ⟨u, moves, rfl | rfl⟩ := h
  · exact moves.flow
  · exact Relation.ReflTransGen.trans moves.flow (flow_settleTest x u)

/-- While some leg is off STANCE no settle begins, so every leg and the mode stay (R153). -/
theorem Tested.keeps {x : Option Leg} {s t : State} (h : Tested x s t) {l : Leg} (off : (s.legs.get l).phase ≠ .stance) :
    (board t).legs = (board s).legs ∧ (board t).mode = (board s).mode := by
  obtain ⟨u, moves, test⟩ := h
  have kept := moves.keeps
  have phase : (u.legs.get l).phase = (s.legs.get l).phase := by
    have same := congrArg (fun q => (q.get l).phase) kept.1
    simp only [board_legs] at same
    exact same
  rcases test with rfl | rfl
  · exact kept
  · rw [settleTest_of_phase (phase ▸ off)]
    exact kept

theorem flow_phaseChanged (s : State) : Flow g (none, board s) (none, board (phaseChanged s)) := (tested_phaseChanged none s).flow

/-! ## A leg's moves -/

variable (l : Leg) (s : State)

theorem board_markIfLimit : board (markIfLimit l s) = board s := by
  have marked : board (modLeg l (fun p => { p with clamped := true }) s) = board s := board_modLeg_of_view rfl
  unfold markIfLimit
  dsimp only
  split
  · split
    · exact marked
    · rw [board_markRecord]
      exact marked
  · rfl

theorem flow_sendSetpoint (x : Option Leg) (v : Vec3) (speed : Nat) : Flow g (x, board s) (x, board (sendSetpoint l v speed s)) :=
  ((sends_sendSetpoint s l v speed).planFlow x).flow

variable {l s}

/-- A leg with a motion enters SWING or REACH. -/
theorem flow_modLeg {f : LegSeq → LegSeq} (moving : ((board s).legs.get l).motion ≠ none)
    (off : (f (s.legs.get l)).phase = .swing ∨ (f (s.legs.get l)).phase = .reach) (moves : (f (s.legs.get l)).motion ≠ none)
    (steps : (f (s.legs.get l)).motion = some .step → (s.legs.get l).motion = some .step ∧
      (f (s.legs.get l)).record = (s.legs.get l).record ∧ (f (s.legs.get l)).step = (s.legs.get l).step) :
    Flow g (none, board s) (none, board (modLeg l f s)) := by
  rw [board_modLeg]
  refine .single (.fly (v := (f (s.legs.get l)).view) moving off moves fun step => ?_)
  obtain ⟨motion, record, data⟩ := steps step
  rw [board_legs]
  exact ⟨motion, record, congrArg Option.isSome data⟩

theorem flow_startPhase {p : Phase} {timeout : Nat} (moving : ((board s).legs.get l).motion ≠ none)
    (off : p = .swing ∨ p = .reach) : Flow g (none, board s) (none, board (startPhase l p timeout s)) :=
  flow_modLeg moving off (by rwa [board_legs] at moving) fun step => ⟨step, rfl, rfl⟩

/-- A leg comes to stand, which exempts it from what its motion asks until the motion is cleared. -/
theorem flow_alight {f : LegSeq → LegSeq} (moving : (s.legs.get l).motion ≠ none)
    (stands : (f (s.legs.get l)).view = { (s.legs.get l).view with phase := .stance }) :
    Flow g (none, board s) (some l, board (modLeg l f s)) := by
  rw [board_modLeg]
  exact .single (.alight (by rwa [board_legs]) (by rw [stands, board_legs]))

theorem flow_clear {f : LegSeq → LegSeq} (still : (f (s.legs.get l)).motion = none)
    (stays : (f (s.legs.get l)).phase = (s.legs.get l).phase) : Flow g (some l, board s) (none, board (modLeg l f s)) := by
  rw [board_modLeg]
  exact .single (.clear still (by rw [board_legs]; exact stays))

variable (l s)

/-! ## Landing -/

theorem flow_stopDescent (x : Option Leg) : Flow g (x, board s) (x, board (stopDescent l s)) := flow_sendSetpoint ..

theorem flow_landCore : Flow g (none, board s) (none, board (landCore l s)) := by
  unfold landCore
  dsimp only
  split
  case h_1 => exact .refl
  case h_2 step =>
    refine .trans (flow_alight (f := fun p => { p with phase := .stance, timer := none }) (by rw [step]; nofun) rfl) ?_
    refine .trans (flow_stopDescent l _ _) ?_
    exact .trans (tested_reportOutcome _ _ _ _).flow (flow_clear rfl rfl)
  case h_3 held =>
    let standing := modLeg l (fun p => { p with phase := .stance }) s
    have alights : Flow g (none, board s) (some l, board standing) := flow_alight (by rw [held]; nofun) rfl
    have clears : Flow g (some l, board standing)
        (none, board (modLeg l (fun p => { p with motion := none, record := none, timer := none }) standing)) :=
      flow_clear rfl rfl
    have both : modLeg l (fun p => { p with motion := none, record := none, timer := none }) standing =
        modLeg l (fun p => { p with phase := .stance, timer := none, motion := none, record := none }) s := by
      simp only [standing, modLeg, State.setLegs_legs, Quad.get_set_self, Quad.set_set]
      rfl
    exact both ▸ .trans alights clears
  case h_4 m _ _ other =>
    refine .trans (flow_alight (f := fun p => { p with phase := .stance, timer := none }) (by rw [other]; nofun) rfl) ?_
    exact .trans (flow_stopDescent l _ _) (flow_clear rfl rfl)

theorem flow_landIfLoaded : Flow g (none, board s) (none, board (landIfLoaded l s)) := by
  unfold landIfLoaded
  split
  · exact flow_landCore l s
  · exact .refl

theorem flow_land : Flow g (none, board s) (none, board (land l s)) := .trans (flow_landCore l s) (flow_phaseChanged _)

/-! ## A step, a snag, a miss, a retreat -/

variable {l s}

theorem flow_liftEnd (moving : (s.legs.get l).motion ≠ none) : Flow g (none, board s) (none, board (liftEnd l s)) := by
  unfold liftEnd
  split
  · exact .refl
  · rw [← board_motion, ← board_markIfLimit l s] at moving
    have swings := flow_startPhase (g := g) (timeout := s.gait.swingTimeout) moving (.inl rfl)
    rw [board_markIfLimit] at swings
    exact .trans (.trans swings (flow_sendSetpoint ..)) (flow_phaseChanged _)

theorem flow_swingEnd (moving : (s.legs.get l).motion ≠ none) : Flow g (none, board s) (none, board (swingEnd l s)) := by
  unfold swingEnd
  split
  · exact .refl
  case h_2 d _ =>
    let t := modFoot l (fun f => { f with cls := d.targetClass }) (markIfLimit l s)
    have same : board t = board s := board_markIfLimit l s
    rw [← board_motion, ← same] at moving
    have reaches := flow_startPhase (g := g) (timeout := s.gait.reachTimeout) moving (.inr rfl)
    rw [same] at reaches
    exact .trans (.trans (.trans reaches (flow_sendSetpoint ..)) (flow_landIfLoaded l _)) (flow_phaseChanged _)

theorem flow_retreatReach (moving : (s.legs.get l).motion ≠ none) : Flow g (none, board s) (none, board (retreatReach l s)) := by
  unfold retreatReach
  split
  · exact .refl
  · rw [← board_motion] at moving
    exact .trans (.trans (.trans (flow_startPhase moving (.inr rfl)) (flow_sendSetpoint ..)) (flow_landIfLoaded l _))
      (flow_phaseChanged _)

/-- A leg off the floor reports its outcome, and its motion follows. -/
theorem flow_reportTurn {f : LegSeq → LegSeq} {o : Outcome} {v : Option Vec3} {t : State}
    (airborne : (s.legs.get l).phase.airborne = true) (moving : (s.legs.get l).motion ≠ none)
    (same : board t = board (reportOutcome l o v s)) (off : (f (t.legs.get l)).phase = .swing ∨ (f (t.legs.get l)).phase = .reach)
    (moves : (f (t.legs.get l)).motion ≠ none) (noStep : (f (t.legs.get l)).motion ≠ some .step) :
    Flow g (none, board s) (none, board (modLeg l f t)) := by
  have reported := tested_reportOutcome s l o v
  have offStance : (s.legs.get l).phase ≠ .stance := fun h => by rw [h] at airborne; cases airborne
  have legs : (board t).legs.get l = (s.legs.get l).view := by rw [same, (reported.keeps offStance).1, board_legs]
  refine .head (.except l) (.trans reported.flow ?_)
  rw [← same, board_modLeg]
  exact .single (.turn (by rw [legs]; exact airborne) (by rw [legs]; exact moving) off moves noStep)

theorem startPhase_modLeg (p : Phase) (timeout : Nat) (f : LegSeq → LegSeq) (s : State) :
    startPhase l p timeout (modLeg l f s) =
      modLeg l (fun q => { f q with phase := p, timer := some (phaseTime (f q) timeout) }) s := by
  simp only [startPhase, modLeg, State.setLegs_legs, Quad.get_set_self, Quad.set_set]
  rfl

theorem flow_snagTo (v : Vec3) (airborne : (s.legs.get l).phase.airborne = true) (moving : (s.legs.get l).motion ≠ none) :
    Flow g (none, board s) (none, board (snagTo l v s)) := by
  unfold snagTo
  dsimp only
  rw [startPhase_modLeg]
  have turned := flow_reportTurn (g := g) (o := .snagged) (v := none)
    (t := bump .snags (raise .snag (reportOutcome l .snagged none s)))
    (f := fun q => { q with
      phase := .reach, motion := some .recovery, record := none
      timer := some (phaseTime { q with motion := some .recovery, record := none } s.gait.reachTimeout) })
    airborne moving (board_raise _ .snag) (.inr rfl) nofun nofun
  exact .trans (.trans (.trans turned (flow_sendSetpoint ..)) (flow_landIfLoaded l _)) (flow_phaseChanged _)

theorem flow_snagInLift (airborne : (s.legs.get l).phase.airborne = true) (moving : (s.legs.get l).motion ≠ none) :
    Flow g (none, board s) (none, board (snagInLift l s)) := by
  unfold snagInLift
  split
  · exact .refl
  · exact flow_snagTo _ airborne moving

theorem flow_snagInSwing (airborne : (s.legs.get l).phase.airborne = true) (moving : (s.legs.get l).motion ≠ none) :
    Flow g (none, board s) (none, board (snagInSwing l s)) := by
  unfold snagInSwing
  split
  · exact .refl
  · exact flow_snagTo _ airborne moving

theorem modFoot_modLeg (f : Foot → Foot) (h : LegSeq → LegSeq) (s : State) :
    modFoot l f (modLeg l h s) = modLeg l h (modFoot l f s) := rfl

theorem flow_missFoothold (airborne : (s.legs.get l).phase.airborne = true) (moving : (s.legs.get l).motion ≠ none) :
    Flow g (none, board s) (none, board (missFoothold l s)) := by
  unfold missFoothold
  split
  · exact .refl
  case h_2 d _ =>
    dsimp only
    rw [modFoot_modLeg, startPhase_modLeg]
    have turned := flow_reportTurn (g := g) (o := .missed) (v := none)
      (t := modFoot l (fun f => { f with cls := d.originClass }) (raise .missed (reportOutcome l .missed none s)))
      (f := fun q => { q with
        phase := .swing, motion := some .retreat, record := none
        timer := some (phaseTime { q with motion := some .retreat, record := none } s.gait.swingTimeout) })
      airborne moving (board_raise _ .missed) (.inl rfl) nofun nofun
    exact .trans (.trans turned (flow_sendSetpoint ..)) (flow_phaseChanged _)

theorem flow_failLeg (moving : (s.legs.get l).motion ≠ none) : Flow g (none, board s) (none, board (failLeg l s)) := by
  unfold failLeg
  dsimp only
  let t := modLeg l (fun q => { q with phase := .reach, motion := some .held, timer := none }) (sendHold l s)
  have held := (sends_sendHold s l).planFlow none
  have legs : ((board (sendHold l s)).legs.get l).motion ≠ none := by
    rw [held.keeps.1, board_legs]
    exact moving
  have fails : Flow g (none, board s) (none, board t) := .trans held.flow (flow_modLeg legs (.inr rfl) nofun nofun)
  have asked : board (requestBrace (raise .missed t)) = board t := board_raise t .missed
  split
  · rw [← asked] at fails
    exact .trans (.trans fails (flow_landIfLoaded l _)) (flow_phaseChanged _)
  · rw [asked]
    exact fails

/-! ## The phase timer, a report, a reply -/

variable (l s)

theorem flow_timerRunsOut : Flow g (none, board s) (none, board (timerRunsOut l s)) := by
  let t := modLeg l (fun p => { p with timer := none }) s
  have same : board t = board s := board_modLeg_of_view rfl
  have leg : t.legs.get l = { s.legs.get l with timer := none } := Quad.get_set_self ..
  unfold timerRunsOut
  dsimp only
  rw [← same]
  split
  case h_1 lift step => exact flow_snagInLift (by rw [leg, lift]; rfl) (by rw [leg, step]; nofun)
  case h_2 swing step => exact flow_snagInSwing (by rw [leg, swing]; rfl) (by rw [leg, step]; nofun)
  case h_3 reach step => exact flow_missFoothold (by rw [leg, reach]; rfl) (by rw [leg, step]; nofun)
  case h_4 _ _ retreat => exact flow_failLeg (by rw [leg, retreat]; nofun)
  case h_5 _ _ recovery => exact flow_failLeg (by rw [leg, recovery]; nofun)
  case h_6 _ _ descent => exact flow_failLeg (by rw [leg, descent]; nofun)
  case h_7 => exact .refl

theorem flow_seqContact (c : Contact) : Flow g (none, board s) (none, board (seqContact l c s)) := by
  unfold seqContact
  dsimp only
  split
  · exact .refl
  · split
    · split
      case isTrue ends => exact flow_liftEnd (by rw [ends.1]; nofun)
      case isFalse => exact .refl
    · split
      · exact flow_land l s
      · exact .refl
    all_goals exact .refl

theorem flow_takeDerating (st : DriveState) : Flow g (none, board s) (none, board (takeDerating l st s)) := by
  let t := modLeg l (fun p => { p with derating := decide (st = .hot) }) s
  have same : board t = board s := board_modLeg_of_view rfl
  unfold takeDerating
  dsimp only
  rw [← same]
  split
  · exact .refl
  · split
    · exact ((sends_resendSetpoint t l _).planFlow none).flow
    · exact .refl

variable {l s}

theorem flow_reachedInReach (reach : (s.legs.get l).phase = .reach) :
    Flow g (none, board s) (none, board (reachedInReach l s)) := by
  unfold reachedInReach
  dsimp only
  split
  case h_1 => exact .refl
  case h_2 step =>
    have same := board_markIfLimit l s
    have view : ((markIfLimit l s).legs.get l).view = (s.legs.get l).view := by rw [← board_legs, same, board_legs]
    rw [← same]
    split
    · exact flow_land ..
    · refine flow_missFoothold ?_ ?_
      · have phase : ((markIfLimit l s).legs.get l).phase = (s.legs.get l).phase := congrArg LegView.phase view
        rw [phase, reach]
        rfl
      · have motion : ((markIfLimit l s).legs.get l).motion = (s.legs.get l).motion := congrArg LegView.motion view
        rw [motion, step]
        nofun
  case h_3 =>
    split
    · exact flow_land l s
    · exact .refl
  case h_4 other =>
    split
    · exact flow_land l s
    · exact flow_failLeg (by rw [other]; nofun)

theorem flow_replyActs (l : Leg) (pass : Bool) (s : State) : Flow g (none, board s) (none, board (replyActs l pass s)) := by
  unfold replyActs
  dsimp only
  split
  · exact .refl
  · split
    · split
      case isTrue ends => exact flow_liftEnd (by rw [ends.1]; nofun)
      case isFalse => exact .refl
    · split
      · split
        case isTrue step => exact flow_swingEnd (by rw [step]; nofun)
        case isFalse =>
          split
          case isTrue retreat => exact flow_retreatReach (by rw [retreat]; nofun)
          case isFalse => exact .refl
      · exact .refl
    case h_3 reach =>
      split
      · exact flow_reachedInReach reach
      · exact .refl
    all_goals exact .refl

theorem takeReply_view (q : LegSeq) (pass : Bool) (st : DriveState) : (q.takeReply pass st).view = q.view := by
  unfold LegSeq.takeReply
  split <;> rfl

theorem flow_seqReply (l : Leg) (v : Vec3) (st : DriveState) (b : Bool) (s : State) :
    Flow g (none, board s) (none, board (seqReply l v st b s)) := by
  unfold seqReply
  dsimp only
  generalize passesReached (s.legs.get l) s.gait.tolerance v st b = pass
  have same : board (modLeg l (fun q => q.takeReply pass st) s) = board s := board_modLeg_of_view (takeReply_view ..)
  rw [← same]
  exact .trans (flow_takeDerating ..) (flow_replyActs ..)

/-! ## The Mode Supervisor -/

variable (s)

theorem flow_setPendingSettle : Flow g (none, board s) (none, board (setPendingSettle s)) := by
  unfold setPendingSettle
  split
  · exact flow_settleTest none (s.setSup { s.sup with pendingSettle := true })
  · exact .refl

theorem flow_drain : Flow g (none, board s) (none, board (drain s)) := (tested_drain none s).flow

theorem flow_applySilenceInRise : Flow g (none, board s) (none, board (applySilenceInRise s)) := by
  unfold applySilenceInRise
  split
  · exact .trans (flow_drain (s.setSup { s.sup with silenceInRise := false })) (flow_setPendingSettle _)
  · exact .refl

theorem flow_riseTest : Flow g (none, board s) (none, board (riseTest s)) := by
  unfold riseTest
  split
  case isTrue done =>
    have rising : s.sup.mode = .rising := by
      simp only [riseDone, Bool.and_eq_true, decide_eq_true_iff] at done
      exact done.1.1
    have standing : board (setAllPhases .stance (changeMode .standing (s.setSup { s.sup with riseSettle := none }))) =
        { board s with mode := .standing, legs := Quad.const (LegView.settled .stance) } := by
      rw [board_setAllPhases, board_changeMode]
      rfl
    have stands := Relation.ReflTransGen.single (Move.standing (g := g) (b := board s) (.inl rising))
    rw [← standing] at stands
    dsimp only
    refine .trans stands (.trans (flow_phaseChanged _) ?_)
    rw [← board_startSupportLost]
    exact flow_applySilenceInRise _
  case isFalse => exact .refl

/-- Removing setpoints keeps the room of the transaction queue. -/
theorem busKeeps_filter (b : Bus) (p : Txn → Bool) : BusKeeps b { b with queue := b.queue.filter p } := by
  intro l
  have fewer : ∀ r : Txn → Bool, ((b.queue.filter p).filter r).length ≤ (b.queue.filter r).length := fun r => by
    rw [List.filter_filter, ← List.filter_filter, List.filter_comm]
    exact (List.filter_sublist).length_le
  exact ⟨fun few => (fewer _).trans few, fun few => (fewer _).trans few, id⟩

theorem flow_settleCompleteTest : Flow g (none, board s) (none, board (settleCompleteTest s)) := by
  unfold settleCompleteTest
  split
  case isTrue done =>
    let t := changeMode .parked (s.setSup { s.sup with riseSettle := none })
    let u := setPlanState .idle (t.setLegs (t.legs.map fun q => { q with phase := .folded }))
    have parks := Relation.ReflTransGen.single (Move.park (g := g) (b := board s) done.1)
    have shown : board t = { board s with mode := .parked } := (board_changeMode _ _).trans rfl
    have folds : board u = { board t with state := .idle, legs := (board t).legs.map fun v => { v with phase := .folded } } := by
      rfl
    have parked : board u = { board s with
        mode := .parked, state := .idle, legs := (board s).legs.map fun v => { v with phase := .folded } } := by
      rw [folds, shown]
    rw [← parked] at parks
    exact parks.tail (.plan (.bus (busKeeps_filter u.bus _)))
  case isFalse => exact .refl

end

end Sys2Proof.Machine
end

section
/-! COMMANDS ON THE BOARD. A SAFE_HOLD entry and a brace touch the plan and the mode at once, so they are said whole; with them and with
the begin and the end of an evaluation every command is made of moves. -/

namespace Sys2Proof.Machine

/-! ## SAFE_HOLD and the brace, said whole -/

/-- From `b` to `c` the window has been emptied: its WAITING records are back at the head of the list, their requests gone from the
queue and from a running evaluation. -/
structure Emptied (b c : Board) : Prop where
  window : c.window = []
  waits : ∃ back, back.Sublist (waitingIds b.window) ∧ c.waits = back ++ b.waits
  queue : ∃ ids, (b.ids.Nodup → ids = waitingIds b.window) ∧ c.queue = without ids b.queue ∧
    c.eval = b.eval.map fun e => { e with queue := without ids e.queue }

/-- The mode is SAFE_HOLD, no leg has moved, and no plan runs (R94, R98, R147). -/
structure Holds (b c : Board) : Prop where
  mode : c.mode = .safeHold
  legs : c.legs = b.legs
  bus : BusKeeps b.bus c.bus
  logged : b.logged ≤ 16 → c.logged ≤ 16
  stopped : c.runs = false
  plan : Emptied b c ∨ b.runs = false ∧ c.window = b.window ∧ c.waits = b.waits ∧ c.queue = b.queue ∧ c.eval = b.eval

/-- What a brace can make of a leg: nothing, or of a stepping one a descending or a standing one (R110). -/
def LegDown (v w : LegView) : Prop :=
  w = v ∨ v.motion = some .step ∧ v.planned = true ∧ w.motion ≠ some .step ∧
    (w.phase = .reach ∧ w.motion ≠ none ∨ w.phase = .stance ∧ w.motion = none)

/-- The window has been emptied and the plan is BRACED; the stepping legs of GRANTED records that had not reported go down (R92). -/
structure Braces (b c : Board) : Prop where
  mode : c.mode = b.mode
  state : c.state = .braced
  emptied : Emptied b c
  logged : b.logged ≤ 16 → c.logged ≤ 16
  bus : BusKeeps b.bus c.bus
  legs : ∀ l, LegDown (b.legs.get l) (c.legs.get l)
  down : b.ids.Nodup → ∀ w ∈ b.window, w.cond = .granted → ∀ l ∈ w.legs, l ∉ w.reported → (b.legs.get l).planned = true →
    (c.legs.get l).motion ≠ some .step

/-- What an evaluation reads of the board at its start (R49). -/
def Board.read (b : Board) : ReadView := ⟨b.legs.map LegView.phase, b.queue⟩

/-- What a command can do to the board. -/
inductive Course (g : Prop) : Board → Board → Prop
  | flow {b c : Board} (h : Flow g (none, b) (none, c)) : Course g b c
  | read (b : Board) : Course g b { b with eval := some b.read }
  | finish (b : Board) : Course g b { b with eval := none }
  | hold {b c : Board} (h : Holds b c) : Course g b c
  | brace {b c : Board} (running : b.runs = true) (h : Braces b c) : Course g b c
  | trans {b c d : Board} (h : Course g b c) (k : Course g c d) : Course g b d

section
variable {g : Prop} {s t u : State}

theorem Course.refl (b : Board) : Course g b b := .flow (Flow.refl' none b)

theorem Sends.course (h : Sends s t) : Course g (board s) (board t) := .flow (h.planFlow none).flow

theorem Course.of_board_eq (h : board t = board s) : Course g (board s) (board t) := h ▸ .refl _

/-! ## SAFE_HOLD entry -/

/-- The window without the records of a list that are GRANTED or RUNNING. -/
def withoutServed (ws : List WindowRecord) (seats : List Seat) : List Seat :=
  seats.filter fun v => decide (∀ w ∈ ws, w.isWaiting = false → v.id ≠ w.body.id)

theorem withoutServed_cons_waiting {w : WindowRecord} {ws : List WindowRecord} (seats : List Seat) (waiting : w.isWaiting = true) :
    withoutServed (w :: ws) seats = withoutServed ws seats := by
  simp [withoutServed, waiting]

theorem withoutServed_cons_served {w : WindowRecord} {ws : List WindowRecord} (seats : List Seat) (served : w.isWaiting = false) :
    withoutServed (w :: ws) seats = withoutServed ws (seats.filter fun v => decide (v.id ≠ w.body.id)) := by
  simp only [withoutServed, List.filter_filter, List.forall_mem_cons, served, forall_const, Bool.decide_and]
  simp only [Bool.and_comm]

/-- The records that are GRANTED or RUNNING, cancelled one after another, leave the window (R94). -/
theorem board_cancelRecords (ws : List WindowRecord) (s : State) :
    ∃ n, ((board s).logged ≤ 16 → n ≤ 16) ∧ board (cancelRecords ws s) = { board s with
      window := withoutServed ws (board s).window, logged := n } := by
  induction ws generalizing s with
  | nil => exact ⟨_, id, by simp [cancelRecords, withoutServed]⟩
  | cons w rest ih =>
    unfold cancelRecords
    by_cases waiting : w.isWaiting = true
    · rw [if_pos waiting, withoutServed_cons_waiting _ waiting]
      exact ih s
    · obtain ⟨n, room, shown⟩ := board_finishRecord w .cancelled s
      obtain ⟨n', room', shown'⟩ := ih (finishRecord w .cancelled s)
      rw [shown] at shown' room'
      rw [if_neg waiting, withoutServed_cons_served _ (by simpa using waiting)]
      exact ⟨n', fun few => room' (room few), shown'⟩

theorem mem_waitingIds {ws : List Seat} {id : Nat} : id ∈ waitingIds ws ↔ ∃ w ∈ ws, w.cond = .waiting ∧ w.id = id := by
  simp [waitingIds, and_assoc]

/-- Two records of a window with one id are one, where no id stands twice in the plan. -/
theorem Board.eq_of_id_eq {b : Board} (nodup : b.ids.Nodup) {v w : Seat} (hv : v ∈ b.window) (hw : w ∈ b.window)
    (same : v.id = w.id) : v = w :=
  List.inj_on_of_nodup_map (List.Nodup.of_append_right nodup) hv hw same

/-- After the served records have gone, withdrawal empties the window. -/
theorem emptied_of_withdrawn {b c : Board} {p : Seat → Bool} {u : Bus} {n : Nat} {legs : Quad LegView} {state : PlanState} {m : Mode}
    (keepsWaiting : b.ids.Nodup → ∀ w ∈ b.window, w.cond = .waiting → p w = true)
    (noOther : ∀ w ∈ b.window, p w = true → w.cond = .waiting)
    (shown : let ids := waitingIds (b.window.filter p)
      c = { b with
        window := (b.window.filter p).filter fun w => decide (w.cond ≠ .waiting), waits := ids ++ b.waits
        queue := without ids b.queue, eval := b.eval.map fun e => { e with queue := without ids e.queue }
        bus := u, logged := n, legs := legs, state := state, mode := m }) : Emptied b c := by
  subst shown
  refine ⟨?_, ⟨_, ?_, rfl⟩, ⟨_, fun nodup => ?_, rfl, rfl⟩⟩
  · rw [List.filter_filter, List.filter_eq_nil_iff]
    intro w mem both
    simp only [Bool.and_eq_true, decide_eq_true_iff] at both
    exact both.1 (noOther w mem both.2)
  · unfold waitingIds
    rw [List.filter_comm]
    exact List.filter_sublist.map _
  · unfold waitingIds
    rw [List.filter_filter]
    refine congrArg _ (List.filter_congr fun w mem => ?_)
    by_cases waiting : w.cond = .waiting
    · simp [waiting, keepsWaiting nodup w mem waiting]
    · simp [waiting]

theorem seat_isWaiting (w : WindowRecord) : w.isWaiting = decide (w.seat.cond = .waiting) := rfl

/-- A WAITING record shares its id with no served one, where no id stands twice. -/
theorem withoutServed_keeps_waiting (s : State) (nodup : (board s).ids.Nodup) :
    ∀ v ∈ (board s).window, v.cond = .waiting →
      decide (∀ w ∈ s.plan.window, w.isWaiting = false → v.id ≠ w.body.id) = true := by
  intro v mem waiting
  refine decide_eq_true fun w window served same => ?_
  have one := Board.eq_of_id_eq nodup mem (List.mem_map_of_mem window) same
  rw [seat_isWaiting, ← one, waiting] at served
  cases served

theorem waiting_of_withoutServed (s : State) : ∀ v ∈ (board s).window,
    decide (∀ w ∈ s.plan.window, w.isWaiting = false → v.id ≠ w.body.id) = true → v.cond = .waiting := by
  intro v mem left
  obtain ⟨w, window, rfl⟩ := List.mem_map.mp mem
  by_contra served
  exact of_decide_eq_true left w window (by rw [seat_isWaiting]; exact decide_eq_false served) rfl

theorem emptied_cancelled (s : State) : Emptied (board s) (board (withdrawWaiting (cancelRecords s.plan.window s))) ∧
    board (withdrawWaiting (cancelRecords s.plan.window s)) = { board s with
      waits := (board (withdrawWaiting (cancelRecords s.plan.window s))).waits
      window := (board (withdrawWaiting (cancelRecords s.plan.window s))).window
      queue := (board (withdrawWaiting (cancelRecords s.plan.window s))).queue
      eval := (board (withdrawWaiting (cancelRecords s.plan.window s))).eval
      logged := (board (withdrawWaiting (cancelRecords s.plan.window s))).logged
      bus := (withdrawWaiting (cancelRecords s.plan.window s)).bus } ∧
    BusKeeps s.bus (withdrawWaiting (cancelRecords s.plan.window s)).bus ∧
    ((board s).logged ≤ 16 → (board (withdrawWaiting (cancelRecords s.plan.window s))).logged ≤ 16) := by
  obtain ⟨n, room, cancelled⟩ := board_cancelRecords s.plan.window s
  obtain ⟨bus, shown⟩ := board_withdrawWaiting (cancelRecords s.plan.window s)
  have sameBus : (cancelRecords s.plan.window s).bus = s.bus := congrArg Board.bus cancelled
  rw [cancelled] at shown
  refine ⟨emptied_of_withdrawn (withoutServed_keeps_waiting s) (waiting_of_withoutServed s) shown, by rw [shown], sameBus ▸ bus, ?_⟩
  rw [shown]
  exact room

/-- The Step Planner's share of a SAFE_HOLD entry (R94). -/
theorem holds_planSafeHold {s u : State} (shown : board u = { board s with mode := .safeHold, bus := u.bus })
    (room : BusKeeps s.bus u.bus) : Holds (board s) (board (planSafeHold u)) := by
  have state : u.plan.state = s.plan.state := congrArg Board.state shown
  have suspended : ∀ t, board t = { board (withdrawWaiting (cancelRecords u.plan.window u)) with state := .suspended } →
      Holds (board s) (board t) := by
    intro t after
    obtain ⟨emptied, kept, bus, logged⟩ := emptied_cancelled u
    rw [shown] at emptied kept logged
    rw [after]
    refine ⟨by rw [kept], by rw [kept], room.trans ?_, logged, rfl, .inl ⟨emptied.window, emptied.waits, emptied.queue⟩⟩
    exact bus
  have stays : ∀ t, planRuns s = false → board t = { board u with state := t.plan.state } → planRuns t = false →
      Holds (board s) (board t) := by
    intro t stopped same still
    have runs : (board t).runs = false := still
    rw [same, shown] at runs ⊢
    exact ⟨rfl, rfl, room, id, runs, .inr ⟨stopped, rfl, rfl, rfl, rfl⟩⟩
  unfold planSafeHold
  split
  case h_1 => exact suspended _ (board_raise _ .planSuspended)
  case h_2 => exact suspended _ (board_raise _ .planSuspended)
  case h_3 braced =>
    have after := board_raise (setPlanState .suspended u) .planSuspended
    have ended : (raise .planSuspended (setPlanState .suspended u)).plan.state = .suspended := congrArg Board.state after
    refine stays _ (by simp [planRuns, ← state, braced]) ?_ (by simp [planRuns, ended])
    rw [after, ended]
    rfl
  case h_4 idle => exact stays u (by simp [planRuns, ← state, idle]) rfl (by simp [planRuns, idle])
  case h_5 ended => exact stays u (by simp [planRuns, ← state, ended]) rfl (by simp [planRuns, ended])

theorem board_preshift (p : Option Preshift) (s : State) : board (s.setBal { s.bal with preshift := p }) = board s := rfl

theorem holds_enterSafeHold (s : State) : Holds (board s) (board (enterSafeHold s)) := by
  have sent : Sends (changeMode .safeHold s)
      (forLegs (fun l t => modLeg l (fun q => { q with timer := none }) (sendHold l t)) legsInOrder (changeMode .safeHold s)) :=
    sends_forLegs (fun l t => (sends_sendHold t l).trans (.of_board_eq (board_modLeg_of_view rfl))) legsInOrder _
  unfold enterSafeHold
  dsimp only
  generalize forLegs (fun l t => modLeg l (fun q => { q with timer := none }) (sendHold l t)) legsInOrder
    (changeMode .safeHold s) = held at sent ⊢
  have same : (changeMode .safeHold s).bus = s.bus := congrArg Board.bus (board_changeMode s .safeHold)
  refine holds_planSafeHold ?_ (same ▸ sent.1)
  rw [board_preshift, board_setSup (by rfl), sent.2, board_changeMode]
  rfl

theorem course_reportFault (k : FaultKind) (l : Option Leg) (s : State) : Course g (board s) (board (reportFault k l s)) := by
  unfold reportFault
  split
  · split
    · exact .of_board_eq (board_offerFault s k l)
    · exact board_offerFault s k l ▸ .hold (holds_enterSafeHold _)
  · exact .refl _

end

end Sys2Proof.Machine
end

section
/-! BRACES AND EVALUATIONS ON THE BOARD. -/

namespace Sys2Proof.Machine

/-! ## The brace -/

/-- Some legs may have gone down under a brace, with the bus within its room; those of `ls` that were stepping have. -/
structure Lowers (ls : List Leg) (legs now : Quad LegView) (bus after : Bus) : Prop where
  room : BusKeeps bus after
  each : ∀ l, LegDown (legs.get l) (now.get l)
  down : ∀ l ∈ ls, (legs.get l).planned = true → (now.get l).motion ≠ some .step

theorem LegDown.noStep {v w : LegView} (h : LegDown v w) (still : v.motion ≠ some .step) : w.motion ≠ some .step := by
  rcases h with rfl | ⟨step, -⟩
  · exact still
  · exact absurd step still

theorem LegDown.trans {u v w : LegView} (h : LegDown u v) (k : LegDown v w) : LegDown u w := by
  rcases h with rfl | h
  · exact k
  · rcases k with rfl | ⟨step, -⟩
    · exact .inr h
    · exact absurd step h.2.2.1

section
variable {ls ms : List Leg} {p q r : Quad LegView} {a b c : Bus}

theorem Lowers.of_room (h : BusKeeps a b) : Lowers [] p p a b := ⟨h, fun _ => .inl rfl, nofun⟩

theorem Lowers.trans (h : Lowers ls p q a b) (k : Lowers ms q r b c) : Lowers (ls ++ ms) p r a c where
  room := h.room.trans k.room
  each l := (h.each l).trans (k.each l)
  down l mem planned := by
    rcases List.mem_append.mp mem with first | second
    · exact (k.each l).noStep (h.down l first planned)
    · rcases h.each l with same | changed
      · exact k.down l second (same ▸ planned)
      · exact (k.each l).noStep changed.2.2.1

theorem Lowers.set {l : Leg} {v : LegView} (room : BusKeeps a b) (step : (p.get l).motion = some .step)
    (planned : (p.get l).planned = true) (noStep : v.motion ≠ some .step)
    (lower : v.phase = .reach ∧ v.motion ≠ none ∨ v.phase = .stance ∧ v.motion = none) : Lowers [l] p (p.set l v) a b where
  room := room
  each m := by
    rw [Quad.get_set]
    split
    case isTrue here => exact here ▸ .inr ⟨step, planned, noStep, lower⟩
    case isFalse => exact .inl rfl
  down m mem _ := by
    rw [List.mem_singleton.mp mem, Quad.get_set_self]
    exact noStep

end

/-- A descending leg whose foot is LOADED stands (R108, R110). -/
theorem board_landCore_of_descent {l : Leg} {s : State} (descent : (s.legs.get l).motion = some .descent) :
    BusKeeps s.bus (landCore l s).bus ∧ board (landCore l s) =
      { board s with legs := (board s).legs.set l (.settled .stance), bus := (landCore l s).bus } := by
  let stands := modLeg l (fun p => { p with phase := .stance, timer := none }) s
  have landed : landCore l s =
      modLeg l (fun p => { p with motion := none, record := none, step := none }) (sendSetpoint l (bodyPos stands l) s.gait.reachSpeed stands) := by
    unfold landCore
    dsimp only
    rw [descent]
    rfl
  have sent := sends_sendSetpoint stands l (bodyPos stands l) s.gait.reachSpeed
  have phase : ((sendSetpoint l (bodyPos stands l) s.gait.reachSpeed stands).legs.get l).phase = .stance := by
    have legs := congrArg (fun b => ((Board.legs b).get l).phase) sent.2
    simp only [board_legs] at legs
    refine legs.trans ?_
    simp [stands, modLeg, LegSeq.view]
  have shown : board (landCore l s) = { board s with
      legs := (board s).legs.set l (.settled .stance), bus := (sendSetpoint l (bodyPos stands l) s.gait.reachSpeed stands).bus } := by
    have view : LegSeq.view { (sendSetpoint l (bodyPos stands l) s.gait.reachSpeed stands).legs.get l with
        motion := none, record := none, step := none } = .settled .stance := by
      simp [LegSeq.view, LegView.settled, phase]
    rw [landed, board_modLeg, view, sent.2, board_modLeg, Quad.set_set]
  have bus : (landCore l s).bus = (sendSetpoint l (bodyPos stands l) s.gait.reachSpeed stands).bus := congrArg Board.bus shown
  rw [bus]
  exact ⟨sent.1, shown⟩

/-- A leg's sequencer changes, and its setpoint is sent. -/
theorem board_modLeg_sendSetpoint {l : Leg} {f : LegSeq → LegSeq} {s : State} {v : LegView} (view : (f (s.legs.get l)).view = v)
    (body : Vec3) (speed : Nat) :
    BusKeeps s.bus (sendSetpoint l body speed (modLeg l f s)).bus ∧ board (sendSetpoint l body speed (modLeg l f s)) =
      { board s with legs := (board s).legs.set l v, bus := (sendSetpoint l body speed (modLeg l f s)).bus } := by
  obtain ⟨room, sent⟩ := sends_sendSetpoint (modLeg l f s) l body speed
  refine ⟨room, ?_⟩
  rw [sent, board_modLeg, view]

/-- A stepping leg is sent straight down, and stands where its foot is LOADED as it enters REACH (R110). -/
theorem lowers_descend (l : Leg) (s : State) :
    Lowers [l] (board s).legs (board (descend l s)).legs s.bus (descend l s).bus ∧
      board (descend l s) = { board s with legs := (board (descend l s)).legs, bus := (descend l s).bus } := by
  unfold descend
  dsimp only
  split
  case h_2 not =>
    refine ⟨⟨.refl _, fun _ => .inl rfl, fun m mem planned step => ?_⟩, rfl⟩
    rw [List.mem_singleton.mp mem, board_legs] at planned step
    obtain ⟨d, data⟩ := Option.isSome_iff_exists.mp planned
    exact not d step data
  case h_1 d step data =>
    have was : ((board s).legs.get l).motion = some .step := by rw [board_motion, step]
    have planned : ((board s).legs.get l).planned = true := by
      rw [board_legs]
      exact Option.isSome_iff_exists.mpr ⟨d, data⟩
    rw [startPhase_modLeg]
    obtain ⟨room, sent⟩ := board_modLeg_sendSetpoint (l := l) (s := s)
      (f := fun q => { q with
        motion := some .descent, phase := .reach, timer := some (phaseTime { q with motion := some .descent } s.gait.reachTimeout) })
      rfl
      (atLevel (bodyPos s l) (if decide ((s.legs.get l).phase ≠ .reach) then putDownLevel d else d.target.z - d.reachDepth))
      s.gait.reachSpeed
    generalize sendSetpoint l _ s.gait.reachSpeed _ = t at room sent ⊢
    have reaches : Lowers [l] (board s).legs (board t).legs s.bus t.bus ∧
        board t = { board s with legs := (board t).legs, bus := t.bus } := by
      rw [sent]
      exact ⟨.set room was planned nofun (.inl ⟨rfl, nofun⟩), rfl⟩
    split
    case isFalse => exact reaches
    case isTrue =>
      unfold landIfLoaded
      split
      case isFalse => exact reaches
      case isTrue =>
        have descent : (t.legs.get l).motion = some .descent := by
          rw [← board_motion, sent]
          simp [LegSeq.view]
        obtain ⟨room', landed⟩ := board_landCore_of_descent descent
        rw [sent, Quad.set_set] at landed
        rw [landed]
        exact ⟨.set (room.trans room') was planned nofun (.inr ⟨rfl, rfl⟩), rfl⟩

theorem lowers_descends (ls : List Leg) (s : State) :
    Lowers ls (board s).legs (board (forLegs descend ls s)).legs s.bus (forLegs descend ls s).bus ∧
      board (forLegs descend ls s) =
        { board s with legs := (board (forLegs descend ls s)).legs, bus := (forLegs descend ls s).bus } := by
  induction ls generalizing s with
  | nil => exact ⟨.of_room (.refl _), rfl⟩
  | cons l rest ih =>
    obtain ⟨first, shown⟩ := lowers_descend l s
    obtain ⟨others, shown'⟩ := ih (descend l s)
    refine ⟨first.trans others, shown'.trans ?_⟩
    rw [shown]
    rfl

/-- The legs that a brace sends down: those of GRANTED records that have not reported. -/
def bracedLegs (ws : List WindowRecord) : List Leg := ws.flatMap fun w => if w.cond = .granted then unreported w else []

/-- The GRANTED and RUNNING records of a list leave the window, and the legs of the GRANTED ones go down (R92). -/
theorem board_braceRecords (ws : List WindowRecord) (s : State) :
    ∃ n, ((board s).logged ≤ 16 → n ≤ 16) ∧
      Lowers (bracedLegs ws) (board s).legs (board (braceRecords ws s)).legs s.bus (braceRecords ws s).bus ∧
      board (braceRecords ws s) = { board s with
        window := withoutServed ws (board s).window, logged := n
        legs := (board (braceRecords ws s)).legs, bus := (braceRecords ws s).bus } := by
  induction ws generalizing s with
  | nil => exact ⟨_, id, .of_room (.refl _), by simp [braceRecords, withoutServed]; rfl⟩
  | cons w rest ih =>
    have finishes : ∀ (st : Status) (t : State) (ls : List Leg), w.isWaiting = false →
        Lowers ls (board (finishRecord w st s)).legs (board t).legs (finishRecord w st s).bus t.bus →
        board t = { board (finishRecord w st s) with legs := (board t).legs, bus := t.bus } →
        ∃ n, ((board s).logged ≤ 16 → n ≤ 16) ∧
          Lowers (ls ++ bracedLegs rest) (board s).legs (board (braceRecords rest t)).legs s.bus (braceRecords rest t).bus ∧
          board (braceRecords rest t) = { board s with
            window := withoutServed (w :: rest) (board s).window, logged := n
            legs := (board (braceRecords rest t)).legs, bus := (braceRecords rest t).bus } := by
      intro st t ls served lowers shown
      obtain ⟨n, room, finished⟩ := board_finishRecord w st s
      obtain ⟨n', room', lowers', shown'⟩ := ih t
      have bus : (finishRecord w st s).bus = s.bus := congrArg Board.bus finished
      have legs : (board (finishRecord w st s)).legs = (board s).legs := by rw [finished]
      rw [bus, legs] at lowers
      rw [finished] at shown
      refine ⟨n', fun few => room' ?_, lowers.trans lowers', shown'.trans ?_⟩
      · rw [shown]
        exact room few
      · rw [withoutServed_cons_served _ served]
        have window : (board t).window = (board s).window.filter fun v => decide (v.id ≠ w.body.id) := by rw [shown]
        rw [← window, shown]
    unfold braceRecords
    split
    case h_1 waiting =>
      obtain ⟨n, room, lowers, shown⟩ := ih s
      have none : bracedLegs (w :: rest) = bracedLegs rest := by simp [bracedLegs, waiting]
      rw [withoutServed_cons_waiting _ (by simp [WindowRecord.isWaiting, waiting]), none]
      exact ⟨n, room, lowers, shown⟩
    case h_2 granted =>
      obtain ⟨lowers, shown⟩ := lowers_descends (unreported w) (finishRecord w (bracedStatus w) s)
      have all : bracedLegs (w :: rest) = unreported w ++ bracedLegs rest := by simp [bracedLegs, granted]
      rw [all]
      exact finishes _ _ _ (by simp [WindowRecord.isWaiting, granted]) lowers shown
    case h_3 running =>
      obtain ⟨room, shown⟩ := sends_holdLegs (finishRecord w .braced s) legsInOrder
      have none : bracedLegs (w :: rest) = [] ++ bracedLegs rest := by simp [bracedLegs, running]
      rw [none]
      have same : (board (holdLegs legsInOrder (finishRecord w .braced s))).legs = (board (finishRecord w .braced s)).legs := by
        rw [shown]
      exact finishes _ _ [] (by simp [WindowRecord.isWaiting, running]) (by rw [same]; exact .of_room room)
        (by rw [same]; exact shown)

theorem hasReported_eq (w : WindowRecord) (l : Leg) : w.hasReported l = decide (l ∈ w.seat.reported) := by
  rw [Bool.eq_iff_iff]
  simp [WindowRecord.hasReported, WindowRecord.seat]

/-- A brace empties the window and takes the plan to BRACED (R92). -/
theorem braces_takeBrace (s : State) :
    ∃ u, takeBrace s = phaseChanged u ∧ Braces (board s) (board u) := by
  let r := braceRecords s.plan.window (setPlanState .braced s)
  have after : board (bump .braces (raise .brace (withdrawWaiting r))) = board (withdrawWaiting r) := board_raise _ _
  refine ⟨_, rfl, ?_⟩
  rw [after]
  obtain ⟨n, room, lowers, shown⟩ := board_braceRecords s.plan.window (setPlanState .braced s)
  obtain ⟨bus, withdrawn⟩ := board_withdrawWaiting r
  rw [shown] at withdrawn
  have started : board (setPlanState .braced s) = { board s with state := .braced } := rfl
  rw [started] at withdrawn room
  have legs : (board (withdrawWaiting r)).legs = (board r).legs := by rw [withdrawn]
  refine ⟨by rw [withdrawn], by rw [withdrawn], ?_, fun few => ?_, lowers.room.trans bus, fun l => ?_, fun _ w mem granted l leg owes planned => ?_⟩
  · exact emptied_of_withdrawn (b := board s) (u := (withdrawWaiting r).bus) (n := n) (legs := (board r).legs) (state := .braced)
      (m := (board s).mode) (withoutServed_keeps_waiting s) (waiting_of_withoutServed s) withdrawn
  · rw [withdrawn]
    exact room few
  · rw [legs]
    exact lowers.each l
  · rw [legs]
    refine lowers.down l ?_ planned
    obtain ⟨v, window, rfl⟩ := List.mem_map.mp mem
    have unreports : l ∈ unreported v := List.mem_filter.mpr ⟨leg, by rw [hasReported_eq, decide_eq_false owes]; rfl⟩
    exact List.mem_flatMap.mpr ⟨v, window, by rw [if_pos (show v.cond = .granted from granted)]; exact unreports⟩

theorem course_braceTaken {g : Prop} (s : State) : Course g (board s) (board (braceTaken s)) := by
  unfold braceTaken
  split
  case isFalse => exact .refl _
  case isTrue =>
    dsimp only
    split
    case isTrue runs =>
      obtain ⟨u, taken, braces⟩ := braces_takeBrace (s.setBal { s.bal with braceOut := false })
      rw [taken]
      exact .trans (.brace runs braces) (.flow (flow_phaseChanged u))
    case isFalse => exact .flow (planFlow_issue none (s.setBal { s.bal with braceOut := false })).flow

end Sys2Proof.Machine
end

section
/-! EVERY COMMAND ON THE BOARD. An evaluation alone uses the arbiter's moves; every other command but the resets does without. -/

namespace Sys2Proof.Machine

section
variable {g : Prop}

/-! ## Contact change reports -/

theorem course_trigger (s : State) : Course g (board s) (board (trigger s)) := by
  unfold trigger
  split
  · exact .read (board s)
  · exact .refl _

theorem board_supportFallen (s : State) : board (supportFallen s) = board s := by
  unfold supportFallen
  dsimp only
  split
  · rw [board_startSupportLost, board_setSup (by rfl)]
  · exact board_setSup (by rfl)

theorem course_changeSupport (l : Leg) (joins : Bool) (s : State) : Course g (board s) (board (changeSupport l joins s)) := by
  have triggered : Course g (board s) (board (trigger (s.setBal { s.bal with support := s.bal.support.set l joins }))) :=
    course_trigger (s.setBal { s.bal with support := s.bal.support.set l joins })
  unfold changeSupport
  dsimp only
  split
  · rw [board_supportFallen]
    exact triggered
  · split
    · unfold supportRestored
      rw [board_setSup (by rfl)]
      exact triggered
    · exact triggered

theorem course_balanceReport (l : Leg) (c : Contact) (s : State) : Course g (board s) (board (balanceReport l c s)) := by
  have shared : Course g (board s) (board
      (if c = .loaded then if s.bal.support.get l then s else changeSupport l true s
        else if s.bal.support.get l then changeSupport l false s else s)) := by
    split
    · split
      · exact .refl _
      · exact course_changeSupport ..
    · split
      · exact course_changeSupport ..
      · exact .refl _
  unfold balanceReport
  dsimp only
  generalize (if c = .loaded then if s.bal.support.get l then s else changeSupport l true s
    else if s.bal.support.get l then changeSupport l false s else s) = t at shared ⊢
  split
  · exact shared
  · exact shared

theorem course_contactReport (l : Leg) (c : Contact) (s : State) : Course g (board s) (board (contactReport l c s)) := by
  refine .trans (course_balanceReport l c s) (.flow ?_)
  exact .trans (flow_seqContact l _ c) (.trans (planFlow_issue none _).flow (flow_riseTest _))

theorem course_faultEntry (l : Leg) (s : State) : Course g (board s) (board (faultEntry l s)) := by
  unfold faultEntry
  dsimp only
  refine .trans ?_ (course_contactReport l .fault _)
  have raised : board (raise .sensorFault (bump .loadSensorFaults (modFoot l (fun f => { f with contact := .fault, qualify := 0, slip := 0 }) s))) =
      board s := board_raise _ _
  split
  · rw [← raised]
    exact course_reportFault ..
  · exact .of_board_eq raised

theorem course_takeInvalid (l : Leg) (s : State) : Course g (board s) (board (takeInvalid l s)) := by
  unfold takeInvalid
  dsimp only
  split
  · exact .refl _
  · exact course_faultEntry l (modFoot l (fun f => { f with lastLoad := 0 }) s)

theorem course_takeValid (l : Leg) (load : Nat) (s : State) : Course g (board s) (board (takeValid l load s)) := by
  unfold takeValid
  dsimp only
  split
  · exact .refl _
  · exact course_contactReport l _ (modFoot l _ s)

theorem course_takeSample (l : Leg) (c : LoadSample) (s : State) : Course g (board s) (board (takeSample l c s)) := by
  cases c with
  | valid load => exact course_takeValid l load s
  | badPeriod => exact course_takeInvalid l s
  | openCircuit => exact course_takeInvalid l s
  | short => exact course_takeInvalid l s

theorem course_loadSample (l : Leg) (n : Nat) (s : State) : Course g (board s) (board (loadSample l n s)) := by
  unfold loadSample
  split
  · exact .refl _
  · exact course_takeSample l _ (modFoot l _ s)

theorem course_loadStale (l : Leg) (s : State) : Course g (board s) (board (loadStale l s)) := by
  unfold loadStale
  split
  · exact course_takeInvalid l (modFoot l _ s)
  · exact .refl _

theorem course_slipPulse (l : Leg) (s : State) : Course g (board s) (board (slipPulse l s)) := by
  unfold slipPulse
  dsimp only
  split
  · split
    · refine .trans (.of_board_eq ?_) (course_contactReport l .slipping _)
      exact board_raise (modFoot l _ s) .slip
    · exact .refl _
  · exact .refl _

/-! ## The Attitude Port -/

theorem course_acceptSample (v : Vec3) (s : State) : Course g (board s) (board (acceptSample v s)) := by
  unfold acceptSample
  dsimp only
  have issued : Course g (board s) (board (issue (s.setAtt { s.att with sample := v, stale := false }))) :=
    .flow (planFlow_issue none (s.setAtt { s.att with sample := v, stale := false })).flow
  generalize issue (s.setAtt { s.att with sample := v, stale := false }) = t at issued ⊢
  exact issued.trans (course_trigger (t.setAtt { t.att with staleTimer := t.balCfg.staleLimit, lostTimer := t.balCfg.lostLimit }))

theorem course_attitudeReadDone (x y z : Half) (v : Bool) (s : State) :
    Course g (board s) (board (attitudeReadDone x y z v s)) := by
  unfold attitudeReadDone
  split
  · exact .refl _
  · dsimp only
    split
    · exact course_acceptSample _ (s.setAtt { s.att with reading := none })
    · exact .refl _

theorem course_goStale (s : State) : Course g (board s) (board (goStale s)) := by
  unfold goStale
  dsimp only
  refine .trans (.of_board_eq ?_) (course_trigger _)
  split
  · rfl
  · exact board_raise (s.setAtt { s.att with stale := true }) .sensorFault

/-! ## The Drive Bus Controller -/

theorem BusKeeps.of_queue {b c : Bus} (queue : c.queue = b.queue) (few : ∀ l, (b.drives.get l).timeouts ≤ 3 → (c.drives.get l).timeouts ≤ 3) :
    BusKeeps b c := fun l => ⟨by rw [queue]; exact id, by rw [queue]; exact id, few l⟩

theorem sends_setBus {s : State} {b : Bus} (h : BusKeeps s.bus b) : Sends s (s.setBus b) := ⟨h, rfl⟩

theorem sends_setLine (b : BusLine) (s : State) : Sends s (setLine b s) := sends_setBus (.of_queue rfl fun _ => id)

theorem sends_modDrive (l : Leg) (f : Drive → Drive) (few : ∀ d, d.timeouts ≤ 3 → (f d).timeouts ≤ 3) (s : State) :
    Sends s (modDrive l f s) := by
  refine sends_setBus (.of_queue rfl fun m => ?_)
  dsimp only
  rw [Quad.get_set]
  split
  case isTrue here => exact here ▸ few _
  case isFalse => exact id

/-- A transaction leaves the head of the queue. -/
theorem busKeeps_tail (b : Bus) (t : Txn) (rest : List Txn) (line : BusLine) (queue : b.queue = t :: rest) :
    BusKeeps b { b with queue := rest, line := line } := by
  have fewer : ∀ r : Txn → Bool, (rest.filter r).length ≤ (b.queue.filter r).length := fun r => by
    rw [queue]
    exact ((List.sublist_cons_self t rest).filter r).length_le
  exact fun l => ⟨fun few => (fewer _).trans few, fun few => (fewer _).trans few, id⟩

theorem sends_driveTransactionSend (s : State) : Sends s (driveTransactionSend s) := by
  unfold driveTransactionSend
  split
  case h_1 t rest _ queue => exact sends_setBus (busKeeps_tail _ t rest _ queue)
  case h_2 => exact .refl s

theorem sends_driveRequestSent (s : State) : Sends s (driveRequestSent s) := by
  unfold driveRequestSent
  split
  · exact sends_setLine _ s
  all_goals exact .refl s

theorem sends_guardEnd (s : State) : Sends s (guardEnd s) := by
  unfold guardEnd
  split
  · exact sends_setLine _ s
  all_goals exact .refl s

theorem course_countFailure (l : Leg) (s : State) : Course g (board s) (board (countFailure l s)) := by
  unfold countFailure
  dsimp only
  split
  · exact .refl _
  case isFalse notLost =>
    have below : ¬ 3 ≤ (s.bus.drives.get l).timeouts := notLost
    have counted : Sends s (modDrive l (fun d => { d with timeouts := (s.bus.drives.get l).timeouts + 1 }) s) :=
      sends_modDrive l _ (fun _ _ => by show _ + 1 ≤ 3; omega) s
    split
    · refine .trans counted.course ?_
      rw [← board_raise _ .driveFault]
      exact course_reportFault ..
    · exact counted.course

theorem sends_resend (t : Txn) (s : State) : Sends s (resend t s) := by
  unfold resend
  split
  case isTrue h =>
    obtain ⟨setpoint, alone, -⟩ := h
    have mine : t.isSetpointFor t.leg = true := by
      obtain ⟨l, op⟩ := t
      cases op with
      | setpoint => exact decide_eq_true rfl
      | poll => cases setpoint
    exact sends_setBus (busKeeps_append mine (by simpa using alone))
  case isFalse => exact .refl s

theorem course_closeFailed (t : Txn) (s : State) : Course g (board s) (board (closeFailed t s)) :=
  .trans (course_countFailure t.leg s) ((sends_resend t _).trans (sends_setLine _ _)).course

theorem course_driveReplyTimeout (s : State) : Course g (board s) (board (driveReplyTimeout s)) := by
  unfold driveReplyTimeout
  split
  · exact course_closeFailed _ (bump .driveTimeouts s)
  all_goals exact .refl _

/-- A POLL at the tail, where nothing waits for its drive. -/
theorem busKeeps_poll {b : Bus} {l : Leg} (none : b.queue.any (fun t => decide (t.leg = l)) = false) :
    BusKeeps b { b with queue := b.queue ++ [⟨l, .poll⟩] } := by
  intro m
  refine ⟨fun few => ?_, fun few => ?_, id⟩
  · rw [List.filter_append, List.length_append]
    exact few
  · rw [List.filter_append, List.length_append]
    by_cases here : l = m
    · subst here
      have absent : b.queue.filter (Txn.isPollFor l) = [] := by
        rw [List.filter_eq_nil_iff]
        intro t mem poll
        have leg : t.leg = l := by
          obtain ⟨k, op⟩ := t
          cases op with
          | setpoint => cases poll
          | poll => exact of_decide_eq_true poll
        simpa [leg] using List.any_eq_false.mp none t mem
      simp [absent, Txn.isPollFor]
    · simpa [Txn.isPollFor, here] using few

theorem sends_pollDrive (l : Leg) (s : State) : Sends s (pollDrive l s) := by
  have polled : Sends s (modDrive l (fun d => { d with poll := Config.pollMs }) s) := sends_modDrive l (fun d => { d with poll := Config.pollMs }) (fun _ few => few) s
  unfold pollDrive
  dsimp only
  split
  · exact polled
  case isFalse free =>
    have alone : s.bus.queue.any (fun t => decide (t.leg = l)) = false := by
      simp only [Bool.or_eq_true, not_or, Bool.not_eq_true] at free
      exact free.1
    exact polled.trans (sends_setBus (busKeeps_poll alone))

/-! ## A good reply -/

theorem board_preshiftTest (s : State) : board (preshiftTest s) = board s := by
  unfold preshiftTest
  split
  · rfl
  · split <;> rfl

theorem board_markIf (b : Bool) (id : Nat) (s : State) : board (if b then markRecord id s else s) = board s := by
  cases b
  · rfl
  · exact board_markRecord s id

theorem flow_shiftTest (s : State) : Flow g (none, board s) (none, board (shiftTest s)) := by
  unfold shiftTest
  split
  case h_1 => exact .refl
  case h_2 w found =>
    split
    case isFalse => exact .refl
    case isTrue =>
      dsimp only
      have clamps : board (s.setLegs (s.legs.map fun q => if q.limitReached then { q with clamped := true } else q)) = board s := by
        have views : (s.legs.map fun q => if q.limitReached then { q with clamped := true } else q).map LegSeq.view =
            s.legs.map LegSeq.view := by
          ext1 l
          rw [Quad.get_map, Quad.get_map, Quad.get_map]
          split <;> rfl
        unfold board
        dsimp only [State.setLegs]
        rw [views]
      have marks := (board_markIf (s.legs.any LegSeq.limitReached) w.body.id
        (s.setLegs (s.legs.map fun q => if q.limitReached then { q with clamped := true } else q))).trans clamps
      generalize (if s.legs.any LegSeq.limitReached then _ else _) = t at marks ⊢
      rw [← marks]
      refine (tested_completeRecord none t _ .ok fun v window same nodup => ?_).flow
      rw [marks] at window nodup
      have one := Board.eq_of_id_eq nodup window (List.mem_map_of_mem (List.mem_of_find?_eq_some found)) same
      have cond : v.cond = .running := by
        rw [one]
        exact of_decide_eq_true (List.find?_some (p := fun w : WindowRecord => decide (w.cond = Condition.running)) found)
      rw [cond]
      exact ⟨nofun, nofun⟩

theorem course_driveStateTest (l : Leg) (before : Option LastReply) (now : DriveState) (s : State) :
    Course g (board s) (board (driveStateTest l before now s)) := by
  have raised : Course g (board s) (board (reportFault .driveFault (some l) (raise .driveFault s))) := by
    rw [← board_raise s .driveFault]
    exact course_reportFault ..
  unfold driveStateTest
  cases before with
  | none =>
    dsimp only
    split
    · exact raised
    · exact .refl _
  | some r =>
    dsimp only
    split
    · exact raised
    · exact .refl _

theorem course_goodReply (l : Leg) (v : Vec3) (st : DriveState) (flag : Bool) (s : State) :
    Course g (board s) (board (goodReply l v st flag s)) := by
  unfold goodReply
  dsimp only
  have taken : Sends s (setLine .idle
      (modDrive l (fun d => { d with pos := v, last := some ⟨st, flag⟩, timeouts := 0, poll := Config.pollMs }) s)) :=
    (sends_modDrive l _ (fun _ _ => Nat.zero_le 3) s).trans (sends_setLine _ _)
  refine .trans taken.course (.trans (.flow ?_) (course_driveStateTest ..))
  refine .trans (flow_seqReply l v st flag _) (.trans ?_ (.trans (flow_riseTest _) (flow_settleCompleteTest _)))
  exact board_preshiftTest (seqReply _ _ _ _ _) ▸ flow_shiftTest _

theorem course_busByte (b : Byte) (s : State) : Course g (board s) (board (busByte b s)) := by
  unfold busByte
  split
  case h_1 t timer got _ =>
    dsimp only
    split
    · exact (sends_setLine _ s).course
    · split
      · exact course_closeFailed t (bump .driveCrcErrors s)
      · exact (sends_setLine _ s).course
      · exact course_goodReply ..
  all_goals exact .refl _

theorem course_driveReply (bs : List Byte) (s : State) : Course g (board s) (board (driveReply bs s)) := by
  induction bs generalizing s with
  | nil => exact .refl _
  | cons b rest ih => exact .trans (course_busByte b s) (ih _)

/-! ## Evaluations -/

/-- With no evaluation running none is begun by any move. -/
theorem Flow.idle {x y : Option Leg} {b c : Board} (h : Flow g (x, b) (y, c)) (idle : b.eval = none) : c.eval = none := by
  have kept : ∀ p : Option Leg × Board, Flow g (x, b) p → p.2.eval = none := by
    intro p flow
    induction flow with
    | refl => exact idle
    | tail _ move ih =>
      cases move with
      | plan h => cases h with
        | forget | withdraw | bus | log | await | shift | stop | drain | remove | report | activate | append | cut => simpa using ih
      | settle | fly | except | alight | turn | clear | stand | standing | park | lift | relabel | drop | strike => exact ih
  exact kept _ h

variable {x : Option Leg}

theorem board_mapQueue {f : SwingRequest → SwingRequest} (same : ∀ q, (f q).named = q.named) (s : State) :
    board (s.setBal { s.bal with queue := s.bal.queue.map f }) = board s := by
  have names : (s.bal.queue.map f).map SwingRequest.named = s.bal.queue.map SwingRequest.named := by
    rw [List.map_map]
    exact List.map_congr_left fun q _ => same q
  unfold board
  dsimp only [State.setBal]
  rw [names]

theorem sends_sendShifted (d : Vec3) (l : Leg) (s : State) : Sends s (sendShifted d l s) := sends_sendSetpoint s ..

theorem sends_orderPreshift (q : SwingRequest) (o : Int × Int) (s : State) : Sends s (orderPreshift q o s) := by
  have counted : board (bump .preshifts (modWindow q.id
      (fun w => { w with body := { w.body with preshifts := w.body.preshifts + 1 } })
      (s.setBal { s.bal with queue := s.bal.queue.map fun r => if r.id = q.id then { r with attempts := r.attempts + 1 } else r }))) =
      board s := by
    rw [board_bump, board_modWindow _ _ _ (by intro; rfl), board_mapQueue]
    intro r
    split <;> rfl
  unfold orderPreshift
  dsimp only
  have shifted := (Sends.of_board_eq counted).trans (sends_forLegs (sends_sendShifted ⟨-o.1, -o.2, 0⟩)
    (legsInOrder.filter fun l => decide ((s.legs.get l).phase = .stance)) _)
  exact shifted.trans (.of_board_eq (board_preshift _ _))

theorem board_dropRequest (s : State) : board (dropRequest s) = { board s with queue := (board s).queue.tail } := by
  unfold dropRequest board
  dsimp only [State.setBal]
  rw [List.map_tail]

/-- A leg's sequencer may change as the arbiter wills. -/
theorem flow_lift (l : Leg) (f : LegSeq → LegSeq) (s : State) : Flow True (x, board s) (x, board (modLeg l f s)) := by
  rw [board_modLeg]
  exact .single (.lift trivial _)

theorem flow_grantLeg (r : PlanRecord) (l : Leg) (s : State) : Flow True (none, board s) (none, board (grantLeg r l s)) := by
  unfold grantLeg
  split
  case h_1 => exact .refl
  case h_2 c _ =>
    dsimp only
    refine .trans ?_ (flow_phaseChanged _)
    refine .trans (.trans ?_ (flow_lift l _ _)) (flow_sendSetpoint l _ none _ _)
    rw [board_markIf]
    exact flow_lift l _ s

theorem flow_forLegs {f : Leg → State → State} (each : ∀ l s, Flow g (none, board s) (none, board (f l s))) (ls : List Leg) (s : State) :
    Flow g (none, board s) (none, board (forLegs f ls s)) := by
  induction ls generalizing s with
  | nil => exact .refl
  | cons l rest ih => exact .trans (each l s) (ih _)

/-- The head request has left the queue, and its record is GRANTED (R75, R113). -/
def Board.released (id : Nat) (b : Board) : Board :=
  { b with queue := b.queue.tail, window := b.window.map fun w => if w.id = id then { w with cond := .granted } else w }

theorem board_released (id : Nat) (s : State) :
    board (modWindow id (fun w => { w with cond := .granted }) (dropRequest s)) = (board s).released id := by
  have window : ∀ s : State, board (modWindow id (fun w => { w with cond := .granted }) s) =
      { board s with window := (board s).window.map fun w => if w.id = id then { w with cond := .granted } else w } := by
    intro s
    unfold modWindow board
    dsimp only [State.setPlan]
    rw [List.map_map, List.map_map]
    refine congrArg (fun ws => Board.mk _ ws _ _ _ _ _ _ _) (List.map_congr_left fun w _ => ?_)
    dsimp only [Function.comp]
    have ids : w.seat.id = w.body.id := rfl
    rw [ids]
    split <;> rfl
  rw [window, board_dropRequest]
  rfl

theorem flow_released (id : Nat) (s : State) (idle : (board s).eval = none) :
    Flow True (none, board s) (none, (board s).released id) :=
  .tail (.single (.drop trivial idle)) (.relabel trivial fun w => by split <;> rfl)

theorem flow_grant (q : SwingRequest) (s : State) (idle : (board s).eval = none) :
    Flow True (none, board s) (none, board (grant q s)) := by
  refine .trans (flow_released q.id s idle) ?_
  rw [← board_released]
  unfold grant
  dsimp only
  split
  · exact .refl
  · exact flow_forLegs (flow_grantLeg _) _ _

theorem flow_failsOnMargin (e : EvalInputs) (set : List Leg) (q : SwingRequest) (s : State) (idle : (board s).eval = none) :
    Flow True (none, board s) (none, board (failsOnMargin e set q s)) := by
  unfold failsOnMargin
  dsimp only
  split
  · exact ((sends_orderPreshift ..).planFlow none).flow
  · have dropped : Flow True (none, board s) (none, board (dropRequest s)) := by
      rw [board_dropRequest]
      exact .single (.drop trivial idle)
    refine dropped.trans ?_
    unfold completeRecord
    split
    · exact .refl
    case h_2 w _ =>
      obtain ⟨n, room, shown⟩ := board_finishRecord w .unstable (dropRequest s)
      refine .trans ?_ (tested_completionActs none _ .unstable w.body.hold).flow
      rw [shown]
      exact .tail (.single (.strike trivial w.body.id)) (.plan (.log room))

theorem flow_arbiter (e : EvalInputs) (rs : List SwingRequest) (granted : List Leg) (s : State) (idle : (board s).eval = none) :
    Flow True (none, board s) (none, board (arbiter e rs granted s)) := by
  induction rs generalizing granted s with
  | nil => exact .refl
  | cons r rest ih =>
    unfold arbiter
    split
    · exact .refl
    case h_2 q _ _ =>
      split
      · split
        · exact .refl
        · split
          · have step := flow_grant q s idle
            exact step.trans (ih _ _ (step.idle idle))
          · exact flow_failsOnMargin e _ q s idle
      · exact .refl

theorem board_braceTest (b : BalanceCfg) (fig : Figures) (s : State) : board (braceTest b fig s) = board s := by
  unfold braceTest
  split
  · split
    · split <;> rfl
    · rfl
  · rfl

theorem course_nextEvaluation (s : State) : Course g (board s) (board (nextEvaluation s)) := by
  unfold nextEvaluation
  split
  · exact .read (board s)
  · exact .refl _

theorem course_evaluationComplete (s : State) : Course True (board s) (board (evaluationComplete s)) := by
  unfold evaluationComplete
  split
  case h_1 => exact .refl _
  case h_2 e _ =>
    dsimp only
    refine .trans (.finish (board s)) (.trans ?_ (course_nextEvaluation _))
    have tested := board_braceTest e.balCfg (figuresOf e) (s.setBal { s.bal with held := figuresOf e, eval := none })
    have finished : board (s.setBal { s.bal with held := figuresOf e, eval := none }) = { board s with eval := none } := rfl
    rw [← finished, ← tested]
    unfold considerGrants
    split
    · exact .flow (flow_arbiter e _ _ _ (by rw [tested]; rfl))
    · exact .refl _

/-! ## Timers -/

theorem course_preshiftTimeout (s : State) : Course g (board s) (board (preshiftTimeout s)) := by
  unfold preshiftTimeout
  split
  · exact .refl _
  · split
    · exact (sends_holdLegs s _).course
    · exact .refl _

theorem course_shiftTimeout (s : State) : Course g (board s) (board (shiftTimeout s)) := by
  unfold shiftTimeout
  split
  case isFalse => exact .refl _
  case isTrue =>
    dsimp only
    split
    case h_1 => exact .refl _
    case h_2 w found =>
      have held := sends_holdLegs (s.setPlan { s.plan with shiftTimer := none }) legsInOrder
      refine .trans (Sends.course (s := s.setPlan { s.plan with shiftTimer := none }) held) (.flow ?_)
      refine (tested_completeRecord none _ _ .stalled fun v window same nodup => ?_).flow
      rw [held.2] at window nodup
      have one := Board.eq_of_id_eq nodup window (List.mem_map_of_mem (List.mem_of_find?_eq_some found)) same
      have cond : v.cond = .running := by
        rw [one]
        exact of_decide_eq_true (List.find?_some (p := fun w : WindowRecord => decide (w.cond = Condition.running)) found)
      rw [cond]
      exact ⟨nofun, nofun⟩

theorem course_riseSettleTimeout (s : State) : Course g (board s) (board (riseSettleTimeout s)) := by
  unfold riseSettleTimeout
  split
  case isFalse => exact .refl _
  case isTrue =>
    have stopped : board (s.setSup { s.sup with riseSettle := none }) = board s := board_setSup (by rfl)
    dsimp only
    rw [← stopped]
    split
    · exact course_reportFault ..
    · exact course_reportFault ..
    all_goals exact .refl _

theorem course_supportLostExpiry (s : State) : Course g (board s) (board (supportLostExpiry s)) := by
  unfold supportLostExpiry
  split
  · exact course_reportFault .supportLost none (s.setSup { s.sup with supportLost := none })
  · exact .refl _

theorem flow_silenceActs (s : State) : Flow g (none, board s) (none, board (silenceActs s)) := by
  unfold silenceActs
  split
  · exact .trans (flow_drain s) (flow_setPendingSettle _)
  all_goals exact .refl

theorem course_silenceExpiry (s : State) : Course g (board s) (board (silenceExpiry s)) := by
  unfold silenceExpiry
  split
  · have raised : board (raise .silence (stopSilence s)) = board s := board_raise (stopSilence s) .silence
    rw [← raised]
    exact .flow (flow_silenceActs _)
  · exact .refl _

theorem course_attitudeLost (s : State) : Course g (board s) (board (attitudeLost s)) := by
  unfold attitudeLost
  split
  · exact course_reportFault .attitudeLost none (s.setAtt { s.att with lostTimer := s.balCfg.lostLimit })
  · exact .refl _

theorem sends_tick (s : State) : Sends s (tick s) := by
  have views : (s.legs.map fun q => { q with timer := tickTimer q.timer }).map LegSeq.view = s.legs.map LegSeq.view := rfl
  refine ⟨.of_queue rfl fun l => ?_, ?_⟩
  · have drives : (tick s).bus.drives = s.bus.drives.map fun d => { d with poll := d.poll.pred } := rfl
    rw [drives, Quad.get_map]
    exact id
  · rfl

end

end Sys2Proof.Machine
end

section
/-! REQUESTS AND RESETS ON THE BOARD, and the inversion of every command in its terms. -/

namespace Sys2Proof.Machine

/-- The board after a reset of the motion state (R33, R48, R96, R141, R156). -/
def Board.blank (g : Geometry) : Board :=
  ⟨[], [], .idle, 0, .parked, Quad.const (LegView.settled .folded), [], none, Bus.reset g⟩

theorem board_motionReset {s : State} (parked : s.sup.mode = .parked) : board (motionReset s) = Board.blank s.geo := by
  unfold board Board.blank
  dsimp only [motionReset]
  rw [parked]
  rfl

theorem board_powerOnValues (rate : Nat) (flip : Bool) (s : State) :
    board (powerOnValues rate flip s) = Board.blank Geometry.default := rfl

theorem LinkMoves.board {s t : State} (h : LinkMoves s t) : board t = board s := by
  rw [h.rest]
  rfl

section
variable {g : Prop} {s t : State}

theorem course_standUp (c : SurfaceClass) (parked : s.sup.mode = .parked) : Course g (board s) (board (standUp c s)) := by
  let raised := changeMode .rising (setClasses c s)
  let up := raised.setLegs (raised.legs.map fun q => { q with phase := .posture })
  have shown : board up = { board s with mode := .rising, legs := (board s).legs.map fun v => { v with phase := .posture } } := by
    have rising : board raised = { board s with mode := .rising } := board_changeMode (setClasses c s) .rising
    have lifted : board up = { board raised with legs := (board raised).legs.map fun v => { v with phase := .posture } } := rfl
    rw [lifted, rising]
  have stands : Flow g (none, board s) (none, board up) := by
    rw [shown]
    exact .single (.stand parked)
  unfold standUp
  dsimp only
  rw [board_setSup (by rfl)]
  exact .flow (stands.trans ((sends_sendPose up up.geo.stancePose).planFlow none).flow)

theorem course_clearHold (held : s.sup.mode = .safeHold) : Course g (board s) (board (clearHold s)) := by
  unfold clearHold
  rw [board_startSupportLost]
  refine .flow (.trans ?_ (flow_phaseChanged _))
  rw [board_setAllPhases, board_changeMode]
  exact .single (.standing (.inr held))

/-- The ids of an accepted append repeat none of the plan (R73). -/
theorem hasDuplicate_eq_false {s : State} {rs : List PlanRecord} (h : hasDuplicate s rs = false) :
    (rs.map PlanRecord.id).Nodup ∧ ∀ r ∈ rs, r.id ∉ idsInPlan s := by
  simp only [hasDuplicate, Bool.or_eq_false_iff, decide_eq_false_iff_not, not_not] at h
  exact ⟨h.1, fun r mem => by simpa using List.any_eq_false.mp h.2 r mem⟩

theorem course_appendRecords {rs : List PlanRecord} (fresh : hasDuplicate s rs = false)
    (room : s.plan.list.length + s.plan.window.length + rs.length ≤ 32) :
    Course g (board s) (board (appendRecords rs s)) := by
  have appended : Flow g (none, board s) (none, board (s.setPlan { s.plan with list := s.plan.list ++ rs })) := by
    have shown : board (s.setPlan { s.plan with list := s.plan.list ++ rs }) =
        { board s with waits := (board s).waits ++ rs.map PlanRecord.id } := by
      rw [board_setPlan, List.map_append]
      rfl
    rw [shown]
    obtain ⟨once, new⟩ := hasDuplicate_eq_false fresh
    refine .single (.plan (.append (fun nodup => once.append nodup fun id mem inPlan => ?_) (by simpa [board] using room)))
    obtain ⟨r, record, rfl⟩ := List.mem_map.mp mem
    exact new r record (board_ids s ▸ inPlan)
  unfold appendRecords
  dsimp only
  split
  · exact .flow (appended.trans (planFlow_issue none _).flow)
  · exact .flow appended

theorem course_activate (standing : s.sup.mode = .standing) : Course g (board s) (board (activate s)) := by
  have activated : PlanFlow none (board s) (board (setPlanState .active s)) := .single (.activate standing)
  exact .flow ((tested_idleIfEmpty none (issue (setPlanState .active s))).after
    (activated.trans (planFlow_issue none (setPlanState .active s)))).flow

theorem course_cut {kept : List PlanRecord} (ahead : kept <+: s.plan.list) :
    Course g (board s) (board (idleIfEmpty (setPlanList kept s))) := by
  have cut : PlanFlow none (board s) (board (setPlanList kept s)) := .single (.cut (ahead.map PlanRecord.id))
  exact .flow ((tested_idleIfEmpty none (setPlanList kept s)).after cut).flow

theorem board_takeSupervision (limit : Nat) (p : Policy) (s : State) : board (takeSupervision limit p s) = board s := by
  have set : board (s.setSup { s.sup with silenceLimit := limit, policy := p, latch := s.sup.latch || decide (p = .settle) }) =
      board s := board_setSup (by rfl)
  unfold takeSupervision
  dsimp only
  split
  · exact set
  · rw [board_restartSilence, set]

theorem board_replaceMask (m : EventSet) (s : State) : board (replaceMask m s) = board s := by
  unfold replaceMask
  dsimp only
  split
  · rfl
  · unfold requestNotice
    split <;> rfl

theorem course_served {c : Instr} (h : Served c s t) :
    Course g (board s) (board t) ∨ board t = Board.blank s.geo := by
  cases h with
  | unchanged => exact .inl (.refl _)
  | geometry => exact .inl (.refl _)
  | surface => exact .inl (.refl _)
  | balance => exact .inl (.refl _)
  | gait => exact .inl (.refl _)
  | supervision => exact .inl (.of_board_eq (board_takeSupervision ..))
  | stand parked => exact .inl (course_standUp _ parked)
  | sit sits => exact .inl (.flow (flow_enterSettling none s (sits.imp And.right id)))
  | clearHold held => exact .inl (course_clearHold held)
  | motion parked => exact .inr (board_motionReset parked)
  | append fresh room => exact .inl (course_appendRecords fresh room)
  | activate standing => exact .inl (course_activate standing)
  | drain => exact .inl (.flow (flow_drain s))
  | cut ahead => exact .inl (course_cut ahead)
  | report =>
    refine .inl (.flow (.single (.plan (.log fun few => ?_))))
    show (s.plan.log.drop Config.reportMax).length ≤ 16
    rw [List.length_drop]
    exact (Nat.sub_le ..).trans few
  | mask => exact .inl (.of_board_eq (board_replaceMask ..))
  | ack => exact .inl (.refl _)
  | clearFault => exact .inl (.refl _)
  | clearCounters => exact .inl (.refl _)

/-- What a command does to the board: a course, in which only an evaluation uses the arbiter's moves, or a reset. -/
theorem course_of_done {c : Instr} (done : Done c s t) :
    Course (c = .evaluationComplete) (board s) (board t) ∨ ∃ geo, board t = Board.blank geo := by
  cases done with
  | untaken => exact .inl (.refl _)
  | taken taking _ served => exact (course_served served).imp id fun h => ⟨_, h⟩
  | powerOnReset => exact .inr ⟨_, board_powerOnValues ..⟩
  | timeBaseTick => exact .inl (sends_tick s).course
  | linkByte => exact .inl (.of_board_eq (linkMoves_linkByte ..).board)
  | gapTimerExpiry => exact .inl (.of_board_eq (linkMoves_gapTimerExpiry s).board)
  | frameSendStart => exact .inl (.of_board_eq (linkMoves_frameSendStart s).board)
  | frameSendEnd =>
    rcases linkMoves_frameSendEnd s with moves | reset
    · exact .inl (.of_board_eq moves.board)
    · rw [reset]
      exact .inr ⟨_, board_powerOnValues ..⟩
  | silenceExpiry => exact .inl (course_silenceExpiry s)
  | loadSample => exact .inl (course_loadSample ..)
  | loadStale => exact .inl (course_loadStale ..)
  | slipPulse => exact .inl (course_slipPulse ..)
  | attitudeReadStart =>
    unfold attitudeReadStart
    split <;> exact .inl (.refl _)
  | attitudeReadDone => exact .inl (course_attitudeReadDone ..)
  | attitudeReadTimeout =>
    unfold attitudeReadTimeout
    split <;> exact .inl (.refl _)
  | attitudeStaleExpiry =>
    unfold attitudeStaleExpiry
    split
    · exact .inl (course_goStale s)
    · exact .inl (.refl _)
  | attitudeLost => exact .inl (course_attitudeLost s)
  | evaluationComplete => exact .inl ((eq_true (rfl : Instr.evaluationComplete = .evaluationComplete)).symm ▸ course_evaluationComplete s)
  | braceTaken => exact .inl (course_braceTaken s)
  | preshiftTimeout => exact .inl (course_preshiftTimeout s)
  | shiftTimeout => exact .inl (course_shiftTimeout s)
  | phaseTimerExpiry =>
    unfold phaseTimerExpiry
    split
    · exact .inl (.flow (flow_timerRunsOut ..))
    · exact .inl (.refl _)
  | driveTransactionSend => exact .inl (sends_driveTransactionSend s).course
  | driveRequestSent => exact .inl (sends_driveRequestSent s).course
  | driveReply => exact .inl (course_driveReply ..)
  | driveReplyTimeout => exact .inl (course_driveReplyTimeout s)
  | guardEnd => exact .inl (sends_guardEnd s).course
  | pollTimerExpiry =>
    unfold pollTimerExpiry
    split
    · exact .inl (sends_pollDrive ..).course
    · exact .inl (.refl _)
  | riseSettleTimeout => exact .inl (course_riseSettleTimeout s)
  | supportLost => exact .inl (course_supportLostExpiry s)
  | loadFallingEdge =>
    unfold loadFallingEdge
    split <;> exact .inl (.refl _)

end

end Sys2Proof.Machine
end

section
/-! INVARIANTS OF THE BOARD, move by move: the room of the plan and of the transaction queue, the modes in which a plan runs, and
what an evaluation has read of the grant queue. -/

namespace Sys2Proof.Machine

section
variable {g : Prop} {x : Option Leg} {b c : Board}

/-- What every move, every reading and finishing of an evaluation, every SAFE_HOLD entry and every brace keep, a course keeps. -/
theorem Course.keeps {P : Option Leg → Board → Prop} (move : ∀ x y b c, P x b → Move g (x, b) (y, c) → P y c)
    (read : ∀ b, P none b → P none { b with eval := some b.read }) (finish : ∀ b, P none b → P none { b with eval := none })
    (hold : ∀ b c, P none b → Holds b c → P none c) (brace : ∀ b c, P none b → b.runs = true → Braces b c → P none c)
    (h : Course g b c) (held : P none b) : P none c := by
  induction h with
  | @flow b c moves =>
    have kept : ∀ p : Option Leg × Board, Flow g (none, b) p → P p.1 p.2 := by
      intro p moves
      induction moves with
      | refl => exact held
      | tail _ last ih => exact move _ _ _ _ ih last
    exact kept _ moves
  | read b => exact read b held
  | finish b => exact finish b held
  | hold h => exact hold _ _ held h
  | brace running h => exact brace _ _ held running h
  | trans _ _ ih ih' => exact ih' (ih held)

/-- An invariant of the board is kept by every step where every course keeps it and every reset meets it. -/
theorem step_keeps_of_course {P : Board → Prop} (course : ∀ g b c, P b → Course g b c → P c) (blank : ∀ geo, P (Board.blank geo))
    {s t : State} (held : P (board s)) (stepped : step s = .next t) : P (board t) := by
  refine step_keeps (P := fun s => P (board s)) (fun _ _ h => h) (fun c s t held done => ?_) held stepped
  rcases course_of_done done with course' | ⟨geo, reset⟩
  · exact course _ _ _ held course'
  · rw [reset]
    exact blank geo

/-! ## The room of the transaction queue -/

/-- The room of the transaction queue and the range of the timeout counts (R128, R137). -/
def Bus.Roomy (b : Bus) : Prop :=
  ∀ l, (b.queue.filter (Txn.isSetpointFor l)).length ≤ 1 ∧ (b.queue.filter (Txn.isPollFor l)).length ≤ 1 ∧ (b.drives.get l).timeouts ≤ 3

theorem BusKeeps.roomy {b c : Bus} (h : BusKeeps b c) (held : b.Roomy) : c.Roomy := fun l =>
  ⟨(h l).1 (held l).1, (h l).2.1 (held l).2.1, (h l).2.2 (held l).2.2⟩

theorem Move.busKeeps {y : Option Leg} (h : Move g (x, b) (y, c)) : BusKeeps b.bus c.bus := by
  cases h with
  | plan h => cases h with
    | bus room => exact room
    | log | await | shift | stop | drain | forget | withdraw | remove | report | activate | append | cut => exact .refl _
  | settle | fly | except | alight | turn | clear | stand | standing | park | lift | relabel | drop | strike => exact .refl _

theorem roomy_course (h : Course g b c) (held : b.bus.Roomy) : c.bus.Roomy :=
  h.keeps (P := fun _ b => b.bus.Roomy) (fun _ _ _ _ held move => move.busKeeps.roomy held) (fun _ => id) (fun _ => id)
    (fun _ _ held holds => holds.bus.roomy held) (fun _ _ held _ braces => braces.bus.roomy held) held

theorem roomy_blank (geo : Geometry) : (Board.blank geo).bus.Roomy := by
  intro l
  simp [Board.blank, Bus.reset, Drive.reset]

/-! ## The modes in which a plan runs -/

/-- A plan runs only in STANDING, and one that does not run has nothing in its window (R82, R84, R86, R92, R94). -/
structure Board.Stands (b : Board) : Prop where
  standing : b.runs = true → b.mode = .standing
  empty : b.runs = false → b.window = []

theorem Board.runs_iff : b.runs = true ↔ b.state = .active ∨ b.state = .draining := decide_eq_true_iff

theorem Board.runs_of_active (h : b.state = .active) : b.runs = true := Board.runs_iff.mpr (.inl h)

/-- In any mode but STANDING no plan runs. -/
theorem Board.not_runs (standing : b.runs = true → b.mode = .standing) (h : b.mode ≠ .standing) : b.runs = false := by
  cases runs : b.runs with
  | false => rfl
  | true => exact absurd (standing runs) h

theorem Board.not_runs_of_stopped (standing : b.runs = true → b.mode = .standing) (h : b.runs = false ∨ b.mode = .safeHold) :
    b.runs = false := h.elim id fun held => Board.not_runs standing (by rw [held]; nofun)

theorem standing_planMove (h : PlanMove x b c) (held : b.runs = true → b.mode = .standing) : c.runs = true → c.mode = .standing := by
  cases h with
  | bus | log | await | shift | forget | withdraw | remove | report | append | cut => exact held
  | stop _ stopped => exact fun runs => absurd (Board.runs_iff.mp runs) (by simp [stopped])
  | drain active => exact fun _ => held (Board.runs_of_active active)
  | activate standing => exact fun _ => standing

theorem standing_move {y : Option Leg} (h : Move g (x, b) (y, c)) (held : b.runs = true → b.mode = .standing) :
    c.runs = true → c.mode = .standing := by
  cases h with
  | plan h => exact standing_planMove h held
  | settle stopped =>
    have still := Board.not_runs_of_stopped held stopped
    exact fun runs => absurd (still.symm.trans runs) nofun
  | fly | except | alight | turn | clear | lift | relabel | drop | strike => exact held
  | stand parked =>
    have still := Board.not_runs held (by rw [parked]; nofun)
    exact fun runs => absurd (still.symm.trans runs) nofun
  | standing => exact fun _ => rfl
  | park => exact fun runs => absurd (Board.runs_iff.mp runs) (by simp)

theorem standing_course (h : Course g b c) (held : b.runs = true → b.mode = .standing) : c.runs = true → c.mode = .standing :=
  h.keeps (P := fun _ b => b.runs = true → b.mode = .standing) (fun _ _ _ _ held move => standing_move move held) (fun _ => id)
    (fun _ => id) (fun _ _ _ holds runs => absurd (holds.stopped.symm.trans runs) nofun)
    (fun _ _ _ _ braces runs => absurd (Board.runs_iff.mp runs) (by simp [braces.state])) held

theorem stands_planMove (h : PlanMove x b c) (held : b.Stands) : c.Stands := by
  refine ⟨standing_planMove h held.standing, ?_⟩
  have empty := held.empty
  cases h with
  | bus | log | forget | append | cut => exact empty
  | await active => exact fun still => absurd ((Board.runs_of_active active).symm.trans still) nofun
  | shift active => exact fun still => absurd ((Board.runs_of_active active).symm.trans still) nofun
  | stop alone => exact fun _ => alone
  | drain active => exact fun still => absurd still (by simp [Board.runs])
  | activate => exact fun still => absurd still (by simp [Board.runs])
  | withdraw => exact fun still => by rw [empty still]; rfl
  | remove => exact fun still => by rw [empty still]; rfl
  | report => exact fun still => by rw [empty still]; rfl

theorem stands_move {y : Option Leg} (h : Move g (x, b) (y, c)) (held : b.Stands) : c.Stands := by
  cases h with
  | plan h => exact stands_planMove h held
  | settle stopped => exact ⟨standing_move (.settle (g := g) (x := x) stopped) held.standing, held.empty⟩
  | fly | except | alight | turn | clear | lift | drop => exact ⟨held.standing, held.empty⟩
  | stand parked => exact ⟨standing_move (.stand (g := g) parked) held.standing, held.empty⟩
  | standing => exact ⟨fun _ => rfl, held.empty⟩
  | park settling =>
    exact ⟨standing_move (.park (g := g) settling) held.standing,
      fun _ => held.empty (Board.not_runs held.standing (by rw [settling]; nofun))⟩
  | relabel => exact ⟨held.standing, fun still => by rw [held.empty still]; rfl⟩
  | strike => exact ⟨held.standing, fun still => by rw [held.empty still]; rfl⟩

theorem Holds.window (h : Holds b c) (held : b.Stands) : c.window = [] := by
  rcases h.plan with emptied | ⟨still, window, -⟩
  · exact emptied.window
  · rw [window]
    exact held.empty still

theorem stands_holds (h : Holds b c) (held : b.Stands) : c.Stands :=
  ⟨fun runs => absurd (h.stopped.symm.trans runs) nofun, fun _ => h.window held⟩

theorem stands_braces (h : Braces b c) : c.Stands :=
  ⟨fun runs => absurd (Board.runs_iff.mp runs) (by simp [h.state]), fun _ => h.emptied.window⟩

theorem stands_course (h : Course g b c) (held : b.Stands) : c.Stands :=
  h.keeps (P := fun _ b => b.Stands) (fun _ _ _ _ held move => stands_move move held) (fun _ h => ⟨h.standing, h.empty⟩)
    (fun _ h => ⟨h.standing, h.empty⟩) (fun _ _ held holds => stands_holds holds held) (fun _ _ _ _ braces => stands_braces braces) held

/-! ## The room of the plan -/

/-- What the plan can hold (R72, R73, R80). -/
structure Board.Roomy (b : Board) : Prop where
  records : b.waits.length + b.window.length ≤ 32
  log : b.logged ≤ 16
  nodup : b.ids.Nodup

/-- The ids of a window divide into those of its WAITING records and the others. -/
theorem perm_waitingIds (ws : List Seat) :
    (waitingIds ws ++ (ws.filter fun w => decide (w.cond ≠ .waiting)).map Seat.id).Perm (ws.map Seat.id) := by
  unfold waitingIds
  rw [← List.map_append]
  simpa using (List.filter_append_perm (fun w : Seat => decide (w.cond = .waiting)) ws).map Seat.id

theorem nodup_emptied {b c : Board} (h : Emptied b c) (nodup : b.ids.Nodup) : c.ids.Nodup := by
  obtain ⟨back, sub, waits⟩ := h.waits
  have small : back.Sublist (b.window.map Seat.id) := sub.trans ((List.filter_sublist).map _)
  unfold Board.ids at nodup ⊢
  rw [h.window, waits, List.map_nil, List.append_nil]
  exact (List.perm_append_comm.nodup_iff.mp nodup).sublist (small.append (.refl _))

theorem length_emptied {b c : Board} (h : Emptied b c) : c.waits.length + c.window.length ≤ b.waits.length + b.window.length := by
  obtain ⟨back, sub, waits⟩ := h.waits
  have few := sub.length_le
  have fewer : (waitingIds b.window).length ≤ b.window.length := by
    unfold waitingIds
    rw [List.length_map]
    exact List.length_filter_le ..
  rw [h.window, waits, List.length_append, List.length_nil]
  omega

theorem ids_of_sublist {ws vs : List Nat} {us rs : List Seat} (waits : ws.Sublist vs) (window : us.Sublist rs) :
    (ws ++ us.map Seat.id).Sublist (vs ++ rs.map Seat.id) := waits.append (window.map _)

/-- A planner's move keeps every id single in the plan (R73). -/
theorem nodup_planMove (h : PlanMove x b c) (nodup : b.ids.Nodup) : c.ids.Nodup := by
  cases h with
  | bus | log | stop | drain | forget | activate => exact nodup
  | await _ head =>
    unfold Board.ids at nodup ⊢
    rw [head] at nodup
    simp only [List.map_append, List.map_cons, List.map_nil]
    rw [← List.append_assoc]
    exact (List.perm_append_singleton _ _).symm.nodup_iff.mp nodup
  | shift _ head alone =>
    unfold Board.ids at nodup ⊢
    rw [head, alone] at nodup
    exact (List.perm_append_singleton _ _).symm.nodup_iff.mp (by simpa using nodup)
  | withdraw =>
    unfold Board.ids at nodup ⊢
    refine (List.Perm.nodup_iff ?_).mp nodup
    refine (List.perm_append_comm.trans (List.Perm.append_right _ (perm_waitingIds b.window).symm)).trans ?_
    show (waitingIds b.window ++ _ ++ _).Perm (waitingIds b.window ++ _ ++ _)
    rw [List.append_assoc, List.append_assoc]
    exact List.perm_append_comm.append_left _
  | remove => exact nodup.sublist (ids_of_sublist (.refl _) List.filter_sublist)
  | @report l w =>
    unfold Board.ids
    dsimp only
    rw [List.map_map, show Seat.id ∘ (fun v => if v.id = w.id then { w with reported := w.reported ++ [l] } else v) = Seat.id from
      funext fun v => by dsimp only [Function.comp]; split <;> simp_all]
    exact nodup
  | append fresh =>
    have all := fresh nodup
    unfold Board.ids at all ⊢
    rw [← List.append_assoc] at all
    exact (List.perm_append_comm.append_right _).nodup_iff.mp all
  | cut ahead => exact nodup.sublist (ids_of_sublist ahead.sublist (.refl _))

/-- A planner's move keeps the room of the list and the window (R72). -/
theorem room_planMove (h : PlanMove x b c) (records : b.waits.length + b.window.length ≤ 32) : c.waits.length + c.window.length ≤ 32 := by
  cases h with
  | bus | log | stop | drain | forget | activate => exact records
  | await _ head => simp [head] at records ⊢; omega
  | shift _ head => simp [head] at records ⊢; omega
  | withdraw =>
    have total := (perm_waitingIds b.window).length_eq
    unfold waitingIds at total
    simp only [List.length_append, List.length_map] at total ⊢
    omega
  | remove => exact (Nat.add_le_add_left (List.length_filter_le ..) _).trans records
  | report => simpa using records
  | append _ room => simp; omega
  | cut ahead => exact (Nat.add_le_add_right ahead.length_le _).trans records

theorem roomy_move {y : Option Leg} (h : Move g (x, b) (y, c)) (held : b.Roomy) : c.Roomy := by
  cases h with
  | plan h =>
    refine ⟨room_planMove h held.records, ?_, nodup_planMove h held.nodup⟩
    cases h with
    | log room => exact room held.log
    | bus | await | shift | stop | drain | forget | withdraw | remove | report | activate | append | cut => exact held.log
  | settle | fly | except | alight | turn | clear | stand | standing | park | lift | drop => exact ⟨held.records, held.log, held.nodup⟩
  | relabel allowed same =>
    refine ⟨by rw [List.length_map]; exact held.records, held.log, ?_⟩
    unfold Board.ids
    rw [List.map_map, show Seat.id ∘ _ = Seat.id from funext same]
    exact held.nodup
  | strike =>
    exact ⟨(Nat.add_le_add_left (List.length_filter_le ..) _).trans held.records, held.log,
      held.nodup.sublist (ids_of_sublist (.refl _) List.filter_sublist)⟩

theorem roomy_holds (h : Holds b c) (held : b.Roomy) : c.Roomy := by
  rcases h.plan with emptied | ⟨-, window, waits, -⟩
  · exact ⟨(length_emptied emptied).trans held.records, h.logged held.log, nodup_emptied emptied held.nodup⟩
  · refine ⟨by rw [window, waits]; exact held.records, h.logged held.log, ?_⟩
    unfold Board.ids
    rw [window, waits]
    exact held.nodup

theorem roomy_braces (h : Braces b c) (held : b.Roomy) : c.Roomy :=
  ⟨(length_emptied h.emptied).trans held.records, h.logged held.log, nodup_emptied h.emptied held.nodup⟩

theorem planRoomy_course (h : Course g b c) (held : b.Roomy) : c.Roomy :=
  h.keeps (P := fun _ b => b.Roomy) (fun _ _ _ _ held move => roomy_move move held) (fun _ h => ⟨h.records, h.log, h.nodup⟩)
    (fun _ h => ⟨h.records, h.log, h.nodup⟩) (fun _ _ held holds => roomy_holds holds held) (fun _ _ held _ braces => roomy_braces braces held)
    held

theorem planRoom_iff (s : State) : PlanRoom s ↔ (board s).Roomy := by
  have lengths : (board s).waits.length + (board s).window.length = s.plan.list.length + s.plan.window.length := by simp [board]
  constructor
  · rintro ⟨records, log, nodup⟩
    exact ⟨lengths ▸ records, log, board_ids s ▸ nodup⟩
  · rintro ⟨records, log, nodup⟩
    exact ⟨lengths ▸ records, log, board_ids s ▸ nodup⟩

/-! ## What an evaluation has read -/

/-- What a running evaluation read of the grant queue stands at its head (R49, R61, R111). -/
def Board.ReadsQueue (b : Board) : Prop := ∀ e, b.eval = some e → e.queue <+: b.queue

theorem evalReadsQueue_iff (s : State) : EvalReadsQueue s ↔ (board s).ReadsQueue := by
  unfold EvalReadsQueue Board.ReadsQueue board
  dsimp only
  constructor
  · intro held e read
    obtain ⟨i, running, rfl⟩ := Option.map_eq_some_iff.mp read
    obtain ⟨later, queue⟩ := held i running
    exact ⟨later, queue.symm⟩
  · intro held i running
    obtain ⟨later, queue⟩ := held i.view (by rw [running]; rfl)
    exact ⟨later, queue.symm⟩

theorem readsQueue_forget {queue : List (Nat × List Leg)} {eval : Option ReadView} (ids : List Nat)
    (held : ∀ e, eval = some e → e.queue <+: queue) :
    ∀ e, (eval.map fun e => { e with queue := without ids e.queue }) = some e → e.queue <+: without ids queue := by
  intro e read
  obtain ⟨i, running, rfl⟩ := Option.map_eq_some_iff.mp read
  exact (held i running).filter _

theorem readsQueue_move {y : Option Leg} (h : Move g (x, b) (y, c)) (held : b.ReadsQueue) : c.ReadsQueue := by
  cases h with
  | plan h => cases h with
    | bus | log | shift | stop | drain | withdraw | remove | report | activate | append | cut => exact held
    | await => exact fun e read => (held e read).trans (List.prefix_append ..)
    | forget ids => exact readsQueue_forget ids held
  | settle | fly | except | alight | turn | clear | stand | standing | park | lift | relabel | strike => exact held
  | drop _ idle => exact fun e read => absurd (idle.symm.trans read) nofun

theorem readsQueue_emptied (h : Emptied b c) (held : b.ReadsQueue) : c.ReadsQueue := by
  obtain ⟨ids, -, queue, eval⟩ := h.queue
  unfold Board.ReadsQueue
  rw [queue, eval]
  exact readsQueue_forget ids held

theorem readsQueue_holds (h : Holds b c) (held : b.ReadsQueue) : c.ReadsQueue := by
  rcases h.plan with emptied | ⟨-, -, -, queue, eval⟩
  · exact readsQueue_emptied emptied held
  · unfold Board.ReadsQueue
    rw [queue, eval]
    exact held

theorem readsQueue_course (h : Course g b c) (held : b.ReadsQueue) : c.ReadsQueue :=
  h.keeps (P := fun _ b => b.ReadsQueue) (fun _ _ _ _ held move => readsQueue_move move held)
    (fun b _ e read => by cases read; exact List.prefix_refl _) (fun _ _ e read => absurd read nofun)
    (fun _ _ held holds => readsQueue_holds holds held) (fun _ _ held _ braces => readsQueue_emptied braces.emptied held) held

end

/-- Settles O44, move by move on the board. -/
theorem planRoomIsKept : Obligations.PlanRoomIsKept := by
  unfold Obligations.PlanRoomIsKept
  constructor
  · intro s t held stepped
    rw [planRoom_iff] at held ⊢
    exact step_keeps_of_course (fun _ _ _ held course => planRoomy_course course held)
      (fun _ => ⟨Nat.zero_le _, Nat.zero_le _, List.nodup_nil⟩) held stepped
  · intro s t held stepped
    exact step_keeps_of_course (P := fun b => b.runs = true → b.mode = .standing) (fun _ _ _ held course => standing_course course held)
      (fun _ runs => absurd (Board.runs_iff.mp runs) (by simp [Board.blank])) held stepped

/-- Settles O19: the Link Port by what each command does to it, the bus move by move on the board. -/
theorem linkAndBusRoomAreKept : Obligations.LinkAndBusRoomAreKept := by
  unfold Obligations.LinkAndBusRoomAreKept
  constructor
  · intro s t held stepped
    exact step_keeps (fun _ _ h => h) (fun _ _ _ held done => linkRoom_done held done) held stepped
  · intro s t held stepped
    exact step_keeps_of_course (P := fun b => b.bus.Roomy) (fun _ _ _ held course => roomy_course course held) roomy_blank held stepped

end Sys2Proof.Machine
end

section
/-! WHAT WAITS STANDS, WHAT STEPS SERVES, on the board. A leg whose outcome is being reported is exempt meanwhile. -/

namespace Sys2Proof.Machine

section
variable {g : Prop} {x y : Option Leg} {b c : Board}

/-! ## Motions -/

/-- A leg with a motion is airborne, but for the exempt one, and the part stands or is held (R96, R98). -/
def MotionsFly (x : Option Leg) (b : Board) : Prop :=
  ∀ l, (b.legs.get l).motion ≠ none →
    (x ≠ some l → (b.legs.get l).phase.airborne = true) ∧ (b.mode = .standing ∨ b.mode = .safeHold)

theorem MotionsFly.still (held : MotionsFly x b) (mode : b.mode ≠ .standing ∧ b.mode ≠ .safeHold) (l : Leg) :
    (b.legs.get l).motion = none := by
  by_contra moving
  rcases (held l moving).2 with h | h
  · exact mode.1 h
  · exact mode.2 h

/-- One leg changes. -/
theorem MotionsFly.set {l : Leg} {v : LegView} (held : ∀ m, m ≠ l → (b.legs.get m).motion ≠ none →
      (y ≠ some m → (b.legs.get m).phase.airborne = true) ∧ (b.mode = .standing ∨ b.mode = .safeHold))
    (here : v.motion ≠ none → (y ≠ some l → v.phase.airborne = true) ∧ (b.mode = .standing ∨ b.mode = .safeHold)) :
    MotionsFly y { b with legs := b.legs.set l v } := by
  intro m
  dsimp only
  rw [Quad.get_set]
  split
  case isTrue same => exact same ▸ here
  case isFalse other => exact held m other

theorem airborne_of_off {p : Phase} (off : p = .swing ∨ p = .reach) : p.airborne = true := by
  rcases off with rfl | rfl <;> rfl

theorem motionsFly_planMove (h : PlanMove x b c) (held : MotionsFly x b) : MotionsFly x c := by
  cases h <;> exact held

theorem motionsFly_move (h : Move False (x, b) (y, c)) (held : MotionsFly x b) : MotionsFly y c := by
  cases h with
  | plan h => exact motionsFly_planMove h held
  | settle | standing => exact fun l moving => by simp [LegView.settled] at moving
  | @fly b l v moving off moves =>
    exact .set (fun m _ => held m) fun _ => ⟨fun _ => airborne_of_off off, (held l moving).2⟩
  | except => exact fun l moving => ⟨fun _ => (held l moving).1 nofun, (held l moving).2⟩
  | @alight b l v moving =>
    exact .set (fun m _ moving => ⟨fun _ => (held m moving).1 nofun, (held m moving).2⟩)
      fun _ => ⟨fun other => absurd rfl other, (held l moving).2⟩
  | @turn b l v airborne moving off =>
    exact .set (fun m other moving => ⟨fun _ => (held m moving).1 fun same => other (Option.some.inj same).symm, (held m moving).2⟩)
      fun _ => ⟨fun _ => airborne_of_off off, (held l moving).2⟩
  | @clear b l v still =>
    exact .set (fun m other moving => ⟨fun _ => (held m moving).1 fun same => other (Option.some.inj same).symm, (held m moving).2⟩)
      fun moving => absurd still moving
  | stand parked =>
    intro l moving
    rw [Quad.get_map] at moving
    exact absurd (held.still (by rw [parked]; exact ⟨nofun, nofun⟩) l) moving
  | park settling =>
    intro l moving
    rw [Quad.get_map] at moving
    exact absurd (held.still (by rw [settling]; exact ⟨nofun, nofun⟩) l) moving
  | lift allowed | relabel allowed | drop allowed | strike allowed => exact allowed.elim

theorem motionsFly_holds (h : Holds b c) (held : MotionsFly none b) : MotionsFly none c := by
  intro l moving
  rw [h.legs] at moving ⊢
  exact ⟨(held l moving).1, .inr h.mode⟩

theorem motionsFly_braces (h : Braces b c) (held : MotionsFly none b) : MotionsFly none c := by
  intro l moving
  rw [h.mode]
  rcases h.legs l with same | ⟨step, -, -, ⟨reach, -⟩ | ⟨-, still⟩⟩
  · rw [same] at moving ⊢
    exact held l moving
  · exact ⟨fun _ => by rw [reach]; rfl, (held l (by rw [step]; nofun)).2⟩
  · exact absurd still moving

/-! ## What waits for a grant -/

/-- Every request has its WAITING record, with the same legs; they stand, and no other record names them (R76, R111, R113). -/
structure Waits (b : Board) : Prop where
  request : ∀ q ∈ b.queue, ∃ w ∈ b.window, w.cond = .waiting ∧ w.id = q.1 ∧ w.legs = q.2
  stands : ∀ w ∈ b.window, w.cond = .waiting → ∀ l ∈ w.legs, (b.legs.get l).phase = .stance
  alone : ∀ w ∈ b.window, w.cond = .waiting → ∀ l ∈ w.legs, ∀ v ∈ b.window, l ∈ v.legs → v.id = w.id
  once : (b.queue.map Prod.fst).Nodup
  nodup : b.ids.Nodup

/-- A window without records waits for nothing. -/
theorem Waits.of_empty (window : b.window = []) (queue : b.queue = []) (nodup : b.ids.Nodup) : Waits b where
  request := by rw [queue]; nofun
  stands := by rw [window]; nofun
  alone := by rw [window]; nofun
  once := by rw [queue]; exact List.nodup_nil
  nodup := nodup

theorem Waits.queue_of_empty (h : Waits b) (window : b.window = []) : b.queue = [] := by
  refine List.eq_nil_iff_forall_not_mem.mpr fun q mem => ?_
  obtain ⟨w, seated, -⟩ := h.request q mem
  rw [window] at seated
  cases seated

/-- Fewer records and requests, the WAITING records of the requests among them; what stood stands. -/
theorem Waits.thin (h : Waits b) (window : c.window.Sublist b.window) (queue : c.queue.Sublist b.queue)
    (legs : ∀ l, (b.legs.get l).phase = .stance → (c.legs.get l).phase = .stance)
    (kept : ∀ p ∈ c.queue, ∀ w ∈ b.window, w.cond = .waiting → w.id = p.1 → w ∈ c.window) (nodup : c.ids.Nodup) : Waits c where
  request p mem := by
    obtain ⟨w, seated, waiting, same, legs⟩ := h.request p (queue.subset mem)
    exact ⟨w, kept p mem w seated waiting same, waiting, same, legs⟩
  stands w mem waiting l named := legs l (h.stands w (window.subset mem) waiting l named)
  alone w mem waiting l named v seated := h.alone w (window.subset mem) waiting l named v (window.subset seated)
  once := h.once.sublist (queue.map _)
  nodup := nodup

/-- The same records and requests; what stood stands. -/
theorem Waits.relegs (h : Waits b) (window : c.window = b.window) (queue : c.queue = b.queue) (nodup : c.ids.Nodup)
    (legs : ∀ l, (b.legs.get l).phase = .stance → (c.legs.get l).phase = .stance) : Waits c :=
  h.thin (by rw [window]) (by rw [queue]) legs (fun _ _ _ mem _ _ => window ▸ mem) nodup

/-- A new record, at the tail of the window, named by no request yet. -/
theorem Waits.fresh_id {id : Nat} {rest : List Nat} (h : Waits b) (head : b.waits = id :: rest) : id ∉ b.queue.map Prod.fst := by
  intro mem
  obtain ⟨q, queued, rfl⟩ := List.mem_map.mp mem
  obtain ⟨w, seated, -, same, -⟩ := h.request q queued
  have nodup := h.nodup
  unfold Board.ids at nodup
  rw [head] at nodup
  exact (List.nodup_cons.mp nodup).1 (List.mem_append_right rest (List.mem_map.mpr ⟨w, seated, same⟩))

theorem waits_planMove (h : PlanMove x b c) (held : Waits b) : Waits c := by
  have nodup := nodup_planMove h held.nodup
  cases h with
  | bus | log | stop | drain | activate => exact ⟨held.request, held.stands, held.alone, held.once, held.nodup⟩
  | @await id rest legs active head ready =>
    refine ⟨fun q mem => ?_, fun w mem waiting l named => ?_, fun w mem waiting l named v seated named' => ?_, ?_, nodup⟩
    · rcases List.mem_append.mp mem with old | new
      · obtain ⟨w, seated, rest⟩ := held.request q old
        exact ⟨w, List.mem_append_left _ seated, rest⟩
      · rw [List.mem_singleton.mp new]
        exact ⟨_, List.mem_append_right _ (List.mem_singleton.mpr rfl), rfl, rfl, rfl⟩
    · rcases List.mem_append.mp mem with old | new
      · exact held.stands w old waiting l named
      · rw [List.mem_singleton.mp new] at named
        exact (ready l named).1
    · rcases List.mem_append.mp mem with old | new <;> rcases List.mem_append.mp seated with old' | new'
      · exact held.alone w old waiting l named v old' named'
      · rw [List.mem_singleton.mp new'] at named'
        exact absurd named ((ready l named').2 w old)
      · rw [List.mem_singleton.mp new] at named
        exact absurd named' ((ready l named).2 v old')
      · rw [List.mem_singleton.mp new, List.mem_singleton.mp new']
    · rw [List.map_append]
      exact (List.perm_append_singleton _ _).symm.nodup_iff.mp (List.nodup_cons.mpr ⟨held.fresh_id head, held.once⟩)
  | shift _ _ alone =>
    have queue := held.queue_of_empty alone
    refine ⟨by rw [queue]; nofun, fun w mem waiting => ?_, fun w mem waiting => ?_, held.once, nodup⟩
    all_goals
      rw [List.mem_singleton.mp mem] at waiting
      cases waiting
  | forget ids =>
    exact held.thin (.refl _) List.filter_sublist (fun _ => id) (fun _ _ w seated _ _ => seated) held.nodup
  | withdraw free =>
    refine held.thin List.filter_sublist (.refl _) (fun _ => id) (fun q mem w seated waiting same => ?_) nodup
    exact absurd same (free q mem w seated waiting)
  | @remove w mem done =>
    refine held.thin List.filter_sublist (.refl _) (fun _ => id) (fun q queued v seated waiting same => ?_) nodup
    refine List.mem_filter.mpr ⟨seated, decide_eq_true fun named => (done held.nodup).1 ?_⟩
    rw [← Board.eq_of_id_eq held.nodup seated mem named, waiting]
  | @report l w exempt mem granted =>
    have back : ∀ v ∈ b.window.map (fun v => if v.id = w.id then { w with reported := w.reported ++ [l] } else v),
        ∃ u ∈ b.window, u.id = v.id ∧ u.legs = v.legs ∧ (v.cond = .waiting → u = v) := by
      intro v mapped
      obtain ⟨u, seated, rfl⟩ := List.mem_map.mp mapped
      split
      case isTrue same => exact ⟨w, mem, rfl, rfl, fun waiting => absurd (granted.symm.trans waiting) nofun⟩
      case isFalse => exact ⟨u, seated, rfl, rfl, fun _ => rfl⟩
    refine ⟨fun q queued => ?_, fun v mapped waiting => ?_, fun v mapped waiting m named u mapped' named' => ?_, held.once, nodup⟩
    · obtain ⟨v, seated, waiting, rest⟩ := held.request q queued
      refine ⟨v, List.mem_map.mpr ⟨v, seated, if_neg fun same => ?_⟩, waiting, rest⟩
      rw [Board.eq_of_id_eq held.nodup seated mem same, granted] at waiting
      cases waiting
    · obtain ⟨u, seated, -, -, same⟩ := back v mapped
      have one := same waiting
      subst one
      exact held.stands u seated waiting
    · obtain ⟨v', seated, -, -, same⟩ := back v mapped
      obtain ⟨u', seated', id, legs, -⟩ := back u mapped'
      have one := same waiting
      subst one
      rw [← id]
      exact held.alone v' seated waiting m named u' seated' (legs ▸ named')
  | append => exact ⟨held.request, held.stands, held.alone, held.once, nodup⟩
  | cut => exact ⟨held.request, held.stands, held.alone, held.once, nodup⟩

/-- With its window emptied, nothing is left of the grant queue (R85, R94). -/
theorem Waits.queue_of_emptied (held : Waits b) (h : Emptied b c) : c.queue = [] := by
  obtain ⟨ids, named, queue, -⟩ := h.queue
  rw [queue]
  refine List.filter_eq_nil_iff.mpr fun q mem => ?_
  obtain ⟨w, seated, waiting, same, -⟩ := held.request q mem
  have : q.1 ∈ ids := by
    rw [named held.nodup]
    exact mem_waitingIds.mpr ⟨w, seated, waiting, same⟩
  simpa using this

/-- What waits for a grant stands, and with it stands what makes it so. -/
structure Posted (x : Option Leg) (b : Board) : Prop where
  waits : Waits b
  stands : b.Stands
  motions : MotionsFly x b

/-- In a mode in which no plan runs nothing waits. -/
theorem Posted.of_stopped (h : Posted x b) (still : b.runs = false) (window : c.window = b.window) (queue : c.queue = b.queue)
    (waits : c.waits = b.waits) : Waits c := by
  have empty := h.stands.empty still
  refine .of_empty (window.trans empty) (queue.trans (h.waits.queue_of_empty empty)) ?_
  unfold Board.ids
  rw [waits, window]
  exact h.waits.nodup

theorem stance_not_airborne {p : Phase} (stance : p = .stance) : p.airborne = false := by rw [stance]; rfl

/-- One leg that was off STANCE, or comes to stand, changes. -/
theorem Waits.set {l : Leg} {v : LegView} (h : Waits b) (here : (b.legs.get l).phase = .stance → v.phase = .stance) :
    Waits { b with legs := b.legs.set l v } := by
  refine h.relegs rfl rfl h.nodup fun m stance => ?_
  dsimp only
  rw [Quad.get_set]
  split
  case isTrue same => exact here (same ▸ stance)
  case isFalse => exact stance

theorem posted_move (h : Move False (x, b) (y, c)) (held : Posted x b) : Posted y c := by
  refine ⟨?_, stands_move h held.stands, motionsFly_move h held.motions⟩
  have still : b.mode ≠ .standing → b.runs = false := Board.not_runs held.stands.standing
  cases h with
  | plan h => exact waits_planMove h held.waits
  | settle stopped => exact held.of_stopped (Board.not_runs_of_stopped held.stands.standing stopped) rfl rfl rfl
  | @fly b l v moving =>
    exact held.waits.set fun stance => absurd ((stance_not_airborne stance).symm.trans ((held.motions l moving).1 nofun)) nofun
  | except => exact held.waits
  | @alight b l v moving stands => exact held.waits.set fun _ => by rw [stands]
  | @turn b l v airborne => exact held.waits.set fun stance => absurd ((stance_not_airborne stance).symm.trans airborne) nofun
  | @clear b l v _ stays => exact held.waits.set fun stance => stays.trans stance
  | stand parked => exact held.of_stopped (still (by rw [parked]; nofun)) rfl rfl rfl
  | standing was => exact held.of_stopped (still (by rcases was with h | h <;> rw [h] <;> nofun)) rfl rfl rfl
  | park settling => exact held.of_stopped (still (by rw [settling]; nofun)) rfl rfl rfl
  | lift allowed | relabel allowed | drop allowed | strike allowed => exact allowed.elim

theorem posted_holds (h : Holds b c) (held : Posted none b) : Posted none c := by
  refine ⟨?_, stands_holds h held.stands, motionsFly_holds h held.motions⟩
  rcases h.plan with emptied | ⟨still, window, waits, queue, -⟩
  · exact .of_empty emptied.window (held.waits.queue_of_emptied emptied) (nodup_emptied emptied held.waits.nodup)
  · exact held.of_stopped still window queue waits

theorem posted_braces (h : Braces b c) (held : Posted none b) : Posted none c :=
  ⟨.of_empty h.emptied.window (held.waits.queue_of_emptied h.emptied) (nodup_emptied h.emptied held.waits.nodup), stands_braces h,
    motionsFly_braces h held.motions⟩

/-! ## What steps serves -/

/-- No leg of a WAITING record has reported; and outside SAFE_HOLD a stepping leg has its step's data and a GRANTED record that names it
and has no report from it (R75, R95, R96, R100). -/
structure Serves (x : Option Leg) (b : Board) : Prop where
  unreported : ∀ w ∈ b.window, w.cond = .waiting → w.reported = []
  steps : b.mode ≠ .safeHold → ∀ l, x ≠ some l → (b.legs.get l).motion = some .step → (b.legs.get l).planned = true ∧
    ∃ w ∈ b.window, w.cond = .granted ∧ (b.legs.get l).record = some w.id ∧ l ∈ w.legs ∧ l ∉ w.reported

/-- The record that a leg serves. -/
def ServedBy (b : Board) (l : Leg) (w : Seat) : Prop :=
  w.cond = .granted ∧ (b.legs.get l).record = some w.id ∧ l ∈ w.legs ∧ l ∉ w.reported

/-- Every record that a leg serves stays, and no other is left WAITING with a report. -/
theorem Serves.keep (h : Serves x b) (legs : c.legs = b.legs) (mode : c.mode = b.mode)
    (old : ∀ w ∈ c.window, w.cond = .waiting → w ∈ b.window ∨ w.reported = [])
    (kept : ∀ w ∈ b.window, ∀ l, x ≠ some l → ServedBy b l w → ∃ v ∈ c.window, ServedBy b l v) : Serves x c where
  unreported w mem waiting := (old w mem waiting).elim (fun seated => h.unreported w seated waiting) id
  steps outside l other step := by
    rw [legs] at step ⊢
    obtain ⟨planned, w, seated, served⟩ := h.steps (mode ▸ outside) l other step
    exact ⟨planned, kept w seated l other served⟩

theorem serves_planMove (h : PlanMove x b c) (waits : Waits b) (held : Serves x b) : Serves x c := by
  cases h with
  | bus | log | stop | drain | forget | activate | append | cut => exact ⟨held.unreported, held.steps⟩
  | await =>
    refine held.keep rfl rfl (fun w mem _ => ?_) fun w mem l _ served => ⟨w, List.mem_append_left _ mem, served⟩
    exact (List.mem_append.mp mem).imp id fun new => by rw [List.mem_singleton.mp new]
  | shift _ _ alone =>
    refine held.keep rfl rfl (fun w mem _ => .inr ?_) fun w mem => ?_
    · rw [List.mem_singleton.mp mem]
    · rw [alone] at mem
      cases mem
  | withdraw =>
    refine held.keep rfl rfl (fun w mem _ => .inl (List.mem_filter.mp mem).1) fun w mem l _ served => ⟨w, ?_, served⟩
    exact List.mem_filter.mpr ⟨mem, decide_eq_true (by rw [served.1]; nofun)⟩
  | @remove w gone done =>
    refine held.keep rfl rfl (fun v mem _ => .inl (List.mem_filter.mp mem).1) fun v mem l _ served => ⟨v, ?_, served⟩
    refine List.mem_filter.mpr ⟨mem, decide_eq_true fun same => ?_⟩
    obtain rfl := Board.eq_of_id_eq waits.nodup mem gone same
    obtain ⟨granted, -, named, owes⟩ := served
    exact owes ((done waits.nodup).2 granted l named)
  | @report m w exempt mem granted =>
    refine held.keep rfl rfl (fun v mapped waiting => ?_) fun v seated l other served => ?_
    · obtain ⟨u, seated, rfl⟩ := List.mem_map.mp mapped
      split at waiting
      case isTrue => exact absurd (granted.symm.trans waiting) nofun
      case isFalse other => exact .inl (by rw [if_neg other]; exact seated)
    · by_cases same : v.id = w.id
      · obtain rfl := Board.eq_of_id_eq waits.nodup seated mem same
        obtain ⟨cond, record, named, owes⟩ := served
        refine ⟨_, List.mem_map.mpr ⟨v, seated, if_pos rfl⟩, cond, record, named, fun reported => ?_⟩
        rcases List.mem_append.mp reported with old | new
        · exact owes old
        · exact other (by rw [exempt, List.mem_singleton.mp new])
      · exact ⟨v, List.mem_map.mpr ⟨v, seated, if_neg same⟩, served⟩

/-- One leg changes, which is no step after, or serves as before. -/
theorem Serves.set {l : Leg} {v : LegView} (h : Serves x b) (others : ∀ m, m ≠ l → y ≠ some m → x ≠ some m)
    (here : y = some l ∨ v.motion ≠ some .step ∨
      x ≠ some l ∧ (b.legs.get l).motion = some .step ∧ v.record = (b.legs.get l).record ∧ v.planned = (b.legs.get l).planned) :
    Serves y { b with legs := b.legs.set l v } where
  unreported := h.unreported
  steps outside m other step := by
    dsimp only at step ⊢
    rw [Quad.get_set] at step ⊢
    split
    case isFalse away =>
      rw [if_neg away] at step
      exact h.steps outside m (others m away other) step
    case isTrue same =>
      subst same
      rw [if_pos rfl] at step
      rcases here with exempt | still | ⟨free, was, record, planned⟩
      · exact absurd exempt other
      · exact absurd step still
      · rw [record, planned]
        exact h.steps outside m free was

/-- Nothing steps. -/
theorem Serves.of_still (h : Serves x b) (window : c.window = b.window) (still : ∀ l, (c.legs.get l).motion ≠ some .step) : Serves y c where
  unreported := by rw [window]; exact h.unreported
  steps _ l _ step := absurd step (still l)

theorem serves_move (h : Move False (x, b) (y, c)) (posted : Posted x b) (held : Serves x b) : Serves y c := by
  cases h with
  | plan h => exact serves_planMove h posted.waits held
  | settle | standing => exact held.of_still rfl fun l => by simp [LegView.settled]
  | @fly b l v _ _ _ steps =>
    refine held.set (fun _ _ => id) ?_
    by_cases step : v.motion = some .step
    · exact .inr (.inr ⟨nofun, steps step⟩)
    · exact .inr (.inl step)
  | except l => exact ⟨held.unreported, fun outside m _ => held.steps outside m nofun⟩
  | alight => exact held.set (fun _ _ _ => nofun) (.inl rfl)
  | turn _ _ _ _ noStep => exact held.set (fun _ away _ same => away (Option.some.inj same).symm) (.inr (.inl noStep))
  | clear still => exact held.set (fun _ away _ same => away (Option.some.inj same).symm) (.inr (.inl (by rw [still]; nofun)))
  | stand parked =>
    have none := posted.motions.still (by rw [parked]; exact ⟨nofun, nofun⟩)
    exact held.of_still rfl fun l => by rw [Quad.get_map, none l]; nofun
  | park settling =>
    have none := posted.motions.still (by rw [settling]; exact ⟨nofun, nofun⟩)
    exact held.of_still rfl fun l => by rw [Quad.get_map, none l]; nofun
  | lift allowed | relabel allowed | drop allowed | strike allowed => exact allowed.elim

theorem serves_holds (h : Holds b c) (posted : Posted none b) : Serves none c where
  unreported := by rw [h.window posted.stands]; nofun
  steps outside := absurd h.mode outside

/-- A brace sends down every leg that steps (R92, R110). -/
theorem serves_braces (h : Braces b c) (posted : Posted none b) (running : b.runs = true) (held : Serves none b) : Serves none c where
  unreported := by rw [h.emptied.window]; nofun
  steps outside l other step := by
    exfalso
    have was : (b.legs.get l).motion = some .step := by
      rcases h.legs l with same | ⟨was, -⟩
      · rw [← same]
        exact step
      · exact was
    have standing : b.mode ≠ .safeHold := by rw [posted.stands.standing running]; nofun
    obtain ⟨planned, w, seated, granted, -, named, owes⟩ := held.steps standing l other was
    exact h.down posted.waits.nodup w seated granted l named owes planned step

end

end Sys2Proof.Machine
end

section
/-! GRANTS ON THE BOARD. What the arbiter does beyond the moves of the other commands: it releases the head request and lifts its
legs, or withdraws it. -/

namespace Sys2Proof.Machine

section
variable {b c d : Board} {ls ms : List Leg} {s : State}

/-- The mode, the plan state and the reading are kept, the window and the grant queue may grow at the tail, and only legs of `ls` have
changed, by being lifted. -/
structure Lifts (ls : List Leg) (b c : Board) : Prop where
  state : c.state = b.state
  mode : c.mode = b.mode
  eval : c.eval = b.eval
  window : b.window <+: c.window
  queue : b.queue <+: c.queue
  legs : ∀ l, c.legs.get l = b.legs.get l ∨ l ∈ ls ∧ (c.legs.get l).phase = .lift

theorem Lifts.refl (ls : List Leg) (b : Board) : Lifts ls b b :=
  ⟨rfl, rfl, rfl, List.prefix_refl _, List.prefix_refl _, fun _ => .inl rfl⟩

theorem Lifts.trans (h : Lifts ls b c) (k : Lifts ms c d) : Lifts (ls ++ ms) b d where
  state := k.state.trans h.state
  mode := k.mode.trans h.mode
  eval := k.eval.trans h.eval
  window := h.window.trans k.window
  queue := h.queue.trans k.queue
  legs l := by
    rcases k.legs l with same | ⟨mem, lift⟩
    · rw [same]
      exact (h.legs l).imp id fun lifted => ⟨List.mem_append_left _ lifted.1, lifted.2⟩
    · exact .inr ⟨List.mem_append_right _ mem, lift⟩

theorem Lifts.runs (h : Lifts ls b c) (runs : b.runs = true) : c.runs = true := by
  unfold Board.runs
  rw [h.state]
  exact runs

theorem lifts_issueHead (r : PlanRecord) (rest : List PlanRecord) (s : State) : Lifts [] (board s) (board (issueHead r rest s)) := by
  have waits : ∀ body : WindowRecord, Lifts [] (board s)
      (board ((s.setPlan { s.plan with list := rest, window := s.plan.window ++ [body] }).setBal
        { s.bal with queue := s.bal.queue ++ [⟨r.id, r.legs, r.noPreshift, 0⟩] })) := fun body => by
    refine ⟨rfl, rfl, rfl, ?_, ?_, fun _ => .inl rfl⟩
    · show s.plan.window.map WindowRecord.seat <+: (s.plan.window ++ [body]).map WindowRecord.seat
      exact (List.prefix_append ..).map _
    · show s.bal.queue.map SwingRequest.named <+: (s.bal.queue ++ [_]).map SwingRequest.named
      exact (List.prefix_append ..).map _
  unfold issueHead
  dsimp only
  split
  · let seated := s.setPlan { s.plan with list := rest, window := s.plan.window ++ [⟨{ r with preshifts := 0 }, .running, []⟩] }
    rw [(sends_startShift seated r.id r.disp).2]
    exact ⟨rfl, rfl, rfl, (List.prefix_append ..).map _, List.prefix_refl _, fun _ => .inl rfl⟩
  · exact waits _
  · exact waits _

theorem lifts_issueFrom (rs : List PlanRecord) (s : State) : Lifts [] (board s) (board (issueFrom rs s)) := by
  induction rs generalizing s with
  | nil => exact .refl ..
  | cons r rest ih =>
    unfold issueFrom
    split
    · exact (lifts_issueHead r rest s).trans (ih _)
    · exact .refl ..

/-- Issue moves no leg, keeps the mode and the plan state, and adds at the tails (R76, R77). -/
theorem lifts_issue (s : State) : Lifts [] (board s) (board (issue s)) := lifts_issueFrom _ s

/-- While the plan runs no settle begins (R153). -/
theorem settleTest_of_runs (runs : planRuns s = true) : settleTest s = s := by
  unfold settleTest
  rw [if_neg fun h => absurd ((settleCondition_stopped h.2.2).symm.trans runs) nofun]

theorem phaseChanged_of_runs (runs : planRuns s = true) : phaseChanged s = issue s :=
  settleTest_of_runs ((lifts_issue s).runs runs)

/-- A granted leg is lifted, and issue is tested again (R96, R100). -/
theorem grantLeg_eq (r : PlanRecord) (l : Leg) (s : State) (runs : planRuns s = true) :
    grantLeg r l s = s ∨ ∃ u, grantLeg r l s = issue u ∧ BusKeeps s.bus u.bus ∧
      board u = { board s with legs := (board s).legs.set l ⟨.lift, some .step, some r.id, true⟩, bus := u.bus } := by
  unfold grantLeg
  split
  case h_1 => exact .inl rfl
  case h_2 c _ =>
    dsimp only
    have data := board_modLeg l (fun q => { q with
      step := some (stepDataFor l r c s), clamped := stepClamped s.geo l (stepDataFor l r c s), motion := some .step, record := some r.id }) s
    have marks := (board_markIf (grantMarks s.geo l (stepDataFor l r c s)) r.id (modLeg l (fun q => { q with
      step := some (stepDataFor l r c s), clamped := stepClamped s.geo l (stepDataFor l r c s), motion := some .step
      record := some r.id }) s)).trans data
    generalize (if grantMarks s.geo l (stepDataFor l r c s) then _ else _) = t at marks ⊢
    have bus : t.bus = s.bus := congrArg Board.bus marks
    have view : LegSeq.view { t.legs.get l with phase := .lift, timer := some (phaseTime (t.legs.get l) s.gait.liftTimeout) } =
        ⟨.lift, some .step, some r.id, true⟩ := by
      have was : (t.legs.get l).view = ((board t).legs.get l) := (board_legs t l).symm
      rw [marks, Quad.get_set_self] at was
      have motion := congrArg LegView.motion was
      have record := congrArg LegView.record was
      have planned := congrArg LegView.planned was
      simp only [LegSeq.view] at motion record planned ⊢
      simp [motion, record, planned]
    obtain ⟨room, sent⟩ := board_modLeg_sendSetpoint (l := l) (s := t)
      (f := fun q => { q with phase := .lift, timer := some (phaseTime q s.gait.liftTimeout) }) view
      (atLevel (stepDataFor l r c s).origin (stepDataFor l r c s).liftLevel) s.gait.liftSpeed
    rw [marks, Quad.set_set] at sent
    have lifts : planRuns (sendSetpoint l (atLevel (stepDataFor l r c s).origin (stepDataFor l r c s).liftLevel) s.gait.liftSpeed
        (startPhase l .lift s.gait.liftTimeout t)) = true := by
      have same := congrArg Board.runs sent
      exact same.trans runs
    exact .inr ⟨_, phaseChanged_of_runs lifts, bus ▸ room, sent⟩

theorem lifts_grantLeg (r : PlanRecord) (l : Leg) (s : State) (runs : planRuns s = true) :
    Lifts [l] (board s) (board (grantLeg r l s)) := by
  rcases grantLeg_eq r l s runs with same | ⟨u, issued, -, shown⟩
  · rw [same]
    exact .refl ..
  · rw [issued]
    refine Lifts.trans (ls := [l]) (ms := []) ?_ (lifts_issue u)
    rw [shown]
    refine ⟨rfl, rfl, rfl, List.prefix_refl _, List.prefix_refl _, fun m => ?_⟩
    dsimp only
    rw [Quad.get_set]
    split
    case isTrue same => exact .inr ⟨List.mem_singleton.mpr same, rfl⟩
    case isFalse => exact .inl rfl

theorem lifts_grantLegs (r : PlanRecord) (ls : List Leg) (s : State) (runs : planRuns s = true) :
    Lifts ls (board s) (board (forLegs (grantLeg r) ls s)) := by
  induction ls generalizing s with
  | nil => exact .refl ..
  | cons l rest ih =>
    have first := lifts_grantLeg r l s runs
    exact first.trans (ih _ (first.runs runs))

/-- What a grant does: the request is released, and its legs are lifted (R75, R100, R113). -/
theorem lifts_grant (q : SwingRequest) (s : State) (runs : planRuns s = true) :
    Lifts q.legs ((board s).released q.id) (board (grant q s)) := by
  unfold grant
  dsimp only
  split
  · rw [board_released]
    exact .refl ..
  · rw [← board_released]
    exact lifts_grantLegs _ _ _ (by rw [← board_runs, board_released]; exact runs)

end

end Sys2Proof.Machine
end

section
/-! THE ARBITER KEEPS THE INVARIANTS (R60, R61, R113 to R115). -/

namespace Sys2Proof.Machine

section
variable {b c : Board} {s : State}

theorem posted_flow {x y : Option Leg} (h : Flow False (x, b) (y, c)) (held : Posted x b) : Posted y c := by
  have kept : ∀ p : Option Leg × Board, Flow False (x, b) p → Posted p.1 p.2 := by
    intro p moves
    induction moves with
    | refl => exact held
    | tail _ last ih => exact posted_move last ih
  exact kept _ h

theorem serves_flow {x y : Option Leg} (h : Flow False (x, b) (y, c)) (posted : Posted x b) (held : Serves x b) : Serves y c := by
  have kept : ∀ p : Option Leg × Board, Flow False (x, b) p → Posted p.1 p.2 ∧ Serves p.1 p.2 := by
    intro p moves
    induction moves with
    | refl => exact ⟨posted, held⟩
    | tail _ last ih => exact ⟨posted_move last ih.1, serves_move last ih.1 ih.2⟩
  exact (kept _ h).2

/-- Where the request at the head of the queue has been released, its record is GRANTED with the request's legs. -/
def GrantedSeat (id : Nat) (legs : List Leg) (b : Board) (w : Seat) : Prop := w ∈ b.window ∧ w.id = id ∧ w.cond = .granted ∧ w.legs = legs

/-- A record of the window after a release, and the one it was. -/
theorem mem_released {id : Nat} {w : Seat} (mem : w ∈ (b.released id).window) :
    ∃ v ∈ b.window, v.id = w.id ∧ v.legs = w.legs ∧ v.reported = w.reported ∧ (w.cond = .waiting → v = w ∧ v.id ≠ id) := by
  obtain ⟨v, seated, rfl⟩ := List.mem_map.mp mem
  refine ⟨v, seated, ?_⟩
  split
  case isTrue => exact ⟨rfl, rfl, rfl, nofun⟩
  case isFalse other => exact ⟨rfl, rfl, rfl, fun _ => ⟨rfl, other⟩⟩

theorem ids_released (id : Nat) (b : Board) : (b.released id).ids = b.ids := by
  unfold Board.ids Board.released
  dsimp only
  rw [List.map_map, show Seat.id ∘ (fun w => if w.id = id then { w with cond := .granted } else w) = Seat.id from
    funext fun v => by dsimp only [Function.comp]; split <;> rfl]

theorem waits_released {id : Nat} {legs : List Leg} {rest : List (Nat × List Leg)} (held : Waits b) (head : b.queue = (id, legs) :: rest) :
    Waits (b.released id) where
  request q mem := by
    have queue : (b.released id).queue = rest := congrArg List.tail head
    rw [queue] at mem
    obtain ⟨w, seated, waiting, same, named⟩ := held.request q (by rw [head]; exact List.mem_cons_of_mem _ mem)
    have once := held.once
    rw [head] at once
    have other : w.id ≠ id := fun h => (List.nodup_cons.mp once).1 (List.mem_map.mpr ⟨q, mem, same.symm.trans h⟩)
    exact ⟨w, List.mem_map.mpr ⟨w, seated, if_neg other⟩, waiting, same, named⟩
  stands w mem waiting := by
    obtain ⟨v, seated, -, -, -, same⟩ := mem_released mem
    obtain ⟨rfl, -⟩ := same waiting
    exact held.stands v seated waiting
  alone w mem waiting l named u mem' named' := by
    obtain ⟨v, seated, -, -, -, same⟩ := mem_released mem
    obtain ⟨rfl, -⟩ := same waiting
    obtain ⟨v', seated', id', legs', -⟩ := mem_released mem'
    rw [← id']
    exact held.alone v seated waiting l named v' seated' (legs' ▸ named')
  once := held.once.sublist ((List.tail_sublist _).map _)
  nodup := by rw [ids_released]; exact held.nodup

theorem posted_released {id : Nat} {legs : List Leg} {rest : List (Nat × List Leg)} (held : Posted none b)
    (head : b.queue = (id, legs) :: rest) : Posted none (b.released id) where
  waits := waits_released held.waits head
  stands := ⟨held.stands.standing, fun still => by
    show b.window.map _ = []
    rw [held.stands.empty still]
    rfl⟩
  motions := held.motions

/-- The released record, GRANTED with no report. -/
theorem Posted.released_seat {id : Nat} {legs : List Leg} {rest : List (Nat × List Leg)} (held : Posted none b)
    (head : b.queue = (id, legs) :: rest) :
    ∃ w, GrantedSeat id legs (b.released id) w ∧ (Serves none b → w.reported = []) := by
  obtain ⟨w, seated, waiting, same, named⟩ := held.waits.request (id, legs) (by rw [head]; exact List.mem_cons_self)
  exact ⟨{ w with cond := .granted }, ⟨List.mem_map.mpr ⟨w, seated, if_pos same⟩, same, rfl, named⟩,
    fun serves => serves.unreported w seated waiting⟩

theorem serves_released {id : Nat} (held : Serves none b) : Serves none (b.released id) := by
  refine held.keep rfl rfl (fun w mem waiting => .inl ?_) fun w seated l _ served => ?_
  · obtain ⟨v, seated, -, -, -, same⟩ := mem_released mem
    exact (same waiting).1 ▸ seated
  · obtain ⟨granted, record, named, owes⟩ := served
    refine ⟨_, List.mem_map.mpr ⟨w, seated, rfl⟩, ?_⟩
    split
    · exact ⟨rfl, record, named, owes⟩
    · exact ⟨granted, record, named, owes⟩

/-! ## Lifting the legs of a GRANTED record -/

/-- A leg is lifted that a GRANTED record names. -/
theorem posted_lift {id : Nat} {legs : List Leg} {w : Seat} {l : Leg} {v : LegView} {u : Bus} (held : Posted none b) (standing : b.mode = .standing)
    (seat : GrantedSeat id legs b w) (named : l ∈ legs) (lift : v.phase = .lift) :
    Posted none { b with legs := b.legs.set l v, bus := u } where
  waits := by
    obtain ⟨mem, rfl, granted, rfl⟩ := seat
    refine ⟨held.waits.request, fun k seated waiting m leg => ?_, held.waits.alone, held.waits.once, held.waits.nodup⟩
    dsimp only
    rw [Quad.get_set]
    split
    case isTrue same =>
      subst same
      have one := Board.eq_of_id_eq held.waits.nodup mem seated (held.waits.alone k seated waiting m leg w mem named)
      rw [one, waiting] at granted
      cases granted
    case isFalse => exact held.waits.stands k seated waiting m leg
  stands := ⟨held.stands.standing, held.stands.empty⟩
  motions := .set (fun m _ => held.motions m) fun _ => ⟨fun _ => by rw [lift]; rfl, .inl standing⟩

theorem serves_lift {id : Nat} {legs : List Leg} {w : Seat} {l : Leg} {u : Bus} (held : Serves none b)
    (seat : GrantedSeat id legs b w) (named : l ∈ legs) (unreported : w.reported = []) :
    Serves none { b with legs := b.legs.set l ⟨.lift, some .step, some id, true⟩, bus := u } where
  unreported := held.unreported
  steps outside m free step := by
    dsimp only at step ⊢
    rw [Quad.get_set] at step ⊢
    split
    case isTrue same =>
      obtain ⟨mem, rfl, granted, rfl⟩ := seat
      exact ⟨rfl, w, mem, granted, rfl, same ▸ named, by rw [unreported]; exact List.not_mem_nil⟩
    case isFalse away =>
      rw [if_neg away] at step
      exact held.steps outside m free step

/-- Granting the legs of a GRANTED record keeps what waits standing, and what steps serving if the record has no report. -/
theorem posted_grantLegs {r : PlanRecord} {w : Seat} {legs : List Leg} (ls : List Leg) (s : State) (within : ls ⊆ legs)
    (runs : planRuns s = true) (held : Posted none (board s)) (seat : GrantedSeat r.id legs (board s) w) :
    Posted none (board (forLegs (grantLeg r) ls s)) ∧
      (w.reported = [] → Serves none (board s) → Serves none (board (forLegs (grantLeg r) ls s))) := by
  induction ls generalizing s with
  | nil => exact ⟨held, fun _ serves => serves⟩
  | cons l rest ih =>
    have mine : l ∈ legs := within List.mem_cons_self
    have lifts := lifts_grantLeg r l s runs
    have standing : (board s).mode = .standing := held.stands.standing runs
    have first : Posted none (board (grantLeg r l s)) ∧
        (w.reported = [] → Serves none (board s) → Serves none (board (grantLeg r l s))) := by
      rcases grantLeg_eq r l s runs with same | ⟨u, issued, -, shown⟩
      · rw [same]
        exact ⟨held, fun _ serves => serves⟩
      · have issues := (planFlow_issue none u).flow (g := False)
        rw [issued]
        have lifted : Posted none (board u) := by
          rw [shown]
          exact posted_lift held standing seat mine rfl
        refine ⟨posted_flow issues lifted, fun unreported serves => serves_flow issues lifted ?_⟩
        rw [shown]
        exact serves_lift serves seat mine unreported
    obtain ⟨mem, named⟩ := seat
    obtain ⟨posted, serves⟩ := ih (grantLeg r l s) (fun m h => within (List.mem_cons_of_mem _ h)) (lifts.runs runs) first.1
      ⟨lifts.window.subset mem, named⟩
    exact ⟨posted, fun unreported held => serves unreported (first.2 unreported held)⟩

theorem findWindow_id {id : Nat} {s : State} {w : WindowRecord} (found : findWindow id s = some w) : w.body.id = id :=
  (findWindow_some found).2

/-- The request at the head of the queue, on the board. -/
theorem board_queue_head {q : SwingRequest} {rest : List SwingRequest} (head : s.bal.queue = q :: rest) :
    (board s).queue = (q.id, q.legs) :: rest.map SwingRequest.named := congrArg (List.map SwingRequest.named) head

theorem posted_grant {q : SwingRequest} {rest : List SwingRequest} (runs : planRuns s = true) (head : s.bal.queue = q :: rest)
    (held : Posted none (board s)) :
    Posted none (board (grant q s)) ∧ (Serves none (board s) → Serves none (board (grant q s))) := by
  have shown := board_released q.id s
  have posted := posted_released held (board_queue_head head)
  obtain ⟨w, seat, unreported⟩ := held.released_seat (board_queue_head head)
  unfold grant
  dsimp only
  rw [← shown] at posted seat
  split
  case h_1 => exact ⟨posted, fun serves => by rw [shown]; exact serves_released serves⟩
  case h_2 v found =>
    have seat' : GrantedSeat v.body.id q.legs (board (modWindow q.id (fun w => { w with cond := .granted }) (dropRequest s))) w := by
      rw [findWindow_id found]
      exact seat
    obtain ⟨kept, serves⟩ := posted_grantLegs q.legs _ (List.Subset.refl _) (by rw [← board_runs, shown]; exact runs) posted seat'
    exact ⟨kept, fun held => serves (unreported held) (by rw [shown]; exact serves_released held)⟩

/-- A head request that fails on margin is put off or withdrawn with its record (R115, R117). -/
theorem posted_failsOnMargin {q : SwingRequest} {rest : List SwingRequest} (e : EvalInputs) (set : List Leg)
    (head : s.bal.queue = q :: rest) (held : Posted none (board s)) :
    Posted none (board (failsOnMargin e set q s)) ∧
      (Serves none (board s) → Serves none (board (failsOnMargin e set q s))) := by
  unfold failsOnMargin
  dsimp only
  split
  case isTrue =>
    have sent := ((sends_orderPreshift q (limitOffset s.gait.maxPreshift (aimOffset e set)) s).planFlow none).flow (g := False)
    exact ⟨posted_flow sent held, serves_flow sent held⟩
  case isFalse =>
    have queue := board_queue_head head
    have once := held.waits.once
    rw [queue] at once
    have fresh := (List.nodup_cons.mp once).1
    have tail : (board s).queue.tail = rest.map SwingRequest.named := congrArg List.tail queue
    have gone : ∀ (ws : List Seat) (n : Nat), ws.Sublist (board s).window →
        (∀ w ∈ (board s).window, w.id ≠ q.id ∨ w.cond ≠ .waiting → w ∈ ws) →
        Posted none { board s with queue := (board s).queue.tail, window := ws, logged := n } ∧
          (Serves none (board s) → Serves none { board s with queue := (board s).queue.tail, window := ws, logged := n }) := by
      intro ws n sub kept
      refine ⟨⟨held.waits.thin sub (List.tail_sublist _) (fun _ => id) (fun p mem w seated waiting same => ?_) ?_, ?_, held.motions⟩, fun serves => ?_⟩
      · refine kept w seated (.inl fun mine => fresh ?_)
        rw [tail] at mem
        exact List.mem_map.mpr ⟨p, mem, same.symm.trans mine⟩
      · exact held.waits.nodup.sublist (ids_of_sublist (.refl _) sub)
      · refine ⟨held.stands.standing, fun still => ?_⟩
        have empty := held.stands.empty still
        rw [empty] at sub
        exact List.eq_nil_of_sublist_nil sub
      · exact serves.keep rfl rfl (fun w mem _ => .inl (sub.subset mem))
          fun w seated l _ served => ⟨w, kept w seated (.inr (by rw [served.1]; nofun)), served⟩
    have dropped := board_dropRequest s
    unfold completeRecord
    split
    case h_1 =>
      rw [dropped]
      exact gone _ _ (.refl _) fun _ mem _ => mem
    case h_2 w found =>
      obtain ⟨mem, same⟩ := findWindow_some found
      obtain ⟨n, -, shown⟩ := board_finishRecord w .unstable (dropRequest s)
      rw [dropped, same] at shown
      have waitsHere : w.seat.cond = .waiting := by
        obtain ⟨v, seated, waiting, named, -⟩ := held.waits.request (q.id, q.legs) (by rw [queue]; exact List.mem_cons_self)
        have one := Board.eq_of_id_eq held.waits.nodup seated (List.mem_map_of_mem (f := WindowRecord.seat) mem) (named.trans same.symm)
        rw [← one]
        exact waiting
      obtain ⟨posted, serves⟩ := gone ((board s).window.filter fun v => decide (v.id ≠ q.id)) n List.filter_sublist fun v seated other => by
        refine List.mem_filter.mpr ⟨seated, decide_eq_true (other.elim id fun served mine => served ?_)⟩
        have one := Board.eq_of_id_eq held.waits.nodup seated (List.mem_map_of_mem (f := WindowRecord.seat) mem) (mine.trans same.symm)
        rw [one]
        exact waitsHere
      have acts := (tested_completionActs none (finishRecord w .unstable (dropRequest s)) .unstable w.body.hold).flow (g := False)
      rw [shown] at acts
      exact ⟨posted_flow acts posted, fun held => serves_flow acts posted (serves held)⟩

theorem runs_grant {q : SwingRequest} (runs : planRuns s = true) : planRuns (grant q s) = true := (lifts_grant q s runs).runs runs

theorem posted_arbiter (e : EvalInputs) (rs : List SwingRequest) (granted : List Leg) (s : State) (runs : planRuns s = true)
    (held : Posted none (board s)) :
    Posted none (board (arbiter e rs granted s)) ∧ (Serves none (board s) → Serves none (board (arbiter e rs granted s))) := by
  induction rs generalizing granted s with
  | nil => exact ⟨held, id⟩
  | cons r rest ih =>
    unfold arbiter
    split
    case h_1 => exact ⟨held, id⟩
    case h_2 q _ head =>
      split
      · split
        · exact ⟨held, id⟩
        · split
          · obtain ⟨posted, serves⟩ := posted_grant runs head held
            obtain ⟨posted', serves'⟩ := ih (granted ++ q.legs) (grant q s) (runs_grant runs) posted
            exact ⟨posted', serves' ∘ serves⟩
          · exact posted_failsOnMargin e _ head held
      · exact ⟨held, id⟩

/-- The state in which a completed evaluation considers grants, on the board (R50). -/
theorem board_tested (e : EvalInputs) (s : State) :
    board (braceTest e.balCfg (figuresOf e) (s.setBal { s.bal with held := figuresOf e, eval := none })) = { board s with eval := none } :=
  board_braceTest ..

theorem posted_evaluationComplete (held : Posted none (board s)) :
    Posted none (board (evaluationComplete s)) ∧ (Serves none (board s) → Serves none (board (evaluationComplete s))) := by
  have next : ∀ t : State, ∃ r, board (nextEvaluation t) = { board t with eval := r } := by
    intro t
    unfold nextEvaluation
    split
    · exact ⟨_, rfl⟩
    · exact ⟨(board t).eval, rfl⟩
  unfold evaluationComplete
  split
  case h_1 => exact ⟨held, id⟩
  case h_2 e _ =>
    dsimp only
    have shown := board_tested e s
    generalize braceTest e.balCfg (figuresOf e) (s.setBal { s.bal with held := figuresOf e, eval := none }) = t at shown ⊢
    have tested : Posted none (board t) := by
      rw [shown]
      exact ⟨held.waits.relegs rfl rfl held.waits.nodup fun _ => id, ⟨held.stands.standing, held.stands.empty⟩, held.motions⟩
    have serves : Serves none (board s) → Serves none (board t) := fun h => by rw [shown]; exact ⟨h.unreported, h.steps⟩
    have considered : Posted none (board (considerGrants e t)) ∧
        (Serves none (board t) → Serves none (board (considerGrants e t))) := by
      unfold considerGrants
      split
      case isTrue may => exact posted_arbiter e _ _ t may.2.1 tested
      case isFalse => exact ⟨tested, id⟩
    obtain ⟨r, last⟩ := next (considerGrants e t)
    rw [last]
    obtain ⟨kept, served⟩ := considered
    refine ⟨⟨kept.waits.relegs rfl rfl kept.waits.nodup fun _ => id, ⟨kept.stands.standing, kept.stands.empty⟩, kept.motions⟩, fun h => ?_⟩
    exact ⟨(served (serves h)).unreported, (served (serves h)).steps⟩

end

end Sys2Proof.Machine
end

section
/-! LEGS IN THE AIR: at most two, and lifted by a grant alone (R61, R96, R113). -/

namespace Sys2Proof.Machine

section
variable {b c : Board} {x y : Option Leg} {s t : State}

/-! ## At most two airborne -/

/-- The airborne legs. -/
def Board.aloft (b : Board) : List Leg := legsInOrder.filter fun l => (b.legs.get l).phase.airborne

theorem Board.mem_aloft {l : Leg} : l ∈ b.aloft ↔ (b.legs.get l).phase.airborne = true := by
  simp [Board.aloft, mem_legsInOrder]

/-- At most two legs are airborne; only an airborne leg has a motion; a running evaluation has read every airborne leg as airborne
(R49, R96, R98, R113). -/
structure Aloft (x : Option Leg) (b : Board) : Prop where
  few : b.aloft.length ≤ 2
  motions : MotionsFly x b
  seen : ∀ e, b.eval = some e → ∀ l, (b.legs.get l).phase.airborne = true → (e.phases.get l).airborne = true

theorem length_aloft_le (ls : List Leg) (h : ∀ l, (b.legs.get l).phase.airborne = true → l ∈ ls) : b.aloft.length ≤ ls.length := by
  have nodup : b.aloft.Nodup := List.Nodup.filter _ (by decide)
  exact (nodup.subperm fun l mem => h l (Board.mem_aloft.mp mem)).length_le

/-- No leg rises: what is airborne was, and what the evaluation had read it still has. -/
theorem Aloft.settle (h : Aloft x b) (motions : MotionsFly y c)
    (sinks : ∀ l, (c.legs.get l).phase.airborne = true → (b.legs.get l).phase.airborne = true)
    (eval : ∀ e, c.eval = some e → ∃ r, b.eval = some r ∧ e.phases = r.phases) : Aloft y c where
  few := (length_aloft_le b.aloft fun l air => Board.mem_aloft.mpr (sinks l air)).trans h.few
  motions := motions
  seen e read l air := by
    obtain ⟨r, was, same⟩ := eval e read
    rw [same]
    exact h.seen r was l (sinks l air)

theorem eval_forget (ids : List Nat) (eval : Option ReadView) :
    ∀ e, (eval.map fun e => { e with queue := without ids e.queue }) = some e → ∃ r, eval = some r ∧ e.phases = r.phases := by
  intro e read
  obtain ⟨r, was, rfl⟩ := Option.map_eq_some_iff.mp read
  exact ⟨r, was, rfl⟩

theorem sinks_set {l : Leg} {v : LegView} (here : v.phase.airborne = true → (b.legs.get l).phase.airborne = true) (m : Leg) :
    ((b.legs.set l v).get m).phase.airborne = true → (b.legs.get m).phase.airborne = true := by
  rw [Quad.get_set]
  split
  case isTrue same => exact same ▸ here
  case isFalse => exact id

theorem aloft_move (h : Move False (x, b) (y, c)) (held : Aloft x b) : Aloft y c := by
  refine held.settle (motionsFly_move h held.motions) ?_ ?_
  · cases h with
    | plan h => cases h <;> exact fun _ => id
    | settle | standing => exact fun l air => by simp [LegView.settled, Phase.airborne] at air
    | @fly b l v moving => exact sinks_set fun _ => (held.motions l moving).1 nofun
    | except => exact fun _ => id
    | @alight b l v _ stands => exact sinks_set fun air => by rw [stands] at air; cases air
    | turn airborne => exact sinks_set fun _ => airborne
    | clear _ stays => exact sinks_set fun air => stays ▸ air
    | stand | park => exact fun l air => by simp [Phase.airborne] at air
    | lift allowed | relabel allowed | drop allowed | strike allowed => exact allowed.elim
  · cases h with
    | plan h => cases h with
      | forget ids => exact eval_forget ids _
      | bus | log | await | shift | stop | drain | withdraw | remove | report | activate | append | cut => exact fun e read => ⟨e, read, rfl⟩
    | settle | fly | except | alight | turn | clear | stand | standing | park => exact fun e read => ⟨e, read, rfl⟩
    | lift allowed | relabel allowed | drop allowed | strike allowed => exact allowed.elim

theorem eval_emptied (h : Emptied b c) : ∀ e, c.eval = some e → ∃ r, b.eval = some r ∧ e.phases = r.phases := by
  obtain ⟨ids, -, -, eval⟩ := h.queue
  rw [eval]
  exact eval_forget ids _

theorem aloft_holds (h : Holds b c) (held : Aloft none b) : Aloft none c := by
  refine held.settle (motionsFly_holds h held.motions) (fun l air => by rwa [h.legs] at air) ?_
  rcases h.plan with emptied | ⟨-, -, -, -, eval⟩
  · exact eval_emptied emptied
  · rw [eval]
    exact fun e read => ⟨e, read, rfl⟩

theorem aloft_braces (h : Braces b c) (held : Aloft none b) : Aloft none c := by
  refine held.settle (motionsFly_braces h held.motions) (fun l air => ?_) (eval_emptied h.emptied)
  rcases h.legs l with same | ⟨step, -⟩
  · exact same ▸ air
  · exact (held.motions l (by rw [step]; nofun)).1 nofun

theorem aloft_read (b : Board) (held : Aloft none b) : Aloft none { b with eval := some b.read } where
  few := held.few
  motions := held.motions
  seen e read l air := by
    cases read
    rw [Board.read, Quad.get_map]
    exact air

theorem aloft_idle (held : Aloft none b) : Aloft none { b with eval := none } := ⟨held.few, held.motions, nofun⟩

theorem aloft_course (h : Course False b c) (held : Aloft none b) : Aloft none c :=
  h.keeps (P := Aloft) (fun _ _ _ _ held move => aloft_move move held) aloft_read (fun _ => aloft_idle)
    (fun _ _ held holds => aloft_holds holds held) (fun _ _ held _ braces => aloft_braces braces held) held

theorem aloft_flow {x y : Option Leg} (h : Flow False (x, b) (y, c)) (held : Aloft x b) : Aloft y c := by
  have kept : ∀ p : Option Leg × Board, Flow False (x, b) p → Aloft p.1 p.2 := by
    intro p moves
    induction moves with
    | refl => exact held
    | tail _ last ih => exact aloft_move last ih
  exact kept _ h

/-- Lifting legs that fit into the airborne count keeps it. -/
theorem aloft_lifts {ls : List Leg} (h : Lifts ls b c) (idle : b.eval = none) (standing : b.mode = .standing)
    (motions : MotionsFly none b) (few : c.aloft.length ≤ 2) : Aloft none c where
  few := few
  motions l moving := by
    rw [h.mode]
    rcases h.legs l with same | ⟨-, lift⟩
    · rw [same] at moving ⊢
      exact motions l moving
    · exact ⟨fun _ => by rw [lift]; rfl, .inl standing⟩
  seen e read := absurd ((h.eval.trans idle).symm.trans read) nofun

/-- While the arbiter grants, what is airborne was read so or has been granted, and what it allows is at most two (R113). -/
theorem aloft_arbiter (e : EvalInputs) (rs : List SwingRequest) (granted : List Leg) (s : State) (runs : planRuns s = true)
    (standing : s.sup.mode = .standing) (idle : (board s).eval = none) (held : Aloft none (board s))
    (seen : ∀ l, ((board s).legs.get l).phase.airborne = true → (e.phases.get l).airborne = true ∨ l ∈ granted) :
    Aloft none (board (arbiter e rs granted s)) := by
  induction rs generalizing granted s with
  | nil => exact held
  | cons r rest ih =>
    unfold arbiter
    split
    case h_1 => exact held
    case h_2 q _ head =>
      split
      case isFalse => exact held
      case isTrue =>
        split
        case isTrue => exact held
        case isFalse fits =>
          split
          case isTrue =>
            have lifts := lifts_grant q s runs
            have seen' : ∀ l, ((board (grant q s)).legs.get l).phase.airborne = true →
                (e.phases.get l).airborne = true ∨ l ∈ granted ++ q.legs := by
              intro l air
              rcases lifts.legs l with same | ⟨mem, -⟩
              · rw [same] at air
                exact (seen l air).imp id fun mem => List.mem_append_left _ mem
              · exact .inr (List.mem_append_right _ mem)
            have room : airborneCount e granted q.legs ≤ 2 := by
              rw [not_or] at fits
              exact Nat.le_of_not_lt fits.1
            have few : (board (grant q s)).aloft.length ≤ 2 := by
              refine (length_aloft_le ((legsInOrder.filter fun l => (e.phases.get l).airborne) ++ (granted ++ q.legs)) fun l air => ?_).trans ?_
              · exact List.mem_append.mpr ((seen' l air).imp (fun read => List.mem_filter.mpr ⟨mem_legsInOrder l, read⟩) id)
              · simpa [airborneCount, Nat.add_assoc] using room
            exact ih _ _ (runs_grant runs) (lifts.mode.trans standing) (lifts.eval.trans idle)
              (aloft_lifts lifts idle standing held.motions few) seen'
          case isFalse =>
            unfold failsOnMargin
            dsimp only
            split
            · exact aloft_flow ((sends_orderPreshift q _ s).planFlow none).flow held
            · have dropped : Aloft none (board (dropRequest s)) := by
                rw [board_dropRequest]
                exact ⟨held.few, held.motions, held.seen⟩
              unfold completeRecord
              split
              · exact dropped
              case h_2 w _ =>
                obtain ⟨n, -, shown⟩ := board_finishRecord w .unstable (dropRequest s)
                refine aloft_flow (tested_completionActs none _ .unstable w.body.hold).flow ?_
                rw [shown]
                exact ⟨dropped.few, dropped.motions, dropped.seen⟩

theorem aloft_nextEvaluation (held : Aloft none (board s)) : Aloft none (board (nextEvaluation s)) := by
  unfold nextEvaluation
  split
  · exact aloft_read _ held
  · exact held

theorem braceTest_mode (b : BalanceCfg) (fig : Figures) (s : State) : (braceTest b fig s).sup = s.sup := by
  unfold braceTest
  split
  · split
    · split <;> rfl
    · rfl
  · rfl

theorem aloft_evaluationComplete (held : Aloft none (board s)) : Aloft none (board (evaluationComplete s)) := by
  unfold evaluationComplete
  split
  case h_1 => exact held
  case h_2 e running =>
    dsimp only
    have shown := board_tested e s
    refine aloft_nextEvaluation ?_
    generalize braceTest e.balCfg (figuresOf e) (s.setBal { s.bal with held := figuresOf e, eval := none }) = t at shown ⊢
    have idle : Aloft none (board t) := shown ▸ aloft_idle held
    unfold considerGrants
    split
    case isFalse => exact idle
    case isTrue may =>
      refine aloft_arbiter e _ [] t may.2.1 may.1 (by rw [shown]) idle fun l air => .inl ?_
      rw [shown] at air
      exact held.seen e.view (by show s.bal.eval.map _ = _; rw [running]; rfl) l air

theorem airborneRoom_iff (s : State) : AirborneRoom s ↔ Aloft none (board s) := by
  have phases : ∀ l, ((board s).legs.get l).phase = (s.legs.get l).phase := fun l => by rw [board_legs]; rfl
  have few : (board s).aloft.length = airborneLegs s := by simp [Board.aloft, airborneLegs, phases]
  unfold AirborneRoom
  constructor
  · rintro ⟨room, motions, seen⟩
    refine ⟨few ▸ room, fun l moving => ?_, fun e read l air => ?_⟩
    · rw [board_motion] at moving
      rw [phases]
      exact ⟨fun _ => (motions l moving).1, (motions l moving).2⟩
    · obtain ⟨i, running, rfl⟩ := Option.map_eq_some_iff.mp read
      exact seen i running l (phases l ▸ air)
  · rintro ⟨room, motions, seen⟩
    refine ⟨few ▸ room, fun l moving => ?_, fun e running l air => ?_⟩
    · have := motions l (by rw [board_motion]; exact moving)
      rw [phases] at this
      exact ⟨this.1 nofun, this.2⟩
    · exact seen e.view (by show s.bal.eval.map _ = _; rw [running]; rfl) l (by rw [phases]; exact air)

theorem aloft_blank (geo : Geometry) : Aloft none (Board.blank geo) := by
  refine ⟨?_, fun l moving => ?_, nofun⟩
  · simp [Board.aloft, Board.blank, LegView.settled, Phase.airborne]
  · simp [Board.blank, LegView.settled] at moving

/-- Settles O37, move by move on the board, the arbiter's grants by its airborne count. -/
theorem atMostTwoLegsAirborne : Obligations.AtMostTwoLegsAirborne := by
  unfold Obligations.AtMostTwoLegsAirborne
  intro s t held stepped
  refine step_keeps (P := AirborneRoom) (fun _ _ h => h) (fun c s t held done => ?_) held stepped
  rw [airborneRoom_iff] at held ⊢
  rcases course_of_done done with course | ⟨geo, reset⟩
  · by_cases evaluates : c = .evaluationComplete
    · subst evaluates
      cases done with
      | evaluationComplete => exact aloft_evaluationComplete held
      | untaken request => exact absurd request nofun
      | taken _ wanted => exact absurd wanted nofun
    · exact aloft_course (eq_false evaluates ▸ course) held
  · rw [reset]
    exact aloft_blank geo

/-! ## What waits stands -/

theorem waitingStands_iff (s : State) : WaitingStands s ↔ Posted none (board s) := by
  have phases : ∀ l, ((board s).legs.get l).phase = (s.legs.get l).phase := fun l => by rw [board_legs]; rfl
  have queue : (board s).queue.map Prod.fst = s.bal.queue.map SwingRequest.id := by simp [board, SwingRequest.named, Function.comp_def]
  unfold WaitingStands
  constructor
  · rintro ⟨request, stands, once, nodup, standing, empty, motions⟩
    refine ⟨⟨fun q mem => ?_, fun w mem waiting l named => ?_, fun w mem waiting l named v seated named' => ?_, queue ▸ once,
      board_ids s ▸ nodup⟩, ⟨standing, fun still => congrArg (List.map WindowRecord.seat) (empty still)⟩, fun l moving => ?_⟩
    · obtain ⟨r, queued, rfl⟩ := List.mem_map.mp mem
      obtain ⟨w, seated, waiting, id, legs⟩ := request r queued
      exact ⟨w.seat, List.mem_map_of_mem seated, waiting, id, legs⟩
    · obtain ⟨v, window, rfl⟩ := List.mem_map.mp mem
      rw [phases]
      exact (stands v window waiting l named).1
    · obtain ⟨w', window, rfl⟩ := List.mem_map.mp mem
      obtain ⟨v', window', rfl⟩ := List.mem_map.mp seated
      rw [(stands w' window waiting l named).2 v' window' named']
    · rw [board_motion] at moving
      rw [phases]
      exact ⟨fun _ => (motions l moving).1, (motions l moving).2⟩
  · rintro ⟨⟨request, stands, alone, once, nodup⟩, ⟨standing, empty⟩, motions⟩
    have nodup' : (idsInPlan s).Nodup := board_ids s ▸ nodup
    refine ⟨fun q mem => ?_, fun w mem waiting l named => ⟨?_, fun v seated named' => ?_⟩, queue ▸ once, nodup', standing, fun still => ?_, fun l moving => ?_⟩
    · obtain ⟨w, seated, waiting, id, legs⟩ := request q.named (List.mem_map_of_mem mem)
      obtain ⟨v, window, rfl⟩ := List.mem_map.mp seated
      exact ⟨v, window, waiting, id, legs⟩
    · rw [← phases]
      exact stands w.seat (List.mem_map_of_mem mem) waiting l named
    · have same := alone w.seat (List.mem_map_of_mem mem) waiting l named v.seat (List.mem_map_of_mem seated) named'
      exact List.inj_on_of_nodup_map (List.Nodup.of_append_right nodup') seated mem same
    · exact List.map_eq_nil_iff.mp (empty still)
    · have := motions l (by rw [board_motion]; exact moving)
      rw [phases] at this
      exact ⟨this.1 nofun, this.2⟩

theorem posted_blank (geo : Geometry) : Posted none (Board.blank geo) where
  waits := .of_empty rfl rfl List.nodup_nil
  stands := ⟨fun runs => absurd (Board.runs_iff.mp runs) (by simp [Board.blank]), fun _ => rfl⟩
  motions := (aloft_blank geo).motions

theorem posted_finish {r : Option ReadView} (held : Posted x b) : Posted x { b with eval := r } :=
  ⟨held.waits.relegs rfl rfl held.waits.nodup fun _ => id, ⟨held.stands.standing, held.stands.empty⟩, held.motions⟩

theorem posted_course (h : Course False b c) (held : Posted none b) : Posted none c :=
  h.keeps (P := Posted) (fun _ _ _ _ held move => posted_move move held) (fun _ => posted_finish) (fun _ => posted_finish)
    (fun _ _ held holds => posted_holds holds held) (fun _ _ held _ braces => posted_braces braces held) held

theorem serves_course (h : Course False b c) (posted : Posted none b) (held : Serves none b) : Serves none c :=
  (h.keeps (P := fun x b => Posted x b ∧ Serves x b) (fun _ _ _ _ held move => ⟨posted_move move held.1, serves_move move held.1 held.2⟩)
    (fun _ held => ⟨posted_finish held.1, held.2.unreported, held.2.steps⟩)
    (fun _ held => ⟨posted_finish held.1, held.2.unreported, held.2.steps⟩)
    (fun _ _ held holds => ⟨posted_holds holds held.1, serves_holds holds held.1⟩)
    (fun _ _ held running braces => ⟨posted_braces braces held.1, serves_braces braces held.1 running held.2⟩) ⟨posted, held⟩).2

/-- A command other than the completion of an evaluation, that completion itself, or a reset. -/
theorem done_cases {c : Instr} (done : Done c s t) :
    c ≠ .evaluationComplete ∧ Course False (board s) (board t) ∨ c = .evaluationComplete ∧ t = evaluationComplete s ∨
      ∃ geo, board t = Board.blank geo := by
  by_cases evaluates : c = .evaluationComplete
  · subst evaluates
    cases done with
    | evaluationComplete => exact .inr (.inl ⟨rfl, rfl⟩)
    | untaken request => exact absurd request nofun
    | taken _ wanted => exact absurd wanted nofun
  · rcases course_of_done done with course | reset
    · exact .inl ⟨evaluates, eq_false evaluates ▸ course⟩
    · exact .inr (.inr reset)

theorem posted_done {c : Instr} (done : Done c s t) (held : Posted none (board s)) : Posted none (board t) := by
  rcases done_cases done with ⟨-, course⟩ | ⟨-, rfl⟩ | ⟨geo, reset⟩
  · exact posted_course course held
  · exact (posted_evaluationComplete held).1
  · rw [reset]
    exact posted_blank geo

/-! ## What steps serves -/

theorem steppingServes_iff (s : State) : SteppingServes s ↔ Serves none (board s) := by
  have owes : ∀ (w : WindowRecord) l, (∀ r ∈ w.reports, r.leg ≠ l) ↔ l ∉ w.seat.reported := fun w l => by
    simp [WindowRecord.seat]
  have noReport : ∀ w : WindowRecord, w.reports = [] ↔ w.seat.reported = [] := fun w => List.map_eq_nil_iff.symm
  have data : ∀ l, (s.legs.get l).step ≠ none ↔ ((board s).legs.get l).planned = true := fun l => by
    rw [board_legs, LegSeq.view, Option.isSome_iff_ne_none]
  have record : ∀ l, ((board s).legs.get l).record = (s.legs.get l).record := fun l => by rw [board_legs]; rfl
  unfold SteppingServes
  constructor
  · rintro ⟨unreported, steps⟩
    refine ⟨fun w mem waiting => ?_, fun outside l _ step => ?_⟩
    · obtain ⟨v, window, rfl⟩ := List.mem_map.mp mem
      exact (noReport v).mp (unreported v window waiting)
    · rw [board_motion] at step
      obtain ⟨planned, w, window, granted, served, named, owed⟩ := steps outside l step
      refine ⟨(data l).mp planned, w.seat, List.mem_map_of_mem window, granted, ?_, named, (owes w l).mp owed⟩
      rw [record]
      exact served
  · rintro ⟨unreported, steps⟩
    refine ⟨fun w window waiting => (noReport w).mpr (unreported w.seat (List.mem_map_of_mem window) waiting), fun outside l step => ?_⟩
    obtain ⟨planned, w, mem, granted, served, named, owed⟩ := steps outside l nofun (by rw [board_motion]; exact step)
    obtain ⟨v, window, rfl⟩ := List.mem_map.mp mem
    rw [record] at served
    exact ⟨(data l).mpr planned, v, window, granted, served, named, (owes v l).mpr owed⟩

/-- Settles O45, move by move on the board, with what waits for a grant. -/
theorem steppingLegsServe : Obligations.SteppingLegsServe := by
  unfold Obligations.SteppingLegsServe
  intro s t held waits _ stepped
  rcases step_cases stepped with rfl | ⟨c, rest, -, done⟩
  · exact held
  · have posted : Posted none (board (s.setPending rest)) := (waitingStands_iff s).mp waits
    have serves : Serves none (board (s.setPending rest)) := (steppingServes_iff s).mp held
    rw [steppingServes_iff]
    rcases done_cases done with ⟨-, course⟩ | ⟨-, rfl⟩ | ⟨geo, reset⟩
    · exact serves_course course posted serves
    · exact (posted_evaluationComplete posted).2 serves
    · rw [reset]
      exact ⟨nofun, fun _ l _ step => by simp [Board.blank, LegView.settled] at step⟩

/-! ## A leg lifts only by a grant -/

/-- Without the arbiter no leg enters LIFT. -/
theorem noLift_course (h : Course False b c) (l : Leg) (lift : (c.legs.get l).phase = .lift) : (b.legs.get l).phase = .lift := by
  refine h.keeps (P := fun _ d => (d.legs.get l).phase = .lift → (b.legs.get l).phase = .lift) (fun x y d d' held move => ?_)
    (fun _ => id) (fun _ => id) (fun _ _ held holds => by rw [holds.legs]; exact held) (fun d d' held _ braces lift => ?_) id lift
  · have set : ∀ (m : Leg) (v : LegView), (v.phase = .lift → (d.legs.get m).phase = .lift) →
        ((d.legs.set m v).get l).phase = .lift → (b.legs.get l).phase = .lift := by
      intro m v here lift
      rw [Quad.get_set] at lift
      split at lift
      case isTrue same => exact held (same ▸ here lift)
      case isFalse => exact held lift
    cases move with
    | plan h => cases h <;> exact held
    | settle | standing => exact fun lift => by simp [LegView.settled] at lift
    | fly _ off | turn _ _ off => exact set _ _ fun lift => by rcases off with h | h <;> rw [h] at lift <;> cases lift
    | except => exact held
    | alight _ stands => exact set _ _ fun lift => by rw [stands] at lift; cases lift
    | clear _ stays => exact set _ _ fun lift => stays ▸ lift
    | stand | park => exact fun lift => by simp at lift
    | lift allowed | relabel allowed | drop allowed | strike allowed => exact allowed.elim
  · rcases braces.legs l with same | ⟨-, -, -, ⟨reach, -⟩ | ⟨stance, -⟩⟩
    · exact held (same ▸ lift)
    · rw [reach] at lift
      cases lift
    · rw [stance] at lift
      cases lift

/-- The grant of a leg: of a request that the evaluation read, with the legs of those ahead of it granted before (R60, R113). -/
def GrantOf (e : EvalInputs) (l : Leg) : Prop :=
  ∃ ahead r behind, e.requests = ahead ++ r :: behind ∧ l ∈ r.legs ∧
    airborneCount e (ahead.flatMap SwingRequest.legs) r.legs ≤ 2 ∧
    2 ≤ (predictedSet e (ahead.flatMap SwingRequest.legs) r.legs).length ∧
    passesOnMargin e (ahead.flatMap SwingRequest.legs) r.legs = true

theorem lift_arbiter (e : EvalInputs) (l : Leg) (rs ahead : List SwingRequest) (s : State) (all : e.requests = ahead ++ rs)
    (runs : planRuns s = true) (held : Posted none (board s)) (reads : rs.map SwingRequest.named <+: (board s).queue)
    (lift : ((board (arbiter e rs (ahead.flatMap SwingRequest.legs) s)).legs.get l).phase = .lift)
    (was : ((board s).legs.get l).phase ≠ .lift) : ((board s).legs.get l).phase = .stance ∧ GrantOf e l := by
  induction rs generalizing ahead s with
  | nil => exact absurd lift was
  | cons r rest ih =>
    unfold arbiter at lift
    split at lift
    case h_1 => exact absurd lift was
    case h_2 q behind head =>
      have queue := board_queue_head head
      rw [queue] at reads
      obtain ⟨same, reads⟩ := List.cons_prefix_cons.mp reads
      have legs : q.legs = r.legs := (congrArg Prod.snd same).symm
      split at lift
      case isFalse => exact absurd lift was
      case isTrue =>
        split at lift
        case isTrue => exact absurd lift was
        case isFalse fits =>
          split at lift
          case isFalse =>
            exfalso
            unfold failsOnMargin at lift
            dsimp only at lift
            split at lift
            · rw [(sends_orderPreshift q _ s).2] at lift
              exact was lift
            · have dropped := board_dropRequest s
              have kept : ((board (dropRequest s)).legs.get l).phase ≠ .lift := by rw [dropped]; exact was
              unfold completeRecord at lift
              split at lift
              · exact kept lift
              case h_2 w _ =>
                obtain ⟨n, -, shown⟩ := board_finishRecord w .unstable (dropRequest s)
                have back := noLift_course (.flow (tested_completionActs none _ .unstable w.body.hold).flow) l lift
                rw [shown] at back
                exact kept back
          case isTrue passes =>
            have lifts := lifts_grant q s runs
            rw [legs] at passes fits
            by_cases mine : l ∈ q.legs
            · obtain ⟨w, seated, waiting, -, named⟩ := held.waits.request (q.id, q.legs) (by rw [queue]; exact List.mem_cons_self)
              refine ⟨held.waits.stands w seated waiting l (by rw [named]; exact mine), ahead, r, rest, all, legs ▸ mine, ?_, ?_, passes⟩
              · exact Nat.le_of_not_lt (not_or.mp fits).1
              · exact Nat.le_of_not_lt (not_or.mp fits).2
            · have unmoved : (board (grant q s)).legs.get l = (board s).legs.get l :=
                (lifts.legs l).elim id fun lifted => absurd lifted.1 mine
              have granted : ahead.flatMap SwingRequest.legs ++ q.legs = (ahead ++ [r]).flatMap SwingRequest.legs := by
                rw [List.flatMap_append, legs]
                simp
              rw [granted] at lift
              have tail : rest.map SwingRequest.named <+: (board (grant q s)).queue := by
                refine List.IsPrefix.trans ?_ lifts.queue
                show _ <+: (board s).queue.tail
                rw [queue]
                exact reads
              have rest := ih (ahead ++ [r]) (grant q s) (by rw [all]; simp) (runs_grant runs)
                (posted_grant runs head held).1 tail lift (by rw [unmoved]; exact was)
              rw [unmoved] at rest
              exact rest

theorem braceTest_queues (b : BalanceCfg) (fig : Figures) (s : State) (may : (braceTest b fig s).bal.braceOut = false) :
    s.bal.braceOut = false ∧ (braceTest b fig s).bal.preshift = s.bal.preshift := by
  unfold braceTest at may ⊢
  split
  case isTrue runs =>
    rw [if_pos runs] at may
    split
    case isTrue low =>
      rw [if_pos low] at may
      split
      case isTrue due =>
        rw [if_pos due] at may
        cases may
      case isFalse early =>
        rw [if_neg early] at may
        exact ⟨may, rfl⟩
    case isFalse high =>
      rw [if_neg high] at may
      exact ⟨may, rfl⟩
  case isFalse still =>
    rw [if_neg still] at may
    exact ⟨may, rfl⟩

/-- A leg that the completion of an evaluation lifts (R61, R113). -/
theorem lift_evaluationComplete {l : Leg} (reads : (board s).ReadsQueue) (held : Posted none (board s))
    (lift : ((board (evaluationComplete s)).legs.get l).phase = .lift) (was : ((board s).legs.get l).phase ≠ .lift) :
    ((board s).legs.get l).phase = .stance ∧ s.sup.mode = .standing ∧ planRuns s = true ∧ s.bal.braceOut = false ∧
      s.bal.preshift = none ∧ ∃ e, s.bal.eval = some e ∧ GrantOf e l := by
  unfold evaluationComplete at lift
  split at lift
  case h_1 => exact absurd lift was
  case h_2 e running =>
    dsimp only at lift
    have shown := board_tested e s
    have sup := braceTest_mode e.balCfg (figuresOf e) (s.setBal { s.bal with held := figuresOf e, eval := none })
    have queues := braceTest_queues e.balCfg (figuresOf e) (s.setBal { s.bal with held := figuresOf e, eval := none })
    generalize braceTest e.balCfg (figuresOf e) (s.setBal { s.bal with held := figuresOf e, eval := none }) = t at shown sup queues lift
    have considered : ((board (considerGrants e t)).legs.get l).phase = .lift := by
      unfold nextEvaluation at lift
      split at lift
      · exact lift
      · exact lift
    have unlifted : ((board t).legs.get l).phase ≠ .lift := by rw [shown]; exact was
    unfold considerGrants at considered
    split at considered
    case isFalse => exact absurd considered unlifted
    case isTrue may =>
      obtain ⟨standing, runs, unbraced, free⟩ := may
      obtain ⟨braceOut, preshift⟩ := queues unbraced
      have tested : Posted none (board t) := shown ▸ posted_finish held
      have queue : e.requests.map SwingRequest.named <+: (board t).queue := by
        rw [shown]
        exact reads e.view (by show s.bal.eval.map _ = _; rw [running]; rfl)
      obtain ⟨stance, grant⟩ := lift_arbiter e l e.requests [] t rfl runs tested queue considered unlifted
      rw [shown] at stance
      rw [sup] at standing
      rw [← board_runs, shown] at runs
      exact ⟨stance, standing, runs, braceOut, preshift.symm.trans free, e, running, grant⟩

/-- Settles O36, move by move on the board; what lifts a leg is the arbiter alone, and what waits stands. -/
theorem legsLiftOnlyByGrant : Obligations.LegsLiftOnlyByGrant := by
  unfold Obligations.LegsLiftOnlyByGrant
  refine ⟨fun s t held stepped => ?_, fun s t held stepped => ?_, fun c s t l reads waits executed lift was => ?_⟩
  · rw [evalReadsQueue_iff] at held ⊢
    exact step_keeps_of_course (fun _ _ _ held course => readsQueue_course course held) (fun _ => nofun) held stepped
  · rw [waitingStands_iff] at held ⊢
    exact step_keeps (P := fun s => Posted none (board s)) (fun _ _ h => h) (fun _ _ _ held done => posted_done done held) held stepped
  · have phases : ∀ (s : State), ((board s).legs.get l).phase = (s.legs.get l).phase := fun s => by rw [board_legs]; rfl
    rw [← phases] at lift was ⊢
    rcases done_cases (done_of_exec executed) with ⟨-, course⟩ | ⟨evaluates, rfl⟩ | ⟨geo, reset⟩
    · exact absurd (noLift_course course l lift) was
    · obtain ⟨stance, standing, runs, braceOut, preshift, e, running, ahead, r, behind, requests, named, grant⟩ :=
        lift_evaluationComplete ((evalReadsQueue_iff s).mp reads) ((waitingStands_iff s).mp waits) lift was
      exact ⟨stance, evaluates, standing, runs, braceOut, preshift, e, ahead, r, behind, running, requests, named, grant⟩
    · rw [reset] at lift
      simp [Board.blank, LegView.settled] at lift

end

end Sys2Proof.Machine
end

section
/-! SETPOINTS. What a setpoint leaves, said once for one leg and once for several: of the whole state only the commanded legs and the
transaction queue change (R97, R121, R129). From it what a change of mode, a rise, a settle and a SAFE_HOLD entry leave. -/

namespace Sys2Proof.Machine

/-! ## The transaction queue -/

/-- The transaction queue after a setpoint is taken (R129). -/
def handed (m : Mode) (l : Leg) (v : Vec3) (speed : Nat) (hold : Bool) (queue : List Txn) : List Txn :=
  if m = .parked then queue
  else if queue.any (Txn.isSetpointFor l) then
    queue.map fun t => if t.isSetpointFor l then ⟨l, .setpoint v speed hold⟩ else t
  else queue ++ [⟨l, .setpoint v speed hold⟩]

section
variable {m : Mode} {l : Leg} {v : Vec3} {speed : Nat} {hold : Bool} {queue : List Txn}

theorem handover_eq (l : Leg) (v : Vec3) (speed : Nat) (hold : Bool) (s : State) :
    handover l v speed hold s = s.setBus { s.bus with queue := handed s.sup.mode l v speed hold s.bus.queue } := by
  unfold handover handed
  split
  · rfl
  · split <;> rfl

/-- A setpoint handed over outside PARKED waits in the queue. -/
theorem mem_handed (running : m ≠ .parked) : (⟨l, .setpoint v speed hold⟩ : Txn) ∈ handed m l v speed hold queue := by
  rw [handed, if_neg running]
  split
  case isTrue waits =>
    obtain ⟨t, mem, setpoint⟩ := List.any_eq_true.mp waits
    exact List.mem_map.mpr ⟨t, mem, if_pos setpoint⟩
  case isFalse => exact List.mem_append_right _ (List.mem_singleton.mpr rfl)

/-- What is no setpoint for the leg stays in the queue. -/
theorem mem_handed_of_mem {t : Txn} (mem : t ∈ queue) (other : t.isSetpointFor l = false) :
    t ∈ handed m l v speed hold queue := by
  unfold handed
  split
  · exact mem
  · split
    · exact List.mem_map.mpr ⟨t, mem, by rw [other]; rfl⟩
    · exact List.mem_append_left _ mem

theorem isSetpointFor_of_ne {t : Txn} (other : t.leg ≠ l) : t.isSetpointFor l = false := by
  unfold Txn.isSetpointFor
  split
  · exact decide_eq_false other
  · rfl

end

/-! ## Commands to the legs -/

/-- A leg that has been sent a setpoint. -/
def LegSeq.sent (v : Vec3) (speed : Option Nat) (q : LegSeq) : LegSeq :=
  { q with commanded := v, speed := speed, reached := false, limitReached := false }

/-- From `s` to `t` some legs have been commanded: each is as `f` makes it and its transaction waits, and of the rest of the state
only the transaction queue has changed. -/
structure Commands (ls : List Leg) (f : Leg → LegSeq → LegSeq) (txn : Leg → Txn) (s t : State) : Prop where
  frame : t = (s.setLegs t.legs).setBus { s.bus with queue := t.bus.queue }
  told : ∀ l ∈ ls, t.legs.get l = f l (s.legs.get l)
  others : ∀ l, l ∉ ls → t.legs.get l = s.legs.get l
  waits : s.sup.mode ≠ .parked → ∀ l ∈ ls, txn l ∈ t.bus.queue
  stays : ∀ x ∈ s.bus.queue, (∀ l ∈ ls, x.isSetpointFor l = false) → x ∈ t.bus.queue

section
variable {ls : List Leg} {f : Leg → LegSeq → LegSeq} {txn : Leg → Txn} {s t : State}

theorem Commands.nil (f : Leg → LegSeq → LegSeq) (txn : Leg → Txn) (s : State) : Commands [] f txn s s :=
  ⟨rfl, nofun, fun _ _ => rfl, fun _ => nofun, fun _ mem _ => mem⟩

theorem Commands.sup (h : Commands ls f txn s t) : t.sup = s.sup := by rw [h.frame]; rfl
theorem Commands.geo (h : Commands ls f txn s t) : t.geo = s.geo := by rw [h.frame]; rfl
theorem Commands.gait (h : Commands ls f txn s t) : t.gait = s.gait := by rw [h.frame]; rfl
theorem Commands.drives (h : Commands ls f txn s t) : t.bus.drives = s.bus.drives := by rw [h.frame]; rfl
theorem Commands.line (h : Commands ls f txn s t) : t.bus.line = s.bus.line := by rw [h.frame]; rfl
theorem Commands.plan (h : Commands ls f txn s t) : t.plan = s.plan := by rw [h.frame]; rfl
theorem Commands.bal (h : Commands ls f txn s t) : t.bal = s.bal := by rw [h.frame]; rfl
theorem Commands.ev (h : Commands ls f txn s t) : t.ev = s.ev := by rw [h.frame]; rfl
theorem Commands.link (h : Commands ls f txn s t) : t.link = s.link := by rw [h.frame]; rfl
theorem Commands.feet (h : Commands ls f txn s t) : t.feet = s.feet := by rw [h.frame]; rfl
theorem Commands.att (h : Commands ls f txn s t) : t.att = s.att := by rw [h.frame]; rfl
theorem Commands.surf (h : Commands ls f txn s t) : t.surf = s.surf := by rw [h.frame]; rfl
theorem Commands.balCfg (h : Commands ls f txn s t) : t.balCfg = s.balCfg := by rw [h.frame]; rfl

theorem Commands.frame_trans {ms : List Leg} {u : State} (h : Commands ls f txn s t) (k : Commands ms f txn t u) :
    u = (s.setLegs u.legs).setBus { s.bus with queue := u.bus.queue } := by
  conv_lhs => rw [k.frame, h.frame]
  rfl

/-- One more leg is commanded. -/
theorem Commands.cons {l : Leg} {u : State} (h : Commands [l] f txn s t) (k : Commands ls f txn t u) (fresh : l ∉ ls)
    (addressed : (txn l).leg = l) : Commands (l :: ls) f txn s u where
  frame := h.frame_trans k
  told m mem := by
    rcases List.mem_cons.mp mem with rfl | mem
    · rw [k.others m fresh, h.told m (List.mem_singleton.mpr rfl)]
    · have other : m ≠ l := fun same => fresh (same ▸ mem)
      rw [k.told m mem, h.others m (by simpa using other)]
  others m away := by
    obtain ⟨other, away⟩ := not_or.mp (List.mem_cons.not.mp away)
    rw [k.others m away, h.others m (by simpa using other)]
  waits running m mem := by
    rcases List.mem_cons.mp mem with rfl | mem
    · refine k.stays _ (h.waits running m (List.mem_singleton.mpr rfl)) fun o there => isSetpointFor_of_ne ?_
      rw [addressed]
      exact fun same => fresh (same ▸ there)
    · exact k.waits (h.sup ▸ running) m mem
  stays x mem other := k.stays x (h.stays x mem fun m here => other m (List.mem_cons.mpr (.inl (List.mem_singleton.mp here))))
    fun m there => other m (List.mem_cons_of_mem l there)

/-- Several legs are commanded one after another, each by what it and the frame of the state say. -/
theorem commands_forLegs {op : Leg → State → State} (addressed : ∀ l, (txn l).leg = l) (each : ∀ l t,
      (∃ ms, l ∉ ms ∧ Commands ms f txn s t) → Commands [l] f txn t (op l t))
    (nodup : ls.Nodup) : Commands ls f txn s (forLegs op ls s) := by
  suffices h : ∀ (ls ms : List Leg) (t : State), ls.Nodup → (∀ l ∈ ls, l ∉ ms) → Commands ms f txn s t →
      Commands ls f txn t (forLegs op ls t) from h ls [] s nodup (fun _ _ => nofun) (.nil f txn s)
  intro ls
  induction ls with
  | nil => exact fun ms t _ _ _ => .nil f txn t
  | cons l rest ih =>
    intro ms t nodup fresh done
    obtain ⟨notThere, nodup⟩ := List.nodup_cons.mp nodup
    have one := each l t ⟨ms, fresh l List.mem_cons_self, done⟩
    refine one.cons (ih (ms ++ [l]) _ nodup ?_ ?_) notThere (addressed l)
    · intro m mem there
      rcases List.mem_append.mp there with there | there
      · exact fresh m (List.mem_cons_of_mem l mem) there
      · exact notThere (List.mem_singleton.mp there ▸ mem)
    · refine ⟨done.frame_trans one, fun m mem => ?_, fun m away => ?_, fun running m mem => ?_, fun x mem other => ?_⟩
      · rcases List.mem_append.mp mem with mem | mem
        · rw [one.others m (fun same => fresh l List.mem_cons_self (List.mem_singleton.mp same ▸ mem)), done.told m mem]
        · rw [one.told m mem, List.mem_singleton.mp mem, done.others l (fresh l List.mem_cons_self)]
      · rw [one.others m fun here => away (List.mem_append_right _ here), done.others m fun here => away (List.mem_append_left _ here)]
      · rcases List.mem_append.mp mem with mem | mem
        · refine one.stays _ (done.waits running m mem) fun o there => isSetpointFor_of_ne ?_
          rw [addressed, List.mem_singleton.mp there]
          exact fun same => fresh l List.mem_cons_self (same ▸ mem)
        · exact one.waits (done.sup ▸ running) m mem
      · exact one.stays x (done.stays x mem fun m here => other m (List.mem_append_left _ here))
          fun m here => other m (List.mem_append_right _ here)

/-- A setpoint handed over for a leg whose sequencer is changed with it. -/
theorem commands_handover (l : Leg) (v : Vec3) (speed : Nat) (hold : Bool) (f : Leg → LegSeq → LegSeq) (txn : Leg → Txn)
    (addressed : txn l = ⟨l, .setpoint v speed hold⟩) (s : State) :
    Commands [l] f txn s (handover l v speed hold (modLeg l (f l) s)) := by
  rw [handover_eq]
  refine ⟨rfl, fun m mem => ?_, fun m away => ?_, fun running m mem => ?_, fun x mem other => ?_⟩
  · rw [List.mem_singleton.mp mem]
    exact Quad.get_set_self ..
  · exact Quad.get_set_of_ne _ (by simpa using away) _
  · rw [List.mem_singleton.mp mem, addressed]
    exact mem_handed running
  · exact mem_handed_of_mem mem (other l (List.mem_singleton.mpr rfl))

/-- The transaction of a setpoint to a body-frame target, at the speed the derating flag calls for (R5, R121). -/
def setpointTo (s : State) (body : Leg → Vec3) (speed : Nat) (l : Leg) : Txn :=
  ⟨l, .setpoint (hipTarget s.geo l (body l)) (deratedSpeed (s.legs.get l) speed) false⟩

/-- The transaction of a HOLD where the drive stands (R5). -/
def holdAt (s : State) (l : Leg) : Txn := ⟨l, .setpoint (heldPos s l) 0 true⟩

theorem commands_sendSetpoint (l : Leg) (body : Vec3) (speed : Nat) (s : State) :
    Commands [l] (fun m => LegSeq.sent (hipTarget s.geo m body) (some speed)) (setpointTo s (fun _ => body) speed) s
      (sendSetpoint l body speed s) :=
  commands_handover l _ _ false (fun m => LegSeq.sent (hipTarget s.geo m body) (some speed)) _ rfl s

theorem commands_sendHold (l : Leg) (s : State) :
    Commands [l] (fun m => LegSeq.sent (heldPos s m) none) (holdAt s) s (sendHold l s) :=
  commands_handover l _ _ true (fun m => LegSeq.sent (heldPos s m) none) _ rfl s

/-- The same command said of another state with the same frame and the same leg. -/
theorem Commands.congr {g : Leg → LegSeq → LegSeq} {x : Leg → Txn} (h : Commands ls f txn s t) (same : ∀ l ∈ ls, f l = g l)
    (sends : ∀ l ∈ ls, txn l = x l) : Commands ls g x s t where
  frame := h.frame
  told l mem := same l mem ▸ h.told l mem
  others := h.others
  waits running l mem := sends l mem ▸ h.waits running l mem
  stays := h.stays

/-- A setpoint to each of some legs, its target told by the leg's own sequencer and the geometry. -/
theorem commands_setpoints (body : Geometry → Leg → LegSeq → Vec3) {op : Leg → State → State} (speed : Nat) (s : State)
    (is : ∀ l t, t.gait = s.gait → op l t = sendSetpoint l (body t.geo l (t.legs.get l)) speed t) (nodup : ls.Nodup) :
    Commands ls (fun l => LegSeq.sent (hipTarget s.geo l (body s.geo l (s.legs.get l))) (some speed))
      (setpointTo s (fun l => body s.geo l (s.legs.get l)) speed) s (forLegs op ls s) := by
  refine commands_forLegs (fun _ => rfl) (fun l t ⟨ms, fresh, done⟩ => ?_) nodup
  have leg := done.others l fresh
  rw [is l t done.gait]
  refine (commands_sendSetpoint l _ speed t).congr (fun m mem => ?_) (fun m mem => ?_)
  · rw [List.mem_singleton.mp mem, leg, done.geo]
  · rw [List.mem_singleton.mp mem]
    simp only [setpointTo, leg, done.geo]

theorem commands_holdLegs (nodup : ls.Nodup) (s : State) :
    Commands ls (fun l => LegSeq.sent (heldPos s l) none) (holdAt s) s (holdLegs ls s) := by
  refine commands_forLegs (fun _ => rfl) (fun l t ⟨ms, _, done⟩ => ?_) nodup
  have held : ∀ m, heldPos t m = heldPos s m := fun m => by rw [heldPos, heldPos, done.drives]
  exact (commands_sendHold l t).congr (fun m _ => by rw [held]) (fun m _ => by simp only [holdAt, held])

theorem nodup_legsInOrder : legsInOrder.Nodup := by decide

theorem commands_sendPose (pose : Vec3) (s : State) :
    Commands legsInOrder (fun l => LegSeq.sent (hipTarget s.geo l (toBody s.geo l pose)) (some s.gait.shiftSpeed))
      (setpointTo s (fun l => toBody s.geo l pose) s.gait.shiftSpeed) s (sendPose pose s) := by
  refine commands_setpoints (fun g l _ => toBody g l pose) s.gait.shiftSpeed s (fun l t gait => ?_) nodup_legsInOrder
  rw [gait]

/-- The hip-frame target of a position of the hip frame is that position in the workspace (R5). -/
theorem hipTarget_toBody (g : Geometry) (l : Leg) (v : Vec3) : hipTarget g l (toBody g l v) = workspaceClamp g v := by
  simp [hipTarget, toHip, toBody]

theorem deratedSpeed_eq (q : LegSeq) (speed : Nat) : deratedSpeed q speed = spared q.derating speed := rfl

end

/-! ## A change of mode -/

/-- The silence timer at a change of mode (R152). -/
def silenceIn (m : Mode) (limit : Nat) (timer : Option Nat) : Option Nat :=
  if silenceMode m then (if limit ≠ 0 then some limit else timer) else none

/-- A change of mode raises MODE_CHANGE, directs the silence timer and clears a pending settle outside STANDING (R142, R152, R153). -/
theorem changeMode_eq (m : Mode) (s : State) :
    ∃ es tx, hasEvent es .modeChange = true ∧
      changeMode m s =
        ((s.setSup { s.sup with mode := m, pendingSettle := s.sup.pendingSettle && decide (m = .standing) }).setEv
            { s.ev with pending := es }).setLink
          { s.link with tx := tx, silence := silenceIn m s.sup.silenceLimit s.link.silence } := by
  obtain ⟨es, tx, raised, h⟩ := raise_eq .modeChange
    (s.setSup { s.sup with mode := m, pendingSettle := s.sup.pendingSettle && decide (m = .standing) })
  refine ⟨es, tx, raised, ?_⟩
  rw [changeMode, h]
  cases runs : silenceMode m with
  | true =>
    by_cases limit : s.sup.silenceLimit = 0
    · simp [restartSilence, silenceIn, runs, limit]
    · simp [restartSilence, silenceIn, runs, limit, State.setLink]
  | false => simp [stopSilence, silenceIn, runs, State.setLink]

end Sys2Proof.Machine
end

section
/-! RISING AND SETTLING. The whole next state of an accepted STAND and of a move into SETTLING, and from them what STAND and SIT answer
(R143, R145, R152). -/

namespace Sys2Proof.Machine

/-- The poses of section 8.2 in reach of the legs: every leg in POSTURE, sent to a pose at the shift speed. -/
structure Posed (pose : Vec3) (f : LegSeq → LegSeq) (s t : State) : Prop where
  legs : ∀ l, t.legs.get l = (f (s.legs.get l)).sent (workspaceClamp s.geo pose) (some s.gait.shiftSpeed)
  sends : ∀ l, (⟨l, .setpoint (workspaceClamp s.geo pose) (spared (s.legs.get l).derating s.gait.shiftSpeed) false⟩ : Txn) ∈
    t.bus.queue

theorem Posed.of_same {pose : Vec3} {f : LegSeq → LegSeq} {s t u : State} (h : Posed pose f u t) (legs : u.legs = s.legs)
    (geo : u.geo = s.geo) (gait : u.gait = s.gait) : Posed pose f s t where
  legs l := by rw [h.legs, legs, geo, gait]
  sends l := by
    have sent := h.sends l
    rwa [legs, geo, gait] at sent

/-- The rise/settle timer looks at the derating flags alone (R143). -/
theorem riseTime_eq (s : State) : riseTime s = allowed (s.legs.any LegSeq.derating) s.gait.riseTimeout := rfl

theorem any_derating_congr {p q : Quad LegSeq} (same : ∀ l, (p.get l).derating = (q.get l).derating) :
    p.any LegSeq.derating = q.any LegSeq.derating := by
  simp only [Quad.any]
  rw [show p.fl.derating = q.fl.derating from same .fl, show p.fr.derating = q.fr.derating from same .fr,
    show p.rl.derating = q.rl.derating from same .rl, show p.rr.derating = q.rr.derating from same .rr]

/-- Every leg changed and sent to a pose, outside PARKED: the legs and the transaction queue change, and nothing else. -/
theorem sendPose_spec (pose : Vec3) (f : LegSeq → LegSeq) (derating : ∀ q, (f q).derating = q.derating) (s : State)
    (running : s.sup.mode ≠ .parked) :
    let t := sendPose pose (s.setLegs (s.legs.map f))
    Posed pose f s t ∧ t = (s.setLegs t.legs).setBus { s.bus with queue := t.bus.queue } ∧ riseTime t = riseTime s := by
  intro t
  have h : Commands legsInOrder _ _ (s.setLegs (s.legs.map f)) t := commands_sendPose pose (s.setLegs (s.legs.map f))
  have told : ∀ l, t.legs.get l = (f (s.legs.get l)).sent (workspaceClamp s.geo pose) (some s.gait.shiftSpeed) := fun l => by
    rw [h.told l (mem_legsInOrder l), hipTarget_toBody, State.setLegs_legs, Quad.get_map]
    rfl
  have sends := h.waits running
  clear_value t
  refine ⟨⟨told, fun l => ?_⟩, h.frame.trans rfl, ?_⟩
  · have sent := sends l (mem_legsInOrder l)
    rw [setpointTo, hipTarget_toBody, deratedSpeed_eq, State.setLegs_legs, Quad.get_map, derating] at sent
    exact sent
  · have same : t.legs.any LegSeq.derating = s.legs.any LegSeq.derating :=
      any_derating_congr fun l => (by rw [told]; exact derating _)
    rw [riseTime_eq, riseTime_eq, h.gait, same]
    rfl

/-- From `s`, SETTLING has been entered (R145, R153). -/
structure EntersSettling (s t : State) : Prop where
  posed : Posed s.geo.parkPose (LegSeq.settled .posture) s t
  raised : hasEvent t.ev.pending .modeChange = true
  frame : t = ((((s.setLegs t.legs).setBus { s.bus with queue := t.bus.queue }).setSup
      { s.sup with mode := .settling, pendingSettle := false, riseSettle := some (riseTime s), supportLost := none }).setEv
        { s.ev with pending := t.ev.pending }).setLink { s.link with tx := t.link.tx, silence := none }

theorem entersSettling (s : State) : EntersSettling s (enterSettling s) := by
  obtain ⟨es, tx, raised, moded⟩ := changeMode_eq .settling s
  have running : (changeMode .settling s).sup.mode ≠ .parked := by rw [moded]; simp
  have spec := sendPose_spec (changeMode .settling s).geo.parkPose (LegSeq.settled .posture) (fun _ => rfl) _ running
  have shown : enterSettling s = (fun t : State => t.setSup { t.sup with riseSettle := some (riseTime t), supportLost := none })
      (sendPose (changeMode .settling s).geo.parkPose ((changeMode .settling s).setLegs
        ((changeMode .settling s).legs.map (LegSeq.settled .posture)))) := by
    simp only [enterSettling, setAllPhases, State.setLegs_geo]
  rw [shown]
  generalize changeMode .settling s = u at moded spec
  generalize sendPose u.geo.parkPose _ = t at spec
  obtain ⟨posed, frame, time⟩ := spec
  have geo : u.geo = s.geo := by rw [moded]; rfl
  have placed := posed.of_same (by rw [moded]; rfl) geo (s := s) (by rw [moded]; rfl)
  rw [geo] at placed
  dsimp only
  rw [time]
  subst moded
  refine ⟨⟨placed.legs, placed.sends⟩, ?_, ?_⟩
  · rw [frame]
    exact raised
  · rw [frame]
    simp [State.setLegs, State.setBus, State.setSup, State.setEv, State.setLink, riseTime, silenceIn, silenceMode]

/-- From `s`, an accepted STAND with a class has left `t` (R143). -/
structure Rises (c : SurfaceClass) (s t : State) : Prop where
  posed : Posed s.geo.stancePose (fun q => { q with phase := .posture }) s t
  raised : hasEvent t.ev.pending .modeChange = true
  frame : t = (((((s.setFeet (s.feet.map fun f => { f with cls := c })).setLegs t.legs).setBus
      { s.bus with queue := t.bus.queue }).setSup
      { s.sup with mode := .rising, pendingSettle := false, riseSettle := some (riseTime s) }).setEv
        { s.ev with pending := t.ev.pending }).setLink
          { s.link with tx := t.link.tx, silence := silenceIn .rising s.sup.silenceLimit s.link.silence }

theorem rises_standUp (c : SurfaceClass) (s : State) : Rises c s (standUp c s) := by
  obtain ⟨es, tx, raised, moded⟩ := changeMode_eq .rising (setClasses c s)
  have running : (changeMode .rising (setClasses c s)).sup.mode ≠ .parked := by rw [moded]; simp
  have spec := sendPose_spec (changeMode .rising (setClasses c s)).geo.stancePose (fun q => { q with phase := .posture })
    (fun _ => rfl) _ running
  have shown : standUp c s = (fun t : State => t.setSup { t.sup with riseSettle := some (riseTime t) })
      (sendPose (changeMode .rising (setClasses c s)).geo.stancePose ((changeMode .rising (setClasses c s)).setLegs
        ((changeMode .rising (setClasses c s)).legs.map fun q => { q with phase := .posture }))) := by
    simp only [standUp, State.setLegs_geo]
  rw [shown]
  generalize changeMode .rising (setClasses c s) = u at moded spec
  generalize sendPose u.geo.stancePose _ = t at spec
  obtain ⟨posed, frame, time⟩ := spec
  have geo : u.geo = s.geo := by rw [moded]; rfl
  have placed := posed.of_same (by rw [moded]; rfl) geo (s := s) (by rw [moded]; rfl)
  rw [geo] at placed
  dsimp only
  rw [time]
  subst moded
  refine ⟨⟨placed.legs, placed.sends⟩, ?_, ?_⟩
  · rw [frame]
    exact raised
  · rw [frame]
    simp [setClasses, State.setLegs, State.setBus, State.setSup, State.setEv, State.setLink, State.setFeet, riseTime]

/-! ## STAND -/

theorem classOf_code (c : SurfaceClass) : classOf c.code = some c := by cases c <;> rfl

theorem classOf_of_gt {n : Nat} (h : 4 < n) : classOf n = none := by
  unfold classOf
  split <;> first | rfl | omega

section
variable {s : State} {f : Frame} {rest : List Frame}

/-- What STAND answers, by mode and class (R143). -/
theorem exec_stand {b : Byte} (taking : Taking s f rest) (kind : f.kind = 0x20#8) (payload : f.payload = [b]) :
    exec .stand s = .next (
      if s.sup.mode = .parked then
        match classOf b.toNat with
        | none => s.replied rest (replyTo f .badValue [])
        | some c => queueReply f (okWith [] (standUp c (s.setLink { s.link with buffer := rest })))
      else s.replied rest (replyTo f .wrongMode [])) := by
  have taken := serve_of_taking (wanted := isKind 0x20#8) (carryOut := answerStand) taking (by simp [isKind, kind])
  refine congrArg Host.Outcome.next (taken.trans ?_)
  have byte : u8At f.payload 0 = b.toNat := by rw [payload]; rfl
  rw [answerStand, withLen_of_length (by rw [payload]; rfl), byte, State.setLink_sup]
  split
  · cases classOf b.toNat with
    | none => exact queueReply_refuse ..
    | some c => rfl
  · exact queueReply_refuse ..

/-- Settles O51: each answer by its branch, and the state of the accepted request read off its whole next state. -/
theorem standRises : Obligations.StandRises := by
  unfold Obligations.StandRises
  intro s f rest b taking kind payload
  rw [exec_stand taking kind payload]
  refine ⟨fun other => by rw [if_neg other], fun parked large => by rw [if_pos parked, classOf_of_gt large], fun parked c code => ?_⟩
  rw [if_pos parked, code, classOf_code]
  dsimp only
  rw [queueReply_okWith]
  have rises := rises_standUp c (s.setLink { s.link with buffer := rest })
  generalize standUp c (s.setLink { s.link with buffer := rest }) = t at rises
  obtain ⟨⟨legs, sends⟩, raised, frame⟩ := rises
  refine ⟨_, rfl, List.getLast?_concat, ?mode, raised, ?feet, fun l => ⟨?phase, ?commanded, ?reached, sends l⟩, ?time, ?silence, ?frame⟩
  case phase => rw [State.setLink_legs, legs]; rfl
  case commanded => rw [State.setLink_legs, legs]; rfl
  case reached => rw [State.setLink_legs, legs]; rfl
  case mode => rw [State.setLink_sup, frame]; rfl
  case feet => intro l; rw [State.setLink_feet, frame]; simp
  case time => rw [State.setLink_sup, frame]; rfl
  case silence => intro limit; rw [State.setLink_link, frame]; exact if_pos limit
  case frame =>
    simp only [State.setLink_plan, State.setLink_bal, State.setLink_bus, State.setLink_ev]
    rw [frame]
    simp

/-! ## SIT -/

theorem sitsFrom_iff (q : LegSeq) : q.sitsFrom = true ↔ q.phase = .stance ∨ q.motion = some .held := by
  rw [LegSeq.sitsFrom, Bool.or_eq_true, decide_eq_true_iff, decide_eq_true_iff]

/-- What SIT answers, by mode (R145). -/
theorem exec_sit (taking : Taking s f rest) (kind : f.kind = 0x21#8) (payload : f.payload = []) :
    exec .sit s = .next (
      match s.sup.mode with
      | .parked => s.replied rest (replyTo f .wrongMode [])
      | .rising => s.replied rest (replyTo f .wrongMode [])
      | .settling => s.replied rest (replyTo f .ok [])
      | .standing =>
        if planRuns s ∨ ¬ s.legs.all LegSeq.sitsFrom then s.replied rest (replyTo f .wrongState [])
        else queueReply f (okWith [] (enterSettling (s.setLink { s.link with buffer := rest })))
      | .safeHold =>
        if s.bus.drives.any Drive.isLost then s.replied rest (replyTo f .notSettled [])
        else queueReply f (okWith [] (enterSettling (s.setLink { s.link with buffer := rest })))) := by
  have taken := serve_of_taking (wanted := isKind 0x21#8) (carryOut := answerSit) taking (by simp [isKind, kind])
  refine congrArg Host.Outcome.next (taken.trans ?_)
  have runs : planRuns (s.setLink { s.link with buffer := rest }) = planRuns s := rfl
  rw [answerSit, withLen_of_length (by rw [payload]; rfl), State.setLink_sup, State.setLink_legs, State.setLink_bus, runs]
  cases s.sup.mode with
  | parked => exact queueReply_refuse ..
  | rising => exact queueReply_refuse ..
  | settling => simp [queueReply_okWith, State.replied, State.setLink]
  | standing =>
    dsimp only
    split
    · exact queueReply_refuse ..
    · rfl
  | safeHold =>
    dsimp only
    split
    · exact queueReply_refuse ..
    · rfl

/-- Settles O52: each answer by its branch, and the state of the accepted request read off its whole next state. -/
theorem sitSettles : Obligations.SitSettles := by
  unfold Obligations.SitSettles
  intro s f rest taking kind payload lost sits
  have sitsIff : (planRuns s = true ∨ ¬ s.legs.all LegSeq.sitsFrom = true) ↔ ¬ sits := by
    simp only [sits, Quad.all_iff, sitsFrom_iff]
    rw [not_and_or, Bool.not_eq_false]
  have lostIff : s.bus.drives.any Drive.isLost = true ↔ lost := by simp only [lost, Quad.any_iff, Drive.isLost_iff, ge_iff_le]
  rw [exec_sit taking kind payload]
  refine ⟨?refused, fun settling => by rw [settling], fun standing not => ?_, fun held isLost => ?_, fun accepted => ?_⟩
  case refused => rintro (mode | mode) <;> rw [mode]
  · rw [standing]
    exact congrArg Host.Outcome.next (if_pos (sitsIff.mpr not))
  · rw [held]
    exact congrArg Host.Outcome.next (if_pos (lostIff.mpr isLost))
  · have settles := entersSettling (s.setLink { s.link with buffer := rest })
    generalize enterSettling (s.setLink { s.link with buffer := rest }) = t at settles ⊢
    refine ⟨queueReply f (okWith [] t), ?answer, ?_⟩
    case answer =>
      rcases accepted with ⟨standing, may⟩ | ⟨held, may⟩
      · rw [standing]
        dsimp only
        rw [if_neg (sitsIff.not.mpr (not_not.mpr may))]
      · rw [held]
        dsimp only
        rw [if_neg (lostIff.not.mpr may)]
    obtain ⟨⟨legs, sends⟩, raised, frame⟩ := settles
    rw [queueReply_okWith]
    refine ⟨List.getLast?_concat, ?mode, raised, fun l => ⟨?_, ?_, ?_, ?_, ?_, ?_, ?_, sends l⟩, ?time, ?rest⟩
    case mode => rw [State.setLink_sup, frame]; rfl
    case time => rw [State.setLink_sup, frame]; rfl
    case rest =>
      simp only [State.setLink_plan, State.setLink_bal, State.setLink_sup, State.setLink_ev, State.setLink_link, State.setLink_feet]
      rw [frame]
      simp
    all_goals
      rw [State.setLink_legs, legs]
      rfl

end

end Sys2Proof.Machine
end

section
/-! RECORDS. What the Step Planner's bookkeeping leaves: a record that is finished leaves the window, an entry the log, a count and an
event (R78 to R80); a withdrawal puts what waits back at the head of the list (R85). -/

namespace Sys2Proof.Machine

/-- From `s` to `t` only the plan, the counters, the raised events and the notices have changed. -/
structure Books (s t : State) : Prop where
  frame : t = ((s.setPlan t.plan).setEv { s.ev with pending := t.ev.pending, counters := t.ev.counters }).setLink
    { s.link with tx := t.link.tx }
  flags : ∀ e, hasEvent s.ev.pending e = true → hasEvent t.ev.pending e = true

section
variable {s t u : State}

theorem Books.refl (s : State) : Books s s := ⟨rfl, fun _ => id⟩

theorem Books.trans (h : Books s t) (k : Books t u) : Books s u where
  frame := by
    conv_lhs => rw [k.frame, h.frame]
    rfl
  flags e set := k.flags e (h.flags e set)

theorem Books.sup (h : Books s t) : t.sup = s.sup := by rw [h.frame]; rfl
theorem Books.legs (h : Books s t) : t.legs = s.legs := by rw [h.frame]; rfl
theorem Books.bus (h : Books s t) : t.bus = s.bus := by rw [h.frame]; rfl
theorem Books.bal (h : Books s t) : t.bal = s.bal := by rw [h.frame]; rfl
theorem Books.feet (h : Books s t) : t.feet = s.feet := by rw [h.frame]; rfl
theorem Books.geo (h : Books s t) : t.geo = s.geo := by rw [h.frame]; rfl
theorem Books.gait (h : Books s t) : t.gait = s.gait := by rw [h.frame]; rfl
theorem Books.att (h : Books s t) : t.att = s.att := by rw [h.frame]; rfl
theorem Books.time (h : Books s t) : t.ev.time = s.ev.time := by rw [h.frame]; rfl
theorem Books.fault (h : Books s t) : t.ev.fault = s.ev.fault := by rw [h.frame]; rfl
theorem Books.overflow (h : Books s t) : t.ev.overflow = s.ev.overflow := by rw [h.frame]; rfl
theorem Books.silence (h : Books s t) : t.link.silence = s.link.silence := by rw [h.frame]; rfl

theorem books_bump (k : Counter) (s : State) : Books s (bump k s) := ⟨rfl, fun _ => id⟩

/-- Raising an event leaves plan and counters. -/
theorem books_raise (e : Event) (s : State) :
    Books s (raise e s) ∧ (raise e s).plan = s.plan ∧ (raise e s).ev.counters = s.ev.counters := by
  obtain ⟨es, tx, -, h⟩ := raise_eq e s
  refine ⟨⟨?_, (calm_raise e s).quiet.flags⟩, ?_, ?_⟩ <;> rw [h] <;> rfl

/-! ## Finishing a record -/

/-- The completion log after an entry has joined it (R80). -/
def pushed (log : List LogEntry) (e : LogEntry) : List LogEntry := if 16 ≤ log.length then log.drop 1 ++ [e] else log ++ [e]

/-- The counters after an entry has joined a log of some length (R80). -/
def pushCount (n : Nat) (c : Counters) : Counters := if 16 ≤ n then c.bump .logOverwrites else c

/-- The counters after a completion (R79). -/
def countDone (k : Option Counter) (c : Counters) : Counters :=
  match k with
  | none => c
  | some k => c.bump k

theorem pushLog_eq (e : LogEntry) (s : State) :
    pushLog e s = (s.setPlan { s.plan with log := pushed s.plan.log e }).setEv
      { s.ev with counters := pushCount s.plan.log.length s.ev.counters } := by
  unfold pushLog pushed pushCount
  show (if 16 ≤ s.plan.log.length then _ else _) = _
  split <;> rfl

/-- What a finished record leaves (R78 to R80). -/
structure Finishes (w : WindowRecord) (st : Status) (s t : State) : Prop where
  books : Books s t
  plan : t.plan = { s.plan with
    window := s.plan.window.filter fun v => decide (v.body.id ≠ w.body.id)
    shiftTimer := if w.body.kind = .shift then none else s.plan.shiftTimer
    log := pushed s.plan.log (logEntryOf w (finalStatus w st) s.ev.time) }
  counters : t.ev.counters =
    countDone (completionCounter w.body.kind (finalStatus w st)) (pushCount s.plan.log.length s.ev.counters)
  notified : w.body.notify = true → hasEvent t.ev.pending .stepDone = true

theorem finishes_finishRecord (w : WindowRecord) (st : Status) (s : State) : Finishes w st s (finishRecord w st s) := by
  unfold finishRecord
  dsimp only
  have pushes := pushLog_eq (logEntryOf w (finalStatus w st) s.ev.time) (s.setPlan { s.plan with
    window := s.plan.window.filter fun v => decide (v.body.id ≠ w.body.id)
    shiftTimer := if w.body.kind = .shift then none else s.plan.shiftTimer })
  generalize pushLog (logEntryOf w (finalStatus w st) s.ev.time) (s.setPlan _) = logged at pushes ⊢
  have books : Books s logged := by rw [pushes]; exact ⟨rfl, fun _ => id⟩
  have told : let u := if w.body.notify then raise .stepDone logged else logged
      Books s u ∧ u.plan = logged.plan ∧ u.ev.counters = logged.ev.counters ∧
        (w.body.notify = true → hasEvent u.ev.pending .stepDone = true) := by
    cases w.body.notify with
    | false => exact ⟨books, rfl, rfl, nofun⟩
    | true =>
      obtain ⟨told, plan, counters⟩ := books_raise .stepDone logged
      exact ⟨books.trans told, plan, counters, fun _ => raise_pending ..⟩
  generalize (if w.body.notify then raise .stepDone logged else logged) = u at told ⊢
  obtain ⟨books, plan, counters, notified⟩ := told
  have planned : u.plan = _ := plan.trans (congrArg State.plan pushes)
  have counted : u.ev.counters = pushCount s.plan.log.length s.ev.counters := counters.trans (by rw [pushes]; rfl)
  cases counter : completionCounter w.body.kind (finalStatus w st) with
  | none => exact ⟨books, planned, by rw [counter]; exact counted, notified⟩
  | some k => exact ⟨books.trans (books_bump k u), planned, by rw [counter]; exact congrArg (Counters.bump k) counted, notified⟩

/-- A log at its room loses its oldest entry to a new one, and counts it (R80). -/
theorem Logged.push {es : List LogEntry} {e : LogEntry} (room : s.plan.log.length ≤ 16) (h : Logged s t es)
    (log : u.plan.log = pushed t.plan.log e)
    (counters : u.ev.counters.logOverwrites = (pushCount t.plan.log.length t.ev.counters).logOverwrites) : Logged s u (es ++ [e]) := by
  obtain ⟨entries, lost⟩ := h
  have length : t.plan.log.length = s.plan.log.length + es.length - (s.plan.log.length + es.length - 16) := by
    rw [entries, List.length_drop, List.length_append]
  refine ⟨?_, ?_⟩
  · rw [log, pushed]
    split
    case isTrue full =>
      rw [entries, List.drop_drop, ← List.drop_append_of_le_length (by simp; omega), List.append_assoc]
      congr 1
      simp
      omega
    case isFalse free =>
      have none : s.plan.log.length + es.length - 16 = 0 := by omega
      have noneStill : s.plan.log.length + (es ++ [e]).length - 16 = 0 := by simp; omega
      rw [entries, none, noneStill, List.drop_zero, List.drop_zero, List.append_assoc]
  · rw [counters, pushCount]
    split
    case isTrue full =>
      show t.ev.counters.logOverwrites + 1 = _
      have more : s.plan.log.length + (es ++ [e]).length - 16 = s.plan.log.length + es.length - 16 + 1 := by simp; omega
      rw [lost, more, add_assoc]
      congr 1
      rw [BitVec.ofNat_add]
      rfl
    case isFalse free =>
      have none : s.plan.log.length + es.length - 16 = 0 := by omega
      have noneStill : s.plan.log.length + (es ++ [e]).length - 16 = 0 := by simp; omega
      rw [lost, none, noneStill]

theorem Logged.nil (room : s.plan.log.length ≤ 16) (log : t.plan.log = s.plan.log)
    (counters : t.ev.counters.logOverwrites = s.ev.counters.logOverwrites) : Logged s t [] := by
  have none : s.plan.log.length + ([] : List LogEntry).length - 16 = 0 := by simp; omega
  rw [Logged, none, log, counters]
  simp

/-! ## Cancelling -/

/-- The window without the served records of a list. -/
def unserved (ws window : List WindowRecord) : List WindowRecord :=
  window.filter fun v => decide (∀ w ∈ ws, w.isWaiting = false → v.body.id ≠ w.body.id)

theorem unserved_cons_waiting {w : WindowRecord} {ws : List WindowRecord} (window : List WindowRecord) (waiting : w.isWaiting = true) :
    unserved (w :: ws) window = unserved ws window := by
  simp [unserved, waiting]

theorem unserved_cons_served {w : WindowRecord} {ws : List WindowRecord} (window : List WindowRecord) (served : w.isWaiting = false) :
    unserved (w :: ws) window = unserved ws (window.filter fun v => decide (v.body.id ≠ w.body.id)) := by
  simp only [unserved, List.filter_filter, List.forall_mem_cons, served, forall_const, Bool.decide_and]
  simp only [Bool.and_comm]

theorem nodup_window (nodup : (idsInPlan s).Nodup) : (s.plan.window.map fun w => w.body.id).Nodup :=
  (List.nodup_append.mp nodup).2.1

/-- Where no id stands twice, what remains of a window is what waits in it. -/
theorem unserved_self {window : List WindowRecord} (nodup : (window.map fun w => w.body.id).Nodup) :
    unserved window window = waitingOf window := by
  refine List.filter_congr fun v mem => decide_eq_decide.mpr ⟨fun left => ?_, fun waiting w there served same => ?_⟩
  · by_contra served
    exact left v mem (decide_eq_false served) rfl
  · have one := List.inj_on_of_nodup_map nodup mem there same
    rw [← one] at served
    exact of_decide_eq_false served waiting

theorem servedOf_cons {w : WindowRecord} {ws : List WindowRecord} :
    servedOf (w :: ws) = if w.isWaiting then servedOf ws else w :: servedOf ws := by
  by_cases waiting : w.cond = .waiting
  · simp [servedOf, WindowRecord.isWaiting, waiting]
  · simp [servedOf, WindowRecord.isWaiting, waiting]

/-- The served records of a list are cancelled one after another, with their log entries and STEP_DONEs, and count in no step
counter (R94). -/
structure Cancels (ws : List WindowRecord) (s t : State) : Prop where
  books : Books s t
  window : t.plan.window = unserved ws s.plan.window
  list : t.plan.list = s.plan.list
  state : t.plan.state = s.plan.state
  log : ∀ r es, r.plan.log.length ≤ 16 → Logged r s es → r.ev.time = s.ev.time →
    Logged r t (es ++ (servedOf ws).map fun w => entryOf r w .cancelled [])
  notified : ∀ w ∈ servedOf ws, w.body.notify = true → hasEvent t.ev.pending .stepDone = true
  counters : ∃ n, t.ev.counters = { s.ev.counters with logOverwrites := n }

/-- Cancelled, a record counts in no counter (R79). -/
theorem completionCounter_cancelled (k : RecordKind) : completionCounter k .cancelled = none := by cases k <;> rfl

theorem logEntryOf_cancelled (w : WindowRecord) (r : State) : logEntryOf w (finalStatus w .cancelled) r.ev.time = entryOf r w .cancelled [] := by
  have none : finalFootholds w .cancelled = [] := if_neg fun h => by rcases h.2 with h | h <;> cases h
  have kept : finalStatus w .cancelled = .cancelled := if_neg fun h => by cases h.1
  rw [kept, logEntryOf, none]
  rfl

theorem cancels_cancelRecords (ws : List WindowRecord) (s : State) : Cancels ws s (cancelRecords ws s) := by
  induction ws generalizing s with
  | nil =>
    refine ⟨.refl s, ?_, rfl, rfl, fun r es _ logged _ => ?_, fun w mem => absurd mem List.not_mem_nil, _, rfl⟩
    · simp [cancelRecords, unserved]
    · simpa [cancelRecords, servedOf] using logged
  | cons w rest ih =>
    unfold cancelRecords
    by_cases waiting : w.isWaiting = true
    · rw [if_pos waiting]
      obtain ⟨books, window, list, state, log, notified, counters⟩ := ih s
      refine ⟨books, by rw [window, unserved_cons_waiting _ waiting], list, state, ?_, ?_, counters⟩
      · rw [servedOf_cons, if_pos waiting]; exact log
      · rw [servedOf_cons, if_pos waiting]; exact notified
    · rw [if_neg waiting]
      have served : w.isWaiting = false := by simpa using waiting
      have finished := finishes_finishRecord w .cancelled s
      obtain ⟨books, window, list, state, log, notified, lost, counters⟩ := ih (finishRecord w .cancelled s)
      generalize finishRecord w .cancelled s = u at finished books window list state log notified counters ⊢
      have kept : finalStatus w .cancelled = .cancelled := if_neg fun h => by cases h.1
      have counted : u.ev.counters = pushCount s.plan.log.length s.ev.counters := by
        rw [finished.counters, kept, completionCounter_cancelled]
        rfl
      refine ⟨finished.books.trans books, ?_, ?_, ?_, ?_, ?_, lost, ?_⟩
      · rw [window, finished.plan, unserved_cons_served _ served]
      · rw [list, finished.plan]
      · rw [state, finished.plan]
      · intro r es room logged time
        have entered : u.plan.log = pushed s.plan.log (entryOf r w .cancelled []) := by
          rw [← logEntryOf_cancelled, time, finished.plan]
        have lost : u.ev.counters.logOverwrites = (pushCount s.plan.log.length s.ev.counters).logOverwrites := by rw [counted]
        have pushes := logged.push room entered lost
        rw [servedOf_cons, if_neg waiting, List.map_cons]
        have all := log r _ room pushes (time.trans finished.books.time.symm)
        rwa [List.append_assoc] at all
      · rw [servedOf_cons, if_neg waiting]
        intro v mem notify
        rcases List.mem_cons.mp mem with rfl | mem
        · exact books.flags _ (finished.notified notify)
        · exact notified v mem notify
      · rw [counters, counted, pushCount]
        split <;> rfl

/-! ## Withdrawal -/

/-- The grant queue without the requests of some records. -/
def unrequested (ws : List WindowRecord) (queue : List SwingRequest) : List SwingRequest :=
  queue.filter fun q => !((ws.map fun w => w.body.id).contains q.id)

theorem mem_unrequested {ws : List WindowRecord} {queue : List SwingRequest} {q : SwingRequest} :
    q ∈ unrequested ws queue ↔ q ∈ queue ∧ ∀ w ∈ ws, q.id ≠ w.body.id := by
  simp only [unrequested, List.mem_filter, Bool.not_eq_true', List.contains_eq_mem, decide_eq_false_iff_not, List.mem_map,
    not_exists, not_and, and_congr_right_iff]
  exact fun _ => forall₂_congr fun w _ => ⟨fun h same => h same.symm, fun h same => h same.symm⟩

/-- The pre-shift runs for one of some records. -/
def ownedBy (ws : List WindowRecord) (p : Preshift) : Prop := ∃ w ∈ ws, w.body.id = p.owner

/-- A withdrawal: what waits returns to the head of the list, its requests go, and its pre-shift stops with its legs held (R85,
R118). -/
structure Withdraws (s t : State) : Prop where
  plan : t.plan = { s.plan with
    window := servedOf s.plan.window, list := (waitingOf s.plan.window).map WindowRecord.body ++ s.plan.list }
  queue : t.bal.queue = unrequested (waitingOf s.plan.window) s.bal.queue
  bal : t.bal = { s.bal with queue := t.bal.queue, eval := t.bal.eval, preshift := t.bal.preshift }
  frame : t = (((s.setPlan t.plan).setBal t.bal).setLegs t.legs).setBus { s.bus with queue := t.bus.queue }
  keeps : (∀ p, s.bal.preshift = some p → ¬ ownedBy (waitingOf s.plan.window) p) →
    t.bal.preshift = s.bal.preshift ∧ t.legs = s.legs ∧ t.bus = s.bus
  stops : ∀ p, s.bal.preshift = some p → ownedBy (waitingOf s.plan.window) p →
    t.bal.preshift = none ∧ t.legs = (holdLegs p.legs s).legs ∧ t.bus = (holdLegs p.legs s).bus

theorem contains_ids (ws : List WindowRecord) (p : Preshift) :
    (ws.map fun w => w.body.id).contains p.owner = true ↔ ownedBy ws p := by
  simp [ownedBy]

/-- Holding legs does not look at the Balance Engine. -/
theorem holdLegs_setBal (ls : List Leg) (b : Balance) (s : State) : holdLegs ls (s.setBal b) = (holdLegs ls s).setBal b := by
  induction ls generalizing s with
  | nil => rfl
  | cons l rest ih =>
    have one : sendHold l (s.setBal b) = (sendHold l s).setBal b := by
      simp only [sendHold, handover_eq]
      rfl
    show holdLegs rest (sendHold l (s.setBal b)) = (holdLegs rest (sendHold l s)).setBal b
    rw [one, ih]

theorem holdLegs_frame (ls : List Leg) (s : State) :
    holdLegs ls s = (s.setLegs (holdLegs ls s).legs).setBus { s.bus with queue := (holdLegs ls s).bus.queue } := by
  induction ls generalizing s with
  | nil => rfl
  | cons l rest ih =>
    have one := (commands_sendHold l s).frame
    have more := ih (sendHold l s)
    show holdLegs rest (sendHold l s) = (s.setLegs (holdLegs rest (sendHold l s)).legs).setBus
      { s.bus with queue := (holdLegs rest (sendHold l s)).bus.queue }
    generalize sendHold l s = u at one more ⊢
    refine more.trans ?_
    generalize holdLegs rest u = v
    rw [one]
    rfl

theorem stopPreshift_of_not_owned {ws : List WindowRecord} (free : ∀ p, s.bal.preshift = some p → ¬ ownedBy ws p) :
    stopPreshift (ws.map fun w => w.body.id) s = s := by
  unfold stopPreshift
  cases running : s.bal.preshift with
  | none => rfl
  | some p => exact if_neg fun owned => free p running ((contains_ids ws p).mp owned)

theorem stopPreshift_of_owned {ws : List WindowRecord} {p : Preshift} (running : s.bal.preshift = some p) (owned : ownedBy ws p) :
    stopPreshift (ws.map fun w => w.body.id) s = (holdLegs p.legs s).setBal { s.bal with preshift := none } := by
  unfold stopPreshift
  rw [running, ← holdLegs_setBal]
  exact if_pos ((contains_ids ws p).mpr owned)

theorem filter_not_isWaiting (ws : List WindowRecord) : (ws.filter fun w => !w.isWaiting) = servedOf ws :=
  List.filter_congr fun w _ => by simp [WindowRecord.isWaiting]

theorem withdraws_withdrawWaiting (s : State) : Withdraws s (withdrawWaiting s) := by
  have same : withdrawWaiting s =
      let u := stopPreshift ((waitingOf s.plan.window).map fun w => w.body.id)
        (removeRequests ((waitingOf s.plan.window).map fun w => w.body.id) s)
      u.setPlan { u.plan with
        window := servedOf u.plan.window, list := (waitingOf s.plan.window).map WindowRecord.body ++ u.plan.list } := by
    simp only [← filter_not_isWaiting]
    rfl
  rw [same]
  by_cases owner : ∃ p, s.bal.preshift = some p ∧ ownedBy (waitingOf s.plan.window) p
  · obtain ⟨p, running, owned⟩ := owner
    have legs := holdLegs_frame p.legs s
    have stopped := stopPreshift_of_owned (s := removeRequests ((waitingOf s.plan.window).map fun w => w.body.id) s) running owned
    rw [stopped, removeRequests, holdLegs_setBal]
    generalize held : holdLegs p.legs s = u at legs ⊢
    refine ⟨?_, rfl, rfl, ?_, fun free => absurd owned (free p running), fun q runs _ => ?_⟩
    · rw [legs]; rfl
    · rw [legs]; rfl
    · obtain rfl : p = q := Option.some.inj (running.symm.trans runs)
      rw [held]
      exact ⟨rfl, rfl, rfl⟩
  · have free : ∀ p, s.bal.preshift = some p → ¬ ownedBy (waitingOf s.plan.window) p := fun p running owned => owner ⟨p, running, owned⟩
    have kept := stopPreshift_of_not_owned (s := removeRequests ((waitingOf s.plan.window).map fun w => w.body.id) s) free
    rw [kept]
    exact ⟨rfl, rfl, rfl, rfl, fun _ => ⟨rfl, rfl, rfl⟩, fun p running owned => absurd owned (free p running)⟩

end

end Sys2Proof.Machine
end

section
/-! RESETS AND TRANSMITTER. What the resets leave (R154 to R156), what raising an event does (R169), the tick (R1), the transmitter
(R164), and the requests that are only read or refused for their length (R162, R166, R167). -/

namespace Sys2Proof.Machine

/-! ## Resets -/

theorem hasEvent_zero (e : Event) : hasEvent 0 e = false := (eventSet_eq_zero_iff 0).mp rfl e

theorem hasEvent_allOnes (e : Event) : hasEvent (BitVec.allOnes 12) e = true := by cases e <;> rfl

/-- Settles O3: the values of `State.reset`, read off field by field. -/
theorem powerOnValues_hold : Obligations.PowerOnValues := by
  unfold Obligations.PowerOnValues
  refine ⟨fun rate0 rate1 flip s => rfl, rfl, rfl, rfl, rfl, ?_, rfl, ?_, rfl, rfl, rfl, rfl, rfl, rfl, rfl, rfl, ?_, rfl, rfl, ?_, rfl,
    rfl, rfl, rfl, rfl, rfl, rfl, rfl, rfl, rfl, rfl, ?_, rfl, rfl, rfl⟩
  · intro l; cases l <;> rfl
  · intro l; cases l <;> rfl
  · intro l; cases l <;> exact ⟨rfl, rfl, rfl, rfl, rfl, rfl, rfl, rfl, rfl⟩
  · intro l; cases l <;> exact ⟨rfl, rfl⟩
  · exact fun e => ⟨hasEvent_zero e, hasEvent_allOnes e⟩

section
variable {s : State} {f : Frame} {rest : List Frame}

/-- A RESET of one byte is taken by either of its rows whose own scope it does not spell whole (log 3). -/
theorem isResetBut_singleton {scope : Nat} {b : Byte} (kind : f.kind = 0x23#8) (payload : f.payload = [b]) (other : b.toNat ≠ scope) :
    isResetBut scope f = true := by
  simp [isResetBut, isKind, kind, payload, u8At, other]

theorem answerReset_of_scope {b : Byte} (payload : f.payload = [b]) (s : State) :
    answerReset f s = match b.toNat with
      | 0 => ⟨.ok, [], s, true⟩
      | 1 => if s.sup.mode = .parked then okWith [] (motionReset s) else refuse .wrongMode s
      | _ => refuse .badValue s := by
  unfold answerReset
  rw [withLen_of_length (by rw [payload]; rfl), payload]
  rfl

/-- A scope that spells neither reset is refused by either row (log 3). -/
theorem serve_reset_of_badScope {scope : Nat} {b : Byte} (taking : Taking s f rest) (kind : f.kind = 0x23#8) (payload : f.payload = [b])
    (other : b.toNat ≠ scope) (notFull : b ≠ 0#8) (notMotion : b ≠ 1#8) :
    serve (isResetBut scope) answerReset s = s.replied rest (replyTo f .badValue []) := by
  rw [serve_of_taking taking (isResetBut_singleton kind payload other), answerReset_of_scope payload]
  have zero : b.toNat ≠ 0 := fun h => notFull (BitVec.eq_of_toNat_eq h)
  have one : b.toNat ≠ 1 := fun h => notMotion (BitVec.eq_of_toNat_eq h)
  split
  · exact absurd ‹_› zero
  · exact absurd ‹_› one
  · exact queueReply_refuse ..

theorem serve_resetMotion (taking : Taking s f rest) (kind : f.kind = 0x23#8) (payload : f.payload = [1#8]) :
    serve (isResetBut 0) answerReset s =
      if s.sup.mode = .parked then queueReply f (okWith [] (motionReset (s.setLink { s.link with buffer := rest })))
      else s.replied rest (replyTo f .wrongMode []) := by
  rw [serve_of_taking taking (isResetBut_singleton kind payload (by decide)), answerReset_of_scope payload]
  show queueReply f (if s.sup.mode = .parked then _ else _) = _
  split
  · rfl
  · exact queueReply_refuse ..

/-- Settles O4: by the scope byte and the mode. -/
theorem resetRequests : Obligations.ResetRequests := by
  unfold Obligations.ResetRequests
  intro s f rest taking kind
  refine ⟨fun full => ?_, fun motion mode => ?_, fun motion mode => ?_, fun b payload notFull notMotion => ⟨?_, ?_⟩⟩
  · show Host.Outcome.next (serve (isResetBut 1) answerReset s) = _
    rw [serve_of_taking taking (isResetBut_singleton kind full (by decide)), answerReset_of_scope full]
    simp [queueReply_eq, replyTo, State.setLink]
  · show Host.Outcome.next (serve (isResetBut 0) answerReset s) = _
    rw [serve_resetMotion taking kind motion, if_neg mode]
  · show Host.Outcome.next (serve (isResetBut 0) answerReset s) = _
    rw [serve_resetMotion taking kind motion, if_pos mode, queueReply_okWith]
    rfl
  · show Host.Outcome.next (serve (isResetBut 1) answerReset s) = _
    rw [serve_reset_of_badScope (scope := 1) taking kind payload (fun h => notMotion (BitVec.eq_of_toNat_eq h)) notFull notMotion]
  · show Host.Outcome.next (serve (isResetBut 0) answerReset s) = _
    rw [serve_reset_of_badScope (scope := 0) taking kind payload (fun h => notFull (BitVec.eq_of_toNat_eq h)) notFull notMotion]

end

/-- Settles O5: at power-on nothing is in the plan, the queues, the support set and the timers. -/
theorem resetMeetsEveryInvariant : Obligations.ResetMeetsEveryInvariant := by
  unfold Obligations.ResetMeetsEveryInvariant
  have stands : PlanStands State.reset := fun runs => absurd runs (by decide)
  have motions : ∀ l, (State.reset.legs.get l).motion = none := fun l => by cases l <;> rfl
  have noRecord : ∀ {p : WindowRecord → Prop}, ∀ w ∈ State.reset.plan.window, p w := fun w mem => absurd mem List.not_mem_nil
  refine ⟨stands, fun latch => absurd latch (by decide), fun l => by cases l <;> decide, ⟨by decide, by decide, .nil⟩,
    ⟨by decide, by decide, by decide, .inl ⟨rfl, rfl⟩⟩, fun l => by cases l <;> decide,
    ⟨by decide, fun l moves => absurd (motions l) moves, fun e running => ?_⟩, fun e running => ?_,
    ⟨fun q mem => absurd mem List.not_mem_nil, noRecord, .nil, .nil, stands, fun _ => rfl, fun l moves => absurd (motions l) moves⟩,
    ⟨stands, fun _ => rfl, fun held => absurd held (by decide)⟩, fun overflow => absurd overflow (by decide),
    ⟨?_, fun c => ?_, ?_, ?_, .inl rfl, by decide, fun l => ?_⟩, fun waits => absurd waits (by decide),
    ⟨noRecord, fun _ l steps => ?_⟩, fun r rest listed => ?_⟩
  · exact absurd running (Option.some_ne_none e).symm
  · exact absurd running (Option.some_ne_none e).symm
  · exact (geometryOk_iff _).mp (by decide)
  · exact (classRecordOk_iff _).mp (by cases c <;> decide)
  · exact (balanceCfgOk_iff _).mp (by decide)
  · exact (gaitCfgOk_iff _).mp (by decide)
  · cases l <;> decide
  · rw [motions l] at steps
    exact absurd steps (Option.some_ne_none _).symm
  · exact absurd listed (List.cons_ne_nil r rest).symm

/-! ## Events -/

theorem requestNotice_of_waiting {s : State} (waits : .notice ∈ s.link.tx) : requestNotice s = s :=
  if_pos ((any_isNotice_iff s.link.tx).mpr waits)

theorem requestNotice_of_none {s : State} (none : ∀ i ∈ s.link.tx, i ≠ .notice) :
    requestNotice s = s.setLink { s.link with tx := s.link.tx ++ [.notice] } :=
  if_neg fun waits => none .notice ((any_isNotice_iff s.link.tx).mp waits) rfl

theorem raise_of_pending {e : Event} {s : State} (set : hasEvent s.ev.pending e = true) : raise e s = s := if_pos set

theorem raise_of_clear {e : Event} {s : State} (clear : hasEvent s.ev.pending e = false) :
    raise e s = if hasEvent s.ev.mask e then s.setEv { s.ev with pending := s.ev.pending ||| onlyEvent e }
      else requestNotice (s.setEv { s.ev with pending := s.ev.pending ||| onlyEvent e }) :=
  if_neg (by rw [clear]; nofun)

/-- Settles O6: by whether the flag is set, the kind masked, and a notice waiting. -/
theorem raisingAnEvent : Obligations.RaisingAnEvent := by
  unfold Obligations.RaisingAnEvent
  refine fun e s => ⟨raise_of_pending, fun clear => ?_⟩
  have flags : ∀ k, hasEvent (s.ev.pending ||| onlyEvent e) k = (hasEvent s.ev.pending k || decide (k = e)) := fun k => by
    rw [hasEvent_or, decide_eq_decide.mpr (eq_comm (a := k) (b := e))]
  rw [raise_of_clear clear]
  cases masked : hasEvent s.ev.mask e with
  | true =>
    exact ⟨rfl, flags, nofun, fun _ => rfl, rfl⟩
  | false =>
    by_cases waits : TxItem.notice ∈ s.link.tx
    · rw [if_neg Bool.false_ne_true, requestNotice_of_waiting (s := s.setEv { s.ev with pending := s.ev.pending ||| onlyEvent e }) waits]
      exact ⟨rfl, flags, fun _ free => absurd rfl (free _ waits), fun _ => rfl, rfl⟩
    · have free : ∀ i ∈ s.link.tx, i ≠ .notice := fun i mem same => waits (same ▸ mem)
      rw [if_neg Bool.false_ne_true, requestNotice_of_none (s := s.setEv { s.ev with pending := s.ev.pending ||| onlyEvent e }) free]
      exact ⟨rfl, flags, fun _ _ => rfl, fun h => (h.elim nofun (absurd · waits)), rfl⟩

/-! ## The tick -/

/-- Settles O11: the tick, timer by timer. -/
theorem tickAdvancesTheTimeBase : Obligations.TickAdvancesTheTimeBase := by
  unfold Obligations.TickAdvancesTheTimeBase
  refine fun s => ⟨tick s, rfl, ?_, rfl, rfl, rfl, rfl, rfl, ?_, rfl, rfl, rfl, rfl, rfl, rfl, rfl⟩
  · have next : s.ev.time + 1 = BitVec.ofNat 32 (s.ev.time.toNat + 1) := by
      rw [BitVec.ofNat_add, BitVec.ofNat_toNat, BitVec.setWidth_eq]
      rfl
    show { s.ev with time := s.ev.time + 1 } = _
    rw [next]
  · intro l
    cases l <;> exact ⟨rfl, rfl, rfl⟩

/-! ## The transmitter -/

/-- Settles O15: by what stands at the head of the transmit queue, and by the mark of the frame being sent. -/
theorem transmitterSends : Obligations.TransmitterSends := by
  unfold Obligations.TransmitterSends
  intro s
  refine ⟨fun f full rest idle head => ?_, fun rest idle head unmasked => ?_, fun rest idle head masked => ?_, fun f busy => ?_,
    fun bytes sent => ?_, fun bytes sent => ?_⟩
  · show Host.Outcome.next (frameSendStart s) = _
    simp only [frameSendStart, idle, head]
  · show Host.Outcome.next (frameSendStart s) = _
    simp only [frameSendStart, idle, head]
    exact congrArg _ (if_neg unmasked)
  · show Host.Outcome.next (frameSendStart s) = _
    simp only [frameSendStart, idle, head]
    exact congrArg _ (if_pos masked)
  · show Host.Outcome.next (frameSendStart s) = _
    simp only [frameSendStart, busy]
  · show Host.Outcome.next (frameSendEnd s) = _
    simp only [frameSendEnd, sent]
    rfl
  · show Host.Outcome.next (frameSendEnd s) = _
    simp only [frameSendEnd, sent]
    rfl

/-! ## Requests that are only read, and requests of a wrong length -/

section
variable {s : State} {f : Frame} {rest : List Frame} {wanted : Frame → Bool} {carryOut : Frame → State → Answer} {n : Nat}

/-- A refused plan request leaves only its reply, with the plan state and the count (R163). -/
theorem queueReply_refusePlan (f : Frame) (rest : List Frame) (r : Result) (s : State) :
    queueReply f (refusePlan r (s.setLink { s.link with buffer := rest })) = s.replied rest (replyTo f r (planFields s)) := by
  simp [queueReply_eq, refusePlan, replyTo, State.replied, State.setLink, planFields]

/-- A request that is checked for its length first is refused for it (R162). -/
theorem serve_of_badLength (taking : Taking s f rest) (wants : wanted f = true) (wrong : f.payload.length ≠ n)
    (checks : ∀ t, ∃ a, carryOut f t = withLen n f t a) :
    serve wanted carryOut s = s.replied rest (replyTo f .badLength []) := by
  obtain ⟨a, carried⟩ := checks (s.setLink { s.link with buffer := rest })
  rw [serve_of_taking taking wants, carried, withLen, if_neg wrong, queueReply_refuse]

theorem serve_of_badPlanLength (taking : Taking s f rest) (wants : wanted f = true) (wrong : f.payload.length ≠ n)
    (checks : ∀ t, ∃ a, carryOut f t = withPlanLen n f t a) :
    serve wanted carryOut s = s.replied rest (replyTo f .badLength (planFields s)) := by
  obtain ⟨a, carried⟩ := checks (s.setLink { s.link with buffer := rest })
  rw [serve_of_taking taking wants, carried, withPlanLen, if_neg wrong, queueReply_refusePlan]

theorem isKind_of_eq {k : Byte} (kind : f.kind = k) : isKind k f = true := decide_eq_true kind

theorem isResetBut_of_badLength (scope : Nat) (kind : f.kind = 0x23#8) (wrong : f.payload.length ≠ 1) : isResetBut scope f = true := by
  simp [isResetBut, isKind, kind, wrong]

/-- Settles O16: each request by its kind and its length. -/
theorem readingAndMalformedRequests : Obligations.ReadingAndMalformedRequests := by
  unfold Obligations.ReadingAndMalformedRequests
  intro s f rest taking
  refine ⟨fun unknown => ?_, fun kind empty => ?_, fun kind empty => ?_, rfl, fun c k n mem kind wrong => ?_,
    fun c k n mem kind wrong => ?_, fun kind wrong => ?_⟩
  · show Host.Outcome.next (serve _ answerUnknownKind s) = _
    rw [serve_of_taking taking (by simpa using unknown), answerUnknownKind, queueReply_refuse]
  · show Host.Outcome.next (serve (isKind 0x01#8) answerPing s) = _
    rw [serve_eq_replied taking kind (t := s) (withLen_of_length (by rw [empty]; rfl) _ _)]
    rfl
  · show Host.Outcome.next (serve (isKind 0x02#8) answerStatus s) = _
    rw [serve_eq_replied taking kind (t := s) (withLen_of_length (by rw [empty]; rfl) _ _)]
    rfl
  · simp only [List.mem_cons, Prod.mk.injEq, List.not_mem_nil, or_false] at mem
    rcases mem with ⟨rfl, rfl, rfl⟩ | ⟨rfl, rfl, rfl⟩ | ⟨rfl, rfl, rfl⟩ | ⟨rfl, rfl, rfl⟩ | ⟨rfl, rfl, rfl⟩ | ⟨rfl, rfl, rfl⟩ |
      ⟨rfl, rfl, rfl⟩ | ⟨rfl, rfl, rfl⟩ | ⟨rfl, rfl, rfl⟩ | ⟨rfl, rfl, rfl⟩ | ⟨rfl, rfl, rfl⟩ | ⟨rfl, rfl, rfl⟩ |
      ⟨rfl, rfl, rfl⟩ | ⟨rfl, rfl, rfl⟩ | ⟨rfl, rfl, rfl⟩ | ⟨rfl, rfl, rfl⟩ | ⟨rfl, rfl, rfl⟩ | ⟨rfl, rfl, rfl⟩
    case inr.inr.inr.inr.inr.inr.inr.inr.inr.inr.inl =>
      exact congrArg _ (serve_of_badLength taking (isResetBut_of_badLength 1 kind wrong) wrong fun _ => ⟨_, rfl⟩)
    case inr.inr.inr.inr.inr.inr.inr.inr.inr.inr.inr.inl =>
      exact congrArg _ (serve_of_badLength taking (isResetBut_of_badLength 0 kind wrong) wrong fun _ => ⟨_, rfl⟩)
    all_goals exact congrArg _ (serve_of_badLength taking (isKind_of_eq kind) wrong fun _ => ⟨_, rfl⟩)
  · simp only [List.mem_cons, Prod.mk.injEq, List.not_mem_nil, or_false] at mem
    rcases mem with ⟨rfl, rfl, rfl⟩ | ⟨rfl, rfl, rfl⟩ | ⟨rfl, rfl, rfl⟩ | ⟨rfl, rfl, rfl⟩ | ⟨rfl, rfl, rfl⟩ | ⟨rfl, rfl, rfl⟩
    all_goals exact congrArg _ (serve_of_badPlanLength taking (isKind_of_eq kind) wrong fun _ => ⟨_, rfl⟩)
  · show Host.Outcome.next (serve (isKind 0x30#8) answerPlanAppend s) = _
    have length : ¬ (f.payload.length % 12 = 0 ∧ 1 ≤ f.payload.length / 12 ∧ f.payload.length / 12 ≤ 4) := by
      simp only [List.mem_cons, List.not_mem_nil, or_false] at wrong
      omega
    have refused : ∀ t, answerPlanAppend f t = refusePlan .badLength t := fun t => if_neg length
    rw [serve_of_taking taking (isKind_of_eq kind), refused, queueReply_refusePlan]
    rfl

end

end Sys2Proof.Machine
end

section
/-! LAYOUTS. The part's writers in the spelling of the manual, least significant byte first (R2, R176), and what they lay out: the
replies (R178, R179) and the bus requests (R180). -/

namespace Sys2Proof.Machine

theorem leBytes_one (n : Nat) : leBytes 1 n = put8 n := by simp [leBytes, put8]

theorem leBytes_two (n : Nat) : leBytes 2 n = put16 n := by simp [leBytes, put16, List.range_succ]

theorem leBytes_four (w : Word) : leBytes 4 w.toNat = put32 w := by
  have low : (BitVec.ofNat 8 (w.toNat % 65536)) = BitVec.ofNat 8 w.toNat := by
    apply BitVec.eq_of_toNat_eq; simp only [BitVec.toNat_ofNat]; omega
  have high : (BitVec.ofNat 8 (w.toNat % 65536 / 256)) = BitVec.ofNat 8 (w.toNat / 256) := by
    apply BitVec.eq_of_toNat_eq; simp only [BitVec.toNat_ofNat]; omega
  simp [leBytes, put32, put16, List.range_succ, low, high, Nat.div_div_eq_div_mul]

theorem leSigned_eq (v : Int) : leSigned v = putI16 v := by
  rw [leSigned, putI16, leBytes_two, BitVec.toNat_ofInt]
  rfl

theorem Mode.code_eq (m : Mode) : m.code = ([.parked, .rising, .standing, .settling, .safeHold] : List Mode).idxOf m := by
  cases m <;> rfl

theorem PlanState.code_eq (p : PlanState) :
    p.code = ([.idle, .active, .draining, .suspended, .braced] : List PlanState).idxOf p := by cases p <;> rfl

theorem RecordKind.code_eq (k : RecordKind) : k.code = ([.step, .pair, .shift] : List RecordKind).idxOf k := by cases k <;> rfl

theorem Status.code_eq (st : Status) :
    st.code = ([.ok, .clamped, .missed, .snagged, .unstable, .braced, .stalled, .cancelled] : List Status).idxOf st := by
  cases st <;> rfl

theorem SurfaceClass.code_eq (c : SurfaceClass) :
    c.code = ([.grating, .chequer, .tread, .dusted, .unsurveyed] : List SurfaceClass).idxOf c := by cases c <;> rfl

theorem Phase.code_eq (p : Phase) : p.code = ([.folded, .posture, .stance, .lift, .swing, .reach] : List Phase).idxOf p := by
  cases p <;> rfl

theorem Contact.code_eq (c : Contact) : c.code = ([.air, .touch, .loaded, .slipping, .fault] : List Contact).idxOf c := by
  cases c <;> rfl

theorem LinkState.code_eq (k : LinkState) : k.code = ([.online, .suspect, .lost] : List LinkState).idxOf k := by cases k <;> rfl

theorem DriveState.code_eq (d : DriveState) : d.code = ([.ready, .moving, .atLimit, .hot, .fault] : List DriveState).idxOf d := by
  cases d <;> rfl

theorem FaultKind.code_eq (k : FaultKind) :
    k.code = ([.driveLost, .driveFault, .loadSensor, .attitudeLost, .supportLost, .riseFailed, .settleFailed] :
      List FaultKind).idxOf k := by cases k <;> rfl

theorem Leg.index_eq (l : Leg) : Leg.index l = ([.fl, .fr, .rl, .rr] : List Leg).idxOf l := by cases l <;> rfl

theorem legSetCode_eq (legs : List Leg) :
    legSetCode legs = (legs.map fun l => 2 ^ ([.fl, .fr, .rl, .rr] : List Leg).idxOf l).sum := by
  simp only [legSetCode, Leg.index_eq]
  exact List.sum_eq_foldr.symm

theorem flagBit_eq (n : Nat) (b : Bool) : flagBit n b = if b then 2 ^ n else 0 := rfl

theorem putVec_eq (v : Vec3) : putVec v = leSigned v.x ++ leSigned v.y ++ leSigned v.z := by simp only [leSigned_eq, putVec]

theorem faultBlock_of_none {s : State} (empty : s.ev.fault = none) :
    faultBlock s = put8 (flagBit 0 s.ev.fault.isSome + flagBit 1 s.ev.overflow) ++ put8 0 ++ put8 255 ++ put8 0 ++ put16 0 ++ put32 0 := by
  simp only [faultBlock, empty]

theorem faultBlock_of_some {s : State} {r : FaultRecord} (held : s.ev.fault = some r) :
    faultBlock s = put8 (flagBit 0 s.ev.fault.isSome + flagBit 1 s.ev.overflow) ++ put8 r.kind.code ++
      put8 (r.leg.elim 255 Leg.index) ++ put8 r.mode.code ++ put16 (r.oldest.getD 0) ++ put32 r.time := by
  rw [faultBlock, held]
  obtain ⟨kind, leg, mode, oldest, time⟩ := r
  cases leg <;> rfl

/-- Settles O17: each layout through the writers of its fields. -/
theorem repliesAreLaidOut : Obligations.RepliesAreLaidOut := by
  unfold Obligations.RepliesAreLaidOut
  refine ⟨Mode.code_eq, PlanState.code_eq, fun s e => ⟨fun empty => ?_, fun r held => ?_, ?_, ?_, ?_⟩⟩
  · rw [faultBlock_of_none empty, leBytes_one]
    rfl
  · rw [faultBlock_of_some held]
    cases r.leg with
    | none => simp only [leBytes_one, leBytes_two, leBytes_four, FaultKind.code_eq, flagBit_eq, Option.elim]
    | some l => simp only [leBytes_one, leBytes_two, leBytes_four, FaultKind.code_eq, Leg.index_eq, flagBit_eq, Option.elim]
  · simp only [leBytes_four]
    rfl
  · simp only [logEntryBytes, leBytes_one, leBytes_two, leBytes_four, RecordKind.code_eq, Status.code_eq, legSetCode_eq, putVec_eq]
    rfl
  · simp only [statusFields, legsInOrder, legBlock, windowId, leBytes_one, leBytes_two, leBytes_four, leSigned_eq, Phase.code_eq,
      Contact.code_eq, SurfaceClass.code_eq, LinkState.code_eq, flagBit_eq, List.map_cons, List.map_nil, List.flatten_cons,
      List.flatten_nil, List.append_nil, List.append_assoc, putVec, DriveState.code_eq,
      eventSetBytes] <;>
    rfl

/-! ## The bus -/

/-- The request of a transaction, its check high byte first (R126, R180). -/
theorem requestFrame_eq (x : Txn) : requestFrame x = requestFields x ++
    [BitVec.ofNat 8 ((crc16 (requestFields x)).toNat / 256), BitVec.ofNat 8 (crc16 (requestFields x)).toNat] := rfl

theorem requestFields_setpoint {x : Txn} {v : Vec3} {speed : Nat} {hold : Bool} (op : x.op = .setpoint v speed hold) :
    requestFields x = leBytes 1 (([.fl, .fr, .rl, .rr] : List Leg).idxOf x.leg) ++
      ([0x01#8] ++ leSigned v.x ++ leSigned v.y ++ leSigned v.z ++ leBytes 2 speed ++ [if hold then 0x01#8 else 0x00#8]) := by
  have flag : put8 (flagBit 0 hold) = [if hold then 0x01#8 else 0x00#8] := by cases hold <;> rfl
  simp only [requestFields, op, flag, leBytes_one, leBytes_two, Leg.index_eq, putVec_eq, List.append_assoc]
  rfl

theorem requestFields_poll {x : Txn} (op : x.op = .poll) :
    requestFields x = leBytes 1 (([.fl, .fr, .rl, .rr] : List Leg).idxOf x.leg) ++
      [0x02#8, 0x00#8, 0x00#8, 0x00#8, 0x00#8, 0x00#8, 0x00#8, 0x00#8, 0x00#8, 0x00#8] := by
  simp only [requestFields, op, leBytes_one, Leg.index_eq, List.append_assoc]
  rfl

theorem busByte_of_closed {s : State} (closed : ∀ x n got, s.bus.line ≠ .window x n got) (b : Byte) : busByte b s = s := by
  unfold busByte
  cases line : s.bus.line with
  | window x n got => exact absurd line (closed x n got)
  | idle => rfl
  | sending x bytes => rfl
  | guard n => rfl

theorem driveReply_of_closed {s : State} (closed : ∀ x n got, s.bus.line ≠ .window x n got) (bytes : List Byte) :
    driveReply bytes s = s := by
  induction bytes with
  | nil => rfl
  | cons b rest ih => rw [driveReply, busByte_of_closed closed, ih]

theorem driveReplyTimeout_of_closed {s : State} (closed : ∀ x n got, s.bus.line ≠ .window x n got) : driveReplyTimeout s = s := by
  unfold driveReplyTimeout
  cases line : s.bus.line with
  | window x n got => exact absurd line (closed x n got)
  | idle => rfl
  | sending x bytes => rfl
  | guard n => rfl

theorem inFlightFor_iff (l : Leg) (b : BusLine) :
    inFlightFor l b = true ↔ (∃ x bytes, b = .sending x bytes ∧ x.leg = l) ∨ ∃ x n got, b = .window x n got ∧ x.leg = l := by
  cases b <;> simp [inFlightFor]

/-- A transaction for a drive is queued or in flight (R130). -/
def Engaged (l : Leg) (s : State) : Prop :=
  (∃ x ∈ s.bus.queue, x.leg = l) ∨ (∃ x bytes, s.bus.line = .sending x bytes ∧ x.leg = l) ∨
    ∃ x n got, s.bus.line = .window x n got ∧ x.leg = l

theorem engaged_iff (l : Leg) (s : State) :
    (s.bus.queue.any (fun t => decide (t.leg = l)) || inFlightFor l s.bus.line) = true ↔ Engaged l s := by
  simp only [Bool.or_eq_true, inFlightFor_iff, List.any_eq_true, decide_eq_true_iff, Engaged]

theorem pollDrive_of_engaged {l : Leg} {s : State} (busy : Engaged l s) :
    pollDrive l s = s.setBus { s.bus with drives := s.bus.drives.set l { s.bus.drives.get l with poll := 5 } } :=
  if_pos ((engaged_iff l s).mpr busy)

theorem pollDrive_of_free {l : Leg} {s : State} (free : ¬ Engaged l s) :
    pollDrive l s = s.setBus { s.bus with
      drives := s.bus.drives.set l { s.bus.drives.get l with poll := 5 }, queue := s.bus.queue ++ [⟨l, .poll⟩] } :=
  if_neg fun busy => free ((engaged_iff l s).mp busy)

theorem pollTimerExpiry_of_out {l : Leg} {s : State} (out : (s.bus.drives.get l).poll = 0) : pollTimerExpiry l s = pollDrive l s :=
  if_pos (by simp [ranOut, out])

theorem isSetpointFor_iff (l : Leg) (x : Txn) : x.isSetpointFor l = true ↔ x.leg = l ∧ x.op ≠ .poll := by
  unfold Txn.isSetpointFor
  cases x.op <;> simp

theorem isSetpointFor_of_poll {l : Leg} {x : Txn} (poll : x.leg = l → x.op = .poll) : ¬ x.isSetpointFor l = true := fun waits => by
  obtain ⟨leg, setpoint⟩ := (isSetpointFor_iff l x).mp waits
  exact setpoint (poll leg)

/-- A setpoint replaces the one that waits for its drive in its place (R129). -/
theorem handover_of_coalesced {l : Leg} {ahead behind : List Txn} {old : Op} {s : State} (awake : s.sup.mode ≠ .parked)
    (queue : s.bus.queue = ahead ++ ⟨l, old⟩ :: behind) (setpoint : old ≠ .poll)
    (single : ∀ x ∈ ahead ++ behind, x.leg = l → x.op = .poll) (v : Vec3) (speed : Nat) (hold : Bool) :
    handover l v speed hold s = s.setBus { s.bus with queue := ahead ++ ⟨l, .setpoint v speed hold⟩ :: behind } := by
  have waits : (⟨l, old⟩ : Txn).isSetpointFor l = true := (isSetpointFor_iff l _).mpr ⟨rfl, setpoint⟩
  have others : ∀ x ∈ ahead ++ behind, (if x.isSetpointFor l then (⟨l, .setpoint v speed hold⟩ : Txn) else x) = x :=
    fun x mem => if_neg (isSetpointFor_of_poll (single x mem))
  have any : s.bus.queue.any (Txn.isSetpointFor l) = true :=
    List.any_eq_true.mpr ⟨_, by rw [queue]; exact List.mem_append_right _ List.mem_cons_self, waits⟩
  have front := List.map_congr_left fun x mem => others x (List.mem_append_left _ mem)
  have back := List.map_congr_left fun x mem => others x (List.mem_append_right _ mem)
  rw [List.map_id'] at front back
  rw [handover_eq, handed, if_neg awake, if_pos any, queue, List.map_append, List.map_cons, if_pos waits, front, back]

theorem handover_of_none {l : Leg} {s : State} (awake : s.sup.mode ≠ .parked)
    (none : ∀ x ∈ s.bus.queue, x.leg = l → x.op = .poll) (v : Vec3) (speed : Nat) (hold : Bool) :
    handover l v speed hold s = s.setBus { s.bus with queue := s.bus.queue ++ [⟨l, .setpoint v speed hold⟩] } := by
  have any : ¬ s.bus.queue.any (Txn.isSetpointFor l) = true := fun waits => by
    obtain ⟨x, mem, setpoint⟩ := List.any_eq_true.mp waits
    exact isSetpointFor_of_poll (none x mem) setpoint
  rw [handover_eq, handed, if_neg awake, if_neg any]

theorem driveTransactionSend_of_blocked {s : State} (blocked : s.bus.line ≠ .idle ∨ s.bus.queue = []) :
    driveTransactionSend s = s := by
  unfold driveTransactionSend
  split
  case h_1 x rest idle queue =>
    rcases blocked with busy | empty
    · exact absurd idle busy
    · rw [empty] at queue
      exact absurd queue (List.cons_ne_nil x rest).symm
  case h_2 => rfl

/-- Settles O57: each command by what the line is doing. -/
theorem busTransactions : Obligations.BusTransactions := by
  unfold Obligations.BusTransactions
  refine ⟨fun x => ?_, fun s l => ⟨fun x rest idle queue => ?_, fun blocked => ?_, fun x bytes sending => ?_, fun other => ?_,
    fun n guards => ?_, fun other => ?_, fun closed => ⟨fun bytes => ?_, ?_⟩, fun poll => ?_, fun out busy => ?_, fun out free => ?_⟩,
    fun l v speed hold s => ⟨fun parked => if_pos parked, fun awake => ⟨fun ahead old behind queue setpoint single => ?_,
      fun none => handover_of_none awake none v speed hold⟩⟩⟩
  · cases op : x.op with
    | setpoint v speed hold => exact (requestFields_setpoint op) ▸ requestFrame_eq x
    | poll => exact (requestFields_poll op) ▸ requestFrame_eq x
  · show Host.Outcome.next (driveTransactionSend s) = _
    simp only [driveTransactionSend, idle, queue]
  · exact congrArg _ (driveTransactionSend_of_blocked blocked)
  · show Host.Outcome.next (driveRequestSent s) = _
    simp only [driveRequestSent, sending]
    rfl
  · show Host.Outcome.next (driveRequestSent s) = _
    cases line : s.bus.line with
    | sending x bytes => exact absurd line (other x bytes)
    | idle => simp only [driveRequestSent, line]
    | window x n got => simp only [driveRequestSent, line]
    | guard n => simp only [driveRequestSent, line]
  · show Host.Outcome.next (guardEnd s) = _
    simp only [guardEnd, guards]
    rfl
  · show Host.Outcome.next (guardEnd s) = _
    cases line : s.bus.line with
    | guard n => exact absurd line (other n)
    | idle => simp only [guardEnd, line]
    | window x n got => simp only [guardEnd, line]
    | sending x bytes => simp only [guardEnd, line]
  · exact congrArg _ (driveReply_of_closed closed bytes)
  · exact congrArg _ (driveReplyTimeout_of_closed closed)
  · exact congrArg _ (if_neg fun out => poll (by simpa [ranOut] using out))
  · exact congrArg _ ((pollTimerExpiry_of_out out).trans (pollDrive_of_engaged busy))
  · exact congrArg _ ((pollTimerExpiry_of_out out).trans (pollDrive_of_free free))
  · exact handover_of_coalesced awake queue setpoint single v speed hold

end Sys2Proof.Machine
end

section
/-! DECODERS. The fields of a payload read back what is written into them (R2, R176), and the bytes of a payload are the writing of
what is read from them. Both directions serve the drive replies (R180), the plan records (R178) and the configuration records (R177). -/

namespace Sys2Proof.Machine

/-! ## Fields -/

theorem byte_pair (n : Nat) (fits : n < 65536) : (BitVec.ofNat 8 n).toNat + 256 * (BitVec.ofNat 8 (n / 256)).toNat = n := by
  simp only [BitVec.toNat_ofNat]
  omega

/-- A field of two bytes reads what was put there. -/
theorem u16At_put16 {n : Nat} (fits : n < 65536) : u16At (put16 n) 0 = n := byte_pair n fits

theorem i16At_putI16 {v : Int} (fits : fits16 v) : i16At (putI16 v) 0 = v := by
  obtain ⟨low, high⟩ := fits
  have field : u16At (putI16 v) 0 = (BitVec.ofInt 16 v).toNat := u16At_put16 (BitVec.ofInt 16 v).isLt
  rw [i16At, field, BitVec.ofNat_toNat, BitVec.setWidth_eq, BitVec.toInt_ofInt]
  exact Int.bmod_eq_of_le (by omega) (by omega)

theorem put8_u8At (p : List Byte) (i : Nat) : put8 (u8At p i) = [p.getD i 0] := by
  rw [put8, u8At, BitVec.ofNat_toNat, BitVec.setWidth_eq]

theorem put16_u16At (p : List Byte) (i : Nat) : put16 (u16At p i) = [p.getD i 0, p.getD (i + 1) 0] := by
  have low := (p.getD i 0).isLt
  have first : BitVec.ofNat 8 (u16At p i) = p.getD i 0 := by
    apply BitVec.eq_of_toNat_eq
    simp only [BitVec.toNat_ofNat, u16At, u8At]
    omega
  have second : BitVec.ofNat 8 (u16At p i / 256) = p.getD (i + 1) 0 := by
    have high := (p.getD (i + 1) 0).isLt
    apply BitVec.eq_of_toNat_eq
    simp only [BitVec.toNat_ofNat, u16At, u8At]
    omega
  rw [put16, first, second]

theorem u16At_lt (p : List Byte) (i : Nat) : u16At p i < 65536 := by
  have low := (p.getD i 0).isLt
  have high := (p.getD (i + 1) 0).isLt
  simp only [u16At, u8At]
  omega

theorem putI16_i16At (p : List Byte) (i : Nat) : putI16 (i16At p i) = [p.getD i 0, p.getD (i + 1) 0] := by
  have same : (BitVec.ofInt 16 (i16At p i)).toNat = u16At p i := by
    rw [i16At, BitVec.ofInt_toInt, BitVec.toNat_ofNat]
    exact Nat.mod_eq_of_lt (u16At_lt p i)
  rw [putI16, same, put16_u16At]

theorem putI16_u16At (p : List Byte) (i : Nat) : putI16 (u16At p i : Int) = [p.getD i 0, p.getD (i + 1) 0] := by
  have same : (BitVec.ofInt 16 (u16At p i : Int)).toNat = u16At p i := by
    rw [BitVec.ofInt_natCast, BitVec.toNat_ofNat]
    exact Nat.mod_eq_of_lt (u16At_lt p i)
  rw [putI16, same, put16_u16At]

theorem fits16_i16At (p : List Byte) (i : Nat) : fits16 (i16At p i) := by
  have low := BitVec.le_toInt (BitVec.ofNat 16 (u16At p i))
  have high := BitVec.toInt_lt (x := BitVec.ofNat 16 (u16At p i))
  unfold fits16 i16At
  omega

theorem putVec_vecAt (p : List Byte) (i : Nat) : putVec (vecAt p i) =
    [p.getD i 0, p.getD (i + 1) 0, p.getD (i + 2) 0, p.getD (i + 3) 0, p.getD (i + 4) 0, p.getD (i + 5) 0] := by
  simp only [putVec, vecAt, putI16_i16At]
  rfl

theorem vecAt_putVec {v : Vec3} (x : fits16 v.x) (y : fits16 v.y) (z : fits16 v.z) : vecAt (putVec v) 0 = v := by
  show (⟨i16At (putI16 v.x) 0, i16At (putI16 v.y) 0, i16At (putI16 v.z) 0⟩ : Vec3) = v
  rw [i16At_putI16 x, i16At_putI16 y, i16At_putI16 z]

/-- A payload is the list of its bytes. -/
theorem eq_map_getD {p : List Byte} {n : Nat} (length : p.length = n) : p = (List.range n).map fun i => p.getD i 0 := by
  refine List.ext_getElem (by simp [length]) fun i here _ => ?_
  simp [List.getD_eq_getElem?_getD, List.getElem?_eq_getElem here]

/-! ## Drive replies -/

theorem driveStateOf_code (st : DriveState) : driveStateOf st.code = some st := by cases st <;> rfl

theorem driveStateOf_eq_none_iff (n : Nat) : driveStateOf n = none ↔ 4 < n := by
  by_cases above : 4 < n
  · obtain ⟨k, rfl⟩ : ∃ k, n = k + 5 := ⟨n - 5, by omega⟩
    exact iff_of_true rfl above
  · have small : n = 0 ∨ n = 1 ∨ n = 2 ∨ n = 3 ∨ n = 4 := by omega
    rcases small with rfl | rfl | rfl | rfl | rfl <;> simp [driveStateOf]

theorem index_inj {l m : Leg} : Leg.index l = Leg.index m ↔ l = m := by cases l <;> cases m <;> simp [Leg.index]

theorem toNat_index (l : Leg) : (BitVec.ofNat 8 (Leg.index l)).toNat = Leg.index l := by cases l <;> rfl

theorem toNat_opCode (o : Op) : (BitVec.ofNat 8 o.code).toNat = o.code := by cases o <;> rfl

theorem toNat_stateCode (st : DriveState) : (BitVec.ofNat 8 st.code).toNat = st.code := by cases st <;> rfl

theorem getLsbD_zero_eq (b : Byte) : b.getLsbD 0 = decide (b.toNat % 2 = 1) := by
  rw [BitVec.getLsbD, Nat.testBit_zero]

theorem opCode_iff (b : Byte) (o : Op) : b.toNat = o.code ↔ b = (if o = .poll then 0x02#8 else 0x01#8) := by
  cases o with
  | setpoint v speed hold => exact ⟨fun h => BitVec.eq_of_toNat_eq h, fun h => by rw [h]; rfl⟩
  | poll => exact ⟨fun h => BitVec.eq_of_toNat_eq h, fun h => by rw [h]; rfl⟩

/-- A whole reply is judged by its address and operation, its check and state byte being right (R127, R180). -/
theorem judgeReply_driveReplyBytes (x y : Txn) {pos : Vec3} (st : DriveState) (flags : Byte) (fx : fits16 pos.x) (fy : fits16 pos.y)
    (fz : fits16 pos.z) :
    judgeReply y (driveReplyBytes x pos st flags) =
      if Leg.index x.leg = Leg.index y.leg ∧ x.op.code = y.op.code then .good pos st (flags.getLsbD 0) else .stray := by
  have check : putCheck (crc16 ((driveReplyBytes x pos st flags).take 10)) = ((driveReplyBytes x pos st flags).drop 10).take 2 := rfl
  have state : u8At (driveReplyBytes x pos st flags) 8 = st.code := toNat_stateCode st
  have address : u8At (driveReplyBytes x pos st flags) 0 = Leg.index x.leg := toNat_index x.leg
  have op : u8At (driveReplyBytes x pos st flags) 1 = x.op.code := toNat_opCode x.op
  have position : vecAt (driveReplyBytes x pos st flags) 2 = pos := vecAt_putVec fx fy fz
  have flag : decide (u8At (driveReplyBytes x pos st flags) 9 % 2 = 1) = flags.getLsbD 0 := (getLsbD_zero_eq flags).symm
  simp only [judgeReply, if_pos check, state, driveStateOf_code, address, op, position, flag]

/-- Twelve bytes whose check does not match or whose state byte is above 4 are a bad reply (R127, R180). -/
theorem judgeReply_of_bad (x : Txn) {bytes : List Byte} (length : bytes.length = 12)
    (bad : bytes.drop 10 ≠ putCheck (crc16 (bytes.take 10)) ∨ 4 < u8At bytes 8) : judgeReply x bytes = .bad := by
  have whole : (bytes.drop 10).take 2 = bytes.drop 10 := List.take_of_length_le (by simp [length])
  simp only [judgeReply, whole]
  split
  case isTrue check => rw [(driveStateOf_eq_none_iff _).mpr (bad.elim (absurd check.symm) id)]
  case isFalse => rfl

/-- Other twelve bytes are a good reply to the transaction whose leg and operation they carry, and a stray to any other (R127). -/
theorem judgeReply_of_fine (x : Txn) {bytes : List Byte} (length : bytes.length = 12)
    (fine : ¬ (bytes.drop 10 ≠ putCheck (crc16 (bytes.take 10)) ∨ 4 < u8At bytes 8)) :
    ∃ st, judgeReply x bytes = if u8At bytes 0 = Leg.index x.leg ∧ u8At bytes 1 = x.op.code then
      .good (vecAt bytes 2) st ((bytes.getD 9 0).getLsbD 0) else .stray := by
  have whole : (bytes.drop 10).take 2 = bytes.drop 10 := List.take_of_length_le (by simp [length])
  obtain ⟨check, state⟩ := not_or.mp fine
  obtain ⟨st, spelt⟩ := Option.ne_none_iff_exists'.mp (mt (driveStateOf_eq_none_iff _).mp state)
  refine ⟨st, ?_⟩
  simp only [judgeReply, whole, if_pos (not_not.mp check).symm, spelt, getLsbD_zero_eq]
  rfl

/-! ## Collecting a reply -/

section
variable {s : State} {x : Txn} {n : Nat}

/-- Bytes that leave the reply short are collected (R127). -/
theorem driveReply_of_short {got : List Byte} (bytes : List Byte) (line : s.bus.line = .window x n got)
    (short : got.length + bytes.length < 12) :
    driveReply bytes s = s.setBus { s.bus with line := .window x n (got ++ bytes) } := by
  induction bytes generalizing s got with
  | nil =>
    rw [List.append_nil, ← line]
    rfl
  | cons b rest ih =>
    have taken : busByte b s = s.setBus { s.bus with line := .window x n (got ++ [b]) } := by
      unfold busByte
      rw [line]
      exact if_pos (by simp at short ⊢; simp [Config.replyBytes]; omega)
    rw [driveReply, taken, ih rfl (by simp at short ⊢; omega)]
    simp [State.setBus]

/-- The state just before the last byte of a reply. -/
def collecting (s : State) (x : Txn) (n : Nat) (bytes : List Byte) : State :=
  s.setBus { s.bus with line := .window x n (bytes.take 11) }

theorem driveReply_append (as bs : List Byte) (s : State) : driveReply (as ++ bs) s = driveReply bs (driveReply as s) := by
  induction as generalizing s with
  | nil => rfl
  | cons b rest ih => exact ih (busByte b s)

/-- The twelfth byte closes a reply (R127). -/
theorem driveReply_of_whole {bytes : List Byte} (line : s.bus.line = .window x n []) (length : bytes.length = 12) :
    ∃ b, bytes.take 11 ++ [b] = bytes ∧ driveReply bytes s = busByte b (collecting s x n bytes) := by
  obtain ⟨b, last⟩ : ∃ b, bytes.drop 11 = [b] := List.length_eq_one_iff.mp (by rw [List.length_drop, length])
  have whole : bytes.take 11 ++ [b] = bytes := by rw [← last, List.take_append_drop]
  have first : driveReply (bytes.take 11) s = collecting s x n bytes :=
    driveReply_of_short _ line (by simp [length])
  refine ⟨b, whole, ?_⟩
  conv_lhs => rw [← whole, driveReply_append, first]
  rfl

section
variable {bytes : List Byte} {b : Byte} (length : bytes.length = 12) (whole : bytes.take 11 ++ [b] = bytes)
include length whole

theorem busByte_of_bad (judged : judgeReply x bytes = .bad) : busByte b (collecting s x n bytes) = badReply x (collecting s x n bytes) := by
  have closed : ¬ (bytes.take 11 ++ [b]).length < Config.replyBytes := by rw [whole, length]; decide
  refine (if_neg closed).trans ?_
  simp only [whole, judged]

theorem busByte_of_stray (judged : judgeReply x bytes = .stray) :
    busByte b (collecting s x n bytes) = setLine (.window x n []) (collecting s x n bytes) := by
  have closed : ¬ (bytes.take 11 ++ [b]).length < Config.replyBytes := by rw [whole, length]; decide
  refine (if_neg closed).trans ?_
  simp only [whole, judged]

theorem busByte_of_good {pos : Vec3} {st : DriveState} {flag : Bool} (judged : judgeReply x bytes = .good pos st flag) :
    busByte b (collecting s x n bytes) = goodReply x.leg pos st flag (collecting s x n bytes) := by
  have closed : ¬ (bytes.take 11 ++ [b]).length < Config.replyBytes := by rw [whole, length]; decide
  refine (if_neg closed).trans ?_
  simp only [whole, judged]

end

/-- A bad reply closes the transaction (R134). -/
theorem driveReply_of_bad {bytes : List Byte} (line : s.bus.line = .window x n []) (length : bytes.length = 12)
    (judged : judgeReply x bytes = .bad) : driveReply bytes s = badReply x (collecting s x n bytes) := by
  obtain ⟨b, whole, taken⟩ := driveReply_of_whole line length
  rw [taken, busByte_of_bad length whole judged]

/-- A stray reply leaves the window as it was opened (R135). -/
theorem driveReply_of_stray {bytes : List Byte} (line : s.bus.line = .window x n []) (length : bytes.length = 12)
    (judged : judgeReply x bytes = .stray) : driveReply bytes s = s := by
  obtain ⟨b, whole, taken⟩ := driveReply_of_whole line length
  rw [taken, busByte_of_stray length whole judged, ← line]
  rfl

/-- A good reply closes the transaction (R132). -/
theorem driveReply_of_good {bytes : List Byte} {pos : Vec3} {st : DriveState} {flag : Bool} (line : s.bus.line = .window x n [])
    (length : bytes.length = 12) (judged : judgeReply x bytes = .good pos st flag) :
    driveReply bytes s = goodReply x.leg pos st flag (collecting s x n bytes) := by
  obtain ⟨b, whole, taken⟩ := driveReply_of_whole line length
  rw [taken, busByte_of_good length whole judged]

end

/-- Settles O58: the layout read back, any twelve bytes by their tests in order, and the collection byte by byte. -/
theorem driveReplyIsReadBack : Obligations.DriveReplyIsReadBack := by
  unfold Obligations.DriveReplyIsReadBack
  refine ⟨fun x y pos st flags fx fy fz => ⟨rfl, ?_, fun other => ?_⟩, fun x bytes length => ?_, fun s x n bytes line => ⟨fun short => ?_, fun length stray => ?_⟩⟩
  · rw [judgeReply_driveReplyBytes x x st flags fx fy fz, if_pos ⟨rfl, rfl⟩]
  · rw [judgeReply_driveReplyBytes x y st flags fx fy fz, if_neg]
    rintro ⟨leg, op⟩
    exact other.elim (absurd (index_inj.mp leg)) (absurd op)
  · have address : u8At bytes 0 = Leg.index x.leg ∧ u8At bytes 1 = x.op.code ↔
        (bytes.getD 0 0).toNat = ([.fl, .fr, .rl, .rr] : List Leg).idxOf x.leg ∧
          bytes.getD 1 0 = (if x.op = .poll then 0x02#8 else 0x01#8) := by
      rw [Leg.index_eq]
      exact and_congr Iff.rfl (opCode_iff _ _)
    refine ⟨judgeReply_of_bad x length, fun fine other => ?_, fun fine ours => ?_⟩
    · obtain ⟨st, judged⟩ := judgeReply_of_fine x length fine
      rw [judged, if_neg (mt address.mp other)]
    · obtain ⟨st, judged⟩ := judgeReply_of_fine x length fine
      exact ⟨_, st, by rw [judged, if_pos (address.mpr ours)]⟩
  · exact congrArg _ (driveReply_of_short bytes line (by simpa using short))
  · show Host.Outcome.next (driveReply bytes s) = _
    rw [driveReply_of_stray line length stray]

end Sys2Proof.Machine
end

section
/-! RECORDS READ. A plan record as R178 lays it out, and as it is read back (R70, R71); the configuration records (R177) and the
silence settings (R151), read, taken or refused. -/

namespace Sys2Proof.Machine

/-! ## Plan records -/

theorem clampDisp_eq (k : RecordKind) (v : Vec3) :
    clampDisp k v =
      let xy : Int := if k = .shift then 150 else 400
      let z : Int := if k = .shift then 100 else 300
      ⟨max (-xy) (min xy v.x), max (-xy) (min xy v.y), max (-z) (min z v.z)⟩ := by
  cases k with
  | step => simp [clampDisp, clampInt_eq_max_min]
  | pair => simp [clampDisp, clampInt_eq_max_min]
  | shift => simp [clampDisp, clampInt_eq_max_min]

/-- The class byte of a plan record: 0xFF marks it absent (R178). -/
def classByte (cls : Option SurfaceClass) : Nat := cls.elim 255 SurfaceClass.code

/-- The flag byte of a plan record (R178). -/
def flagByte (hold notify noPreshift : Bool) : Nat := flagBit 0 hold + flagBit 1 notify + flagBit 2 noPreshift

theorem recordBytes_eq (id : Nat) (k : RecordKind) (legs : List Leg) (d : Vec3) (cls : Option SurfaceClass)
    (hold notify np : Bool) : recordBytes id k legs d cls hold notify np =
      put16 id ++ put8 k.code ++ put8 (legSetCode legs) ++ putVec d ++ put8 (classByte cls) ++ put8 (flagByte hold notify np) := by
  cases cls <;> rfl

theorem recordKindOf_eq_some_iff (n : Nat) (k : RecordKind) : recordKindOf n = some k ↔ n = k.code := by
  constructor
  · unfold recordKindOf
    split <;> rintro h <;> cases h <;> rfl
  · rintro rfl
    cases k <;> rfl

theorem classOf_eq_some_iff (n : Nat) (c : SurfaceClass) : classOf n = some c ↔ n = c.code := by
  constructor
  · unfold classOf
    split <;> rintro h <;> cases h <;> rfl
  · rintro rfl
    exact classOf_code c

/-- The legs a record of a kind may name (R70). -/
def legsOk (k : RecordKind) (legs : List Leg) : Prop :=
  match k with
  | .step => ∃ l, legs = [l]
  | .pair => legs = [.fl, .rr] ∨ legs = [.fr, .rl]
  | .shift => legs = []

theorem recordOk_iff (k : RecordKind) (legs : List Leg) (cls : Option SurfaceClass) (np : Bool) :
    recordOk k legs cls np ↔ legsOk k legs ∧ (cls = none ↔ k = .shift) ∧ ¬ (k = .shift ∧ np = true) := by
  cases k with
  | step => simp [recordOk, legsOk]
  | pair => simp [recordOk, legsOk]
  | shift => simp [recordOk, legsOk]

theorem legsOf_eq_some_iff (k : RecordKind) (n : Nat) (legs : List Leg) :
    legsOf k n = some legs ↔ n = legSetCode legs ∧ legsOk k legs := by
  constructor
  · unfold legsOf
    split <;> rintro h <;> cases h <;> refine ⟨rfl, ?_⟩ <;> simp [legsOk]
  · rintro ⟨rfl, ok⟩
    cases k with
    | step => obtain ⟨l, rfl⟩ := ok; cases l <;> rfl
    | pair => obtain rfl | rfl := ok <;> rfl
    | shift => obtain rfl := ok; rfl

theorem targetClassOf_eq_some_iff (k : RecordKind) (n : Nat) (cls : Option SurfaceClass) :
    targetClassOf k n = some cls ↔ n = classByte cls ∧ (cls = none ↔ k = .shift) := by
  cases k with
  | shift =>
    show (if n = 255 then some none else none) = some cls ↔ _
    cases cls with
    | none => simp [classByte]
    | some c => simp
  | step => cases cls <;> simp [targetClassOf, classByte, classOf_eq_some_iff]
  | pair => cases cls <;> simp [targetClassOf, classByte, classOf_eq_some_iff]

theorem flagByte_spec (hold notify np : Bool) :
    flagByte hold notify np < 8 ∧ decide (flagByte hold notify np % 2 = 1) = hold ∧
      decide (flagByte hold notify np / 2 % 2 = 1) = notify ∧ decide (4 ≤ flagByte hold notify np) = np := by
  cases hold <;> cases notify <;> cases np <;> decide

theorem flagByte_of_lt {n : Nat} (named : n < 8) : flagByte (decide (n % 2 = 1)) (decide (n / 2 % 2 = 1)) (decide (4 ≤ n)) = n := by
  interval_cases n <;> rfl

/-- The fields of twelve bytes that are an accepted record (R70). -/
theorem decodeRecord_eq_some_iff (p : List Byte) (r : PlanRecord) :
    decodeRecord p = some r ↔
      u8At p 2 = r.kind.code ∧ u8At p 3 = legSetCode r.legs ∧ legsOk r.kind r.legs ∧ u8At p 10 = classByte r.cls ∧
        (r.cls = none ↔ r.kind = .shift) ∧ u16At p 0 ≠ 0 ∧ u8At p 11 < 8 ∧ ¬ (r.kind = .shift ∧ 4 ≤ u8At p 11) ∧
        r = ⟨u16At p 0, r.kind, r.legs, clampDisp r.kind (vecAt p 4), r.cls, decide (u8At p 11 % 2 = 1),
          decide (u8At p 11 / 2 % 2 = 1), decide (4 ≤ u8At p 11), decide (clampDisp r.kind (vecAt p 4) ≠ vecAt p 4), 0⟩ := by
  unfold decodeRecord
  constructor
  · intro read
    split at read
    case h_1 => cases read
    case h_2 k kind =>
      split at read
      case h_2 => cases read
      case h_1 legs cls named target =>
        dsimp only at read
        split at read
        case isFalse => cases read
        case isTrue fine =>
          obtain rfl := Option.some.inj read
          obtain ⟨set, legs⟩ := (legsOf_eq_some_iff _ _ _).mp named
          obtain ⟨byte, given⟩ := (targetClassOf_eq_some_iff _ _ _).mp target
          obtain ⟨id, flags, shift⟩ := fine
          exact ⟨(recordKindOf_eq_some_iff _ _).mp kind, set, legs, byte, given, id, flags, shift, rfl⟩
  · rintro ⟨kind, set, legs, byte, given, id, flags, shift, same⟩
    simp only [(recordKindOf_eq_some_iff _ _).mpr kind, (legsOf_eq_some_iff _ _ _).mpr ⟨set, legs⟩,
      (targetClassOf_eq_some_iff _ _ _).mpr ⟨byte, given⟩]
    rw [if_pos ⟨id, flags, shift⟩, ← same]

theorem legSetCode_lt {k : RecordKind} {legs : List Leg} (ok : legsOk k legs) :
    (BitVec.ofNat 8 (legSetCode legs)).toNat = legSetCode legs := by
  cases k with
  | step => obtain ⟨l, rfl⟩ := ok; cases l <;> rfl
  | pair => obtain rfl | rfl := ok <;> rfl
  | shift => obtain rfl := ok; rfl

theorem classByte_lt (cls : Option SurfaceClass) : (BitVec.ofNat 8 (classByte cls)).toNat = classByte cls := by
  cases cls with
  | none => rfl
  | some c => cases c <;> rfl

theorem decodeRecord_recordBytes {id : Nat} {k : RecordKind} {legs : List Leg} {d : Vec3} {cls : Option SurfaceClass}
    (hold notify : Bool) {np : Bool} (named : 1 ≤ id) (fits : id ≤ 65535) (ok : recordOk k legs cls np) (x : fits16 d.x)
    (y : fits16 d.y) (z : fits16 d.z) :
    decodeRecord (recordBytes id k legs d cls hold notify np) =
      some ⟨id, k, legs, clampDisp k d, cls, hold, notify, np, decide (clampDisp k d ≠ d), 0⟩ := by
  obtain ⟨legsOk, given, shift⟩ := (recordOk_iff k legs cls np).mp ok
  obtain ⟨small, held, notified, allowed⟩ := flagByte_spec hold notify np
  rw [recordBytes_eq]
  set p := put16 id ++ put8 k.code ++ put8 (legSetCode legs) ++ putVec d ++ put8 (classByte cls) ++ put8 (flagByte hold notify np)
  have idField : u16At p 0 = id := u16At_put16 (by omega)
  have kindField : u8At p 2 = k.code := by cases k <;> rfl
  have legsField : u8At p 3 = legSetCode legs := legSetCode_lt legsOk
  have vecField : vecAt p 4 = d := vecAt_putVec x y z
  have classField : u8At p 10 = classByte cls := classByte_lt cls
  have flagField : u8At p 11 = flagByte hold notify np := Nat.mod_eq_of_lt (by omega)
  refine (decodeRecord_eq_some_iff p _).mpr ⟨kindField, legsField, legsOk, classField, given, ?_, ?_, ?_, ?_⟩
  · omega
  · omega
  · rintro ⟨isShift, high⟩
    exact shift ⟨isShift, by rw [← allowed, ← flagField]; exact decide_eq_true high⟩
  · rw [idField, vecField, flagField, held, notified, allowed]

theorem recordBytes_of_decodeRecord {p : List Byte} {r : PlanRecord} (length : p.length = 12) (read : decodeRecord p = some r) :
    1 ≤ r.id ∧ r.id ≤ 65535 ∧ recordOk r.kind r.legs r.cls r.noPreshift ∧
      p = recordBytes r.id r.kind r.legs (vecAt p 4) r.cls r.hold r.notify r.noPreshift := by
  obtain ⟨kind, set, legs, byte, given, id, flags, shift, same⟩ := (decodeRecord_eq_some_iff p r).mp read
  obtain ⟨idIs, holdIs, notifyIs, npIs⟩ : r.id = u16At p 0 ∧ r.hold = decide (u8At p 11 % 2 = 1) ∧
      r.notify = decide (u8At p 11 / 2 % 2 = 1) ∧ r.noPreshift = decide (4 ≤ u8At p 11) := by
    rw [same]
    exact ⟨rfl, rfl, rfl, rfl⟩
  have most := u16At_lt p 0
  refine ⟨by omega, by omega, (recordOk_iff ..).mpr ⟨legs, given, fun h => shift ⟨h.1, ?_⟩⟩, ?_⟩
  · exact of_decide_eq_true (npIs ▸ h.2)
  · rw [recordBytes_eq, idIs, holdIs, notifyIs, npIs, flagByte_of_lt flags, ← kind, ← set, ← byte, put16_u16At, putVec_vecAt]
    simp only [put8_u8At]
    exact eq_map_getD length

theorem decodeRecords_cons {p : List Byte} (ps : List (List Byte)) (length : p.length = 12) :
    decodeRecords (ps.length + 1) (p ++ ps.flatten) =
      (decodeRecord p).bind fun r => (decodeRecords ps.length ps.flatten).map (r :: ·) := by
  rw [decodeRecords, List.take_left' length, List.drop_left' length]
  cases decodeRecord p with
  | none => rfl
  | some r => cases decodeRecords ps.length ps.flatten <;> rfl

/-- A payload is read record by record (R70, R177). -/
theorem decodeRecords_eq_some_iff {ps : List (List Byte)} (lengths : ∀ p ∈ ps, p.length = 12) (rs : List PlanRecord) :
    decodeRecords ps.length ps.flatten = some rs ↔ ps.map decodeRecord = rs.map some := by
  induction ps generalizing rs with
  | nil => cases rs <;> simp [decodeRecords]
  | cons p ps ih =>
    have more := ih fun q mem => lengths q (List.mem_cons_of_mem _ mem)
    rw [List.length_cons, List.flatten_cons, decodeRecords_cons ps (lengths p List.mem_cons_self), List.map_cons]
    cases decodeRecord p with
    | none => cases rs <;> simp
    | some r =>
      cases rs with
      | nil => cases decodeRecords ps.length ps.flatten <;> simp
      | cons q qs =>
        rw [List.map_cons, List.cons.injEq, ← more]
        cases decodeRecords ps.length ps.flatten <;> simp

theorem decodeRecords_eq_none_iff {ps : List (List Byte)} (lengths : ∀ p ∈ ps, p.length = 12) :
    decodeRecords ps.length ps.flatten = none ↔ ∃ p ∈ ps, decodeRecord p = none := by
  induction ps with
  | nil => simp [decodeRecords]
  | cons p ps ih =>
    have more := ih fun q mem => lengths q (List.mem_cons_of_mem _ mem)
    rw [List.length_cons, List.flatten_cons, decodeRecords_cons ps (lengths p List.mem_cons_self), List.exists_mem_cons_iff, ← more]
    cases decodeRecord p with
    | none => simp
    | some r => cases decodeRecords ps.length ps.flatten <;> simp

/-- Settles O23: the fields both ways, then record by record. -/
theorem planRecordIsReadBack : Obligations.PlanRecordIsReadBack := by
  unfold Obligations.PlanRecordIsReadBack
  refine ⟨fun id k legs d cls hold notify np named fits ok x y z => ?_, fun p length none => ?_, fun ps lengths =>
    ⟨decodeRecords_eq_some_iff lengths, decodeRecords_eq_none_iff lengths⟩⟩
  · rw [decodeRecord_recordBytes hold notify named fits ok x y z, clampDisp_eq]
  · refine Option.eq_none_iff_forall_ne_some.mpr fun r read => none ?_
    obtain ⟨least, most, ok, bytes⟩ := recordBytes_of_decodeRecord length read
    exact ⟨r.id, r.kind, r.legs, vecAt p 4, r.cls, r.hold, r.notify, r.noPreshift, least, most, ok, fits16_i16At p 4, fits16_i16At p 6,
      fits16_i16At p 8, bytes⟩

end Sys2Proof.Machine
end

section
/-! CONFIGURATION. The four configuration records and the silence settings: read, taken, or refused (R2, R7, R12, R68, R124, R151). -/

namespace Sys2Proof.Machine

/-! ## The records read -/

theorem nineBits_packedPart (w shift : Nat) : nineBits (packedPart w shift) = w / 2 ^ shift % 512 := by
  rw [nineBits, packedPart, BitVec.ofInt_toInt, BitVec.toNat_ofNat]

theorem toInt_nineBits {v : Int} (low : -200 ≤ v) (high : v ≤ 200) : (BitVec.ofNat 9 (nineBits v)).toInt = v := by
  rw [nineBits, BitVec.ofNat_toNat, BitVec.setWidth_eq, BitVec.toInt_ofInt]
  exact Int.bmod_eq_of_le (by omega) (by omega)

theorem nineBits_lt (v : Int) : nineBits v < 512 := (BitVec.ofInt 9 v).isLt

/-- The three parts of the packed centre of mass (R176). -/
def packedCom (v : Vec3) : Nat := nineBits v.x + 512 * nineBits v.y + 262144 * nineBits v.z

theorem packedCom_lt (v : Vec3) : packedCom v < 2 ^ 27 := by
  have := nineBits_lt v.x
  have := nineBits_lt v.y
  have := nineBits_lt v.z
  unfold packedCom
  omega

theorem ofNat_congr {m n : Nat} (same : m % 512 = n % 512) : BitVec.ofNat 9 m = BitVec.ofNat 9 n := by
  apply BitVec.eq_of_toNat_eq
  simpa only [BitVec.toNat_ofNat] using same

theorem packedPart_packedCom {v : Vec3} (x : -200 ≤ v.x ∧ v.x ≤ 200) (y : -200 ≤ v.y ∧ v.y ≤ 200) (z : -200 ≤ v.z ∧ v.z ≤ 200) :
    (⟨packedPart (packedCom v) 0, packedPart (packedCom v) 9, packedPart (packedCom v) 18⟩ : Vec3) = v := by
  have := nineBits_lt v.x
  have := nineBits_lt v.y
  have := nineBits_lt v.z
  have px : packedPart (packedCom v) 0 = v.x := by
    rw [packedPart, ofNat_congr (n := nineBits v.x) (by unfold packedCom; omega), toInt_nineBits x.1 x.2]
  have py : packedPart (packedCom v) 9 = v.y := by
    rw [packedPart, ofNat_congr (n := nineBits v.y) (by unfold packedCom; omega), toInt_nineBits y.1 y.2]
  have pz : packedPart (packedCom v) 18 = v.z := by
    rw [packedPart, ofNat_congr (n := nineBits v.z) (by unfold packedCom; omega), toInt_nineBits z.1 z.2]
  rw [px, py, pz]

theorem put32_u32At (p : List Byte) (i : Nat) :
    put32 (BitVec.ofNat 32 (u32At p i)) = [p.getD i 0, p.getD (i + 1) 0, p.getD (i + 2) 0, p.getD (i + 3) 0] := by
  have low := u16At_lt p i
  have high := u16At_lt p (i + 2)
  have word : (BitVec.ofNat 32 (u32At p i)).toNat = u16At p i + 65536 * u16At p (i + 2) := by
    rw [BitVec.toNat_ofNat, u32At]
    omega
  have first : (u16At p i + 65536 * u16At p (i + 2)) % 65536 = u16At p i := by omega
  have second : (u16At p i + 65536 * u16At p (i + 2)) / 65536 = u16At p (i + 2) := by omega
  rw [put32, word, first, second, put16_u16At, put16_u16At]
  rfl

/-- What the two bytes of a signed field spell. -/
theorem signed_field {v : Int} (low : -32768 ≤ v) (high : v ≤ 32767) : (BitVec.ofNat 16 (BitVec.ofInt 16 v).toNat).toInt = v := by
  rw [BitVec.ofNat_toNat, BitVec.setWidth_eq, BitVec.toInt_ofInt]
  exact Int.bmod_eq_of_le (by omega) (by omega)

/-- What the two bytes of a signed field spell that holds a natural number. -/
theorem natural_field {v : Int} (low : 0 ≤ v) (high : v ≤ 32767) : ((BitVec.ofInt 16 v).toNat : Int) = v := by
  rw [BitVec.toNat_ofInt]
  omega

/-- What the four bytes of the packed centre of mass spell. -/
theorem packed_field (v : Vec3) :
    (BitVec.ofNat 32 (packedCom v)).toNat % 65536 + 65536 * ((BitVec.ofNat 32 (packedCom v)).toNat / 65536) = packedCom v := by
  have fits := packedCom_lt v
  rw [BitVec.toNat_ofNat]
  omega

theorem decodeGeometry_payload {g : Geometry} (ok : g.inRange) : decodeGeometry (geometryPayload g) = some g := by
  have checked := (geometryOk_iff g).mpr ok
  obtain ⟨hips, ⟨xl, xh, yl, yh, zl, zh⟩, reach, depth, standing, park⟩ := ok
  obtain ⟨hfl, hfr, hrl, hrr⟩ := And.intro (hips .fl) (And.intro (hips .fr) (And.intro (hips .rl) (hips .rr)))
  dsimp only [Quad.get] at hfl hfr hrl hrr
  have com : nineBits g.com.x + 512 * nineBits g.com.y + 262144 * nineBits g.com.z = packedCom g.com := rfl
  simp (disch := omega) only [decodeGeometry, geometryPayload, com, u32At, i16At, u16At, u8At, putI16, put32, put16, List.cons_append,
    List.nil_append, List.getD_cons_succ, List.getD_cons_zero, Nat.reduceAdd, byte_pair, signed_field, natural_field, packed_field,
    packedPart_packedCom ⟨xl, xh⟩ ⟨yl, yh⟩ ⟨zl, zh⟩]
  exact if_pos ⟨packedCom_lt g.com, checked⟩

theorem geometryPayload_of_decode {p : List Byte} {g : Geometry} (length : p.length = 30) (read : decodeGeometry p = some g) :
    g.inRange ∧ p = geometryPayload g := by
  unfold decodeGeometry at read
  dsimp only at read
  split at read
  case isFalse => cases read
  case isTrue fine =>
    obtain ⟨packed, checked⟩ := fine
    obtain rfl := Option.some.inj read
    refine ⟨(geometryOk_iff _).mp checked, ?_⟩
    have com : nineBits (packedPart (u32At p 16) 0) + 512 * nineBits (packedPart (u32At p 16) 9) +
        262144 * nineBits (packedPart (u32At p 16) 18) = u32At p 16 := by
      simp only [nineBits_packedPart]
      omega
    simp only [geometryPayload, com, put32_u32At, putI16_i16At, putI16_u16At]
    exact eq_map_getD length

theorem decodeSurface_payload (c : SurfaceClass) {r : ClassRecord} (ok : r.inRange) :
    decodeSurface (surfacePayload c r) = some (c, r) := by
  have checked := (classRecordOk_iff r).mpr ok
  obtain ⟨loads, margins, steps⟩ := ok
  have named : (BitVec.ofNat 8 c.code).toNat = c.code := by cases c <;> rfl
  simp (disch := omega) only [decodeSurface, surfacePayload, i16At, u16At, u8At, put8, putI16, put16, List.cons_append, List.nil_append,
    List.getD_cons_succ, List.getD_cons_zero, Nat.reduceAdd, byte_pair, signed_field, natural_field, named, classOf_code]
  exact if_pos checked

theorem surfacePayload_of_decode {p : List Byte} {c : SurfaceClass} {r : ClassRecord} (length : p.length = 17)
    (read : decodeSurface p = some (c, r)) : r.inRange ∧ p = surfacePayload c r := by
  unfold decodeSurface at read
  dsimp only at read
  split at read
  case h_1 => cases read
  case h_2 named =>
    split at read
    case isFalse => cases read
    case isTrue checked =>
      obtain ⟨rfl, rfl⟩ := Prod.mk.inj (Option.some.inj read)
      refine ⟨(classRecordOk_iff _).mp checked, ?_⟩
      simp only [surfacePayload, ← (classOf_eq_some_iff _ _).mp named, put8_u8At, put16_u16At, putI16_i16At, putI16_u16At]
      exact eq_map_getD length

theorem decodeBalanceCfg_payload {b : BalanceCfg} (ok : b.inRange) : decodeBalanceCfg (balancePayload b) = some b := by
  have checked := (balanceCfgOk_iff b).mpr ok
  obtain ⟨margins, counts, limits⟩ := ok
  simp (disch := omega) only [decodeBalanceCfg, balancePayload, i16At, u16At, u8At, putI16, put16, List.cons_append, List.nil_append,
    List.getD_cons_succ, List.getD_cons_zero, Nat.reduceAdd, byte_pair, signed_field]
  exact if_pos checked

theorem balancePayload_of_decode {p : List Byte} {b : BalanceCfg} (length : p.length = 14) (read : decodeBalanceCfg p = some b) :
    b.inRange ∧ p = balancePayload b := by
  unfold decodeBalanceCfg at read
  dsimp only at read
  split at read
  case isFalse => cases read
  case isTrue checked =>
    obtain rfl := Option.some.inj read
    refine ⟨(balanceCfgOk_iff _).mp checked, ?_⟩
    simp only [balancePayload, put16_u16At, putI16_i16At]
    exact eq_map_getD length

theorem decodeGaitCfg_payload {g : GaitCfg} (ok : g.inRange) : decodeGaitCfg (gaitPayload g) = some g := by
  have checked := (gaitCfgOk_iff g).mpr ok
  obtain ⟨times, speeds, shifts, rest⟩ := ok
  simp (disch := omega) only [decodeGaitCfg, gaitPayload, u16At, u8At, put16, List.cons_append, List.nil_append, List.getD_cons_succ,
    List.getD_cons_zero, Nat.reduceAdd, byte_pair]
  exact if_pos checked

theorem gaitPayload_of_decode {p : List Byte} {g : GaitCfg} (length : p.length = 26) (read : decodeGaitCfg p = some g) :
    g.inRange ∧ p = gaitPayload g := by
  unfold decodeGaitCfg at read
  dsimp only at read
  split at read
  case isFalse => cases read
  case isTrue checked =>
    obtain rfl := Option.some.inj read
    refine ⟨(gaitCfgOk_iff _).mp checked, ?_⟩
    simp only [gaitPayload, put16_u16At]
    exact eq_map_getD length

/-! ## The requests -/

/-- How the four configuration requests are answered: by length, mode and value (R7, R12, R68, R124). -/
def configAnswer {α : Type} (n : Nat) (decode : List Byte → Option α) (put : α → State → State) (f : Frame) (s : State) : Answer :=
  withLen n f s <|
    if s.sup.mode = .parked then (decode f.payload).elim (refuse .badValue s) fun a => okWith [] (put a s)
    else refuse .wrongMode s

section
variable {α : Type} {n : Nat} {k : Byte} {decode : List Byte → Option α} {put : α → State → State} {s : State} {f : Frame}
  {rest : List Frame}

theorem serve_config_of_mode (taking : Taking s f rest) (kind : f.kind = k) (length : f.payload.length = n)
    (mode : s.sup.mode ≠ .parked) :
    serve (isKind k) (configAnswer n decode put) s = s.replied rest (replyTo f .wrongMode []) := by
  rw [serve_of_taking taking (isKind_of_eq kind), configAnswer, withLen_of_length length, if_neg (by exact mode), queueReply_refuse]

theorem serve_config_of_none (taking : Taking s f rest) (kind : f.kind = k) (length : f.payload.length = n)
    (mode : s.sup.mode = .parked) (none : decode f.payload = none) :
    serve (isKind k) (configAnswer n decode put) s = s.replied rest (replyTo f .badValue []) := by
  rw [serve_of_taking taking (isKind_of_eq kind), configAnswer, withLen_of_length length, if_pos (by exact mode), none]
  exact queueReply_refuse ..

theorem serve_config_of_some {a : α} (taking : Taking s f rest) (kind : f.kind = k) (length : f.payload.length = n)
    (mode : s.sup.mode = .parked) (some : decode f.payload = some a)
    (beside : ∀ p, put a (s.setLink p) = (put a s).setLink p) (link : (put a s).link = s.link) :
    serve (isKind k) (configAnswer n decode put) s = (put a s).replied rest (replyTo f .ok []) := by
  rw [serve_of_taking taking (isKind_of_eq kind), configAnswer, withLen_of_length length, if_pos (by exact mode), some]
  show queueReply f (okWith [] _) = _
  rw [queueReply_okWith, beside, State.replied, link]
  rfl

end

theorem answerSetGeometry_eq : answerSetGeometry = configAnswer 30 decodeGeometry fun g s => s.setGeo g := by
  funext f s
  unfold answerSetGeometry configAnswer
  cases decodeGeometry f.payload <;> rfl

theorem answerSetSurface_eq : answerSetSurface = configAnswer 17 decodeSurface fun p s => s.setSurf (s.surf.set p.1 p.2) := by
  funext f s
  unfold answerSetSurface configAnswer
  cases decodeSurface f.payload <;> rfl

theorem answerSetBalance_eq : answerSetBalance = configAnswer 14 decodeBalanceCfg fun b s => s.setBalCfg b := by
  funext f s
  unfold answerSetBalance configAnswer
  cases decodeBalanceCfg f.payload <;> rfl

theorem answerSetGait_eq : answerSetGait = configAnswer 26 decodeGaitCfg fun g s => s.setGait g := by
  funext f s
  unfold answerSetGait configAnswer
  cases decodeGaitCfg f.payload <;> rfl

/-- Settles O20: what the part reads of a payload is the record the payload lays out. -/
theorem configurationRequests : Obligations.ConfigurationRequests := by
  unfold Obligations.ConfigurationRequests
  intro s f rest taking
  have geometry : exec .setGeometry s = .next (serve (isKind 0x10#8) (configAnswer 30 decodeGeometry fun g s => s.setGeo g) s) := by
    rw [← answerSetGeometry_eq]; rfl
  have surface : exec .setSurface s =
      .next (serve (isKind 0x11#8) (configAnswer 17 decodeSurface fun p s => s.setSurf (s.surf.set p.1 p.2)) s) := by
    rw [← answerSetSurface_eq]; rfl
  have balance : exec .setBalance s = .next (serve (isKind 0x12#8) (configAnswer 14 decodeBalanceCfg fun b s => s.setBalCfg b) s) := by
    rw [← answerSetBalance_eq]; rfl
  have gait : exec .setGait s = .next (serve (isKind 0x13#8) (configAnswer 26 decodeGaitCfg fun g s => s.setGait g) s) := by
    rw [← answerSetGait_eq]; rfl
  rw [geometry, surface, balance, gait]
  refine ⟨fun mode => ⟨fun kind length => ?_, fun kind length => ?_, fun kind length => ?_, fun kind length => ?_⟩,
    fun mode => ⟨fun g kind payload ok => ?_, fun c r kind payload ok => ?_, fun b kind payload ok => ?_, fun g kind payload ok => ?_,
      fun kind length none => ?_, fun kind length none => ?_, fun kind length none => ?_, fun kind length none => ?_⟩⟩
  · rw [serve_config_of_mode taking kind length mode]
  · rw [serve_config_of_mode taking kind length mode]
  · rw [serve_config_of_mode taking kind length mode]
  · rw [serve_config_of_mode taking kind length mode]
  · rw [serve_config_of_some (a := g) taking kind (by rw [payload]; rfl) mode (by rw [payload]; exact decodeGeometry_payload ok)
      (fun _ => rfl) rfl]
  · rw [serve_config_of_some taking kind (by rw [payload]; rfl) mode (by rw [payload]; exact decodeSurface_payload c ok)
      (fun _ => rfl) rfl]
  · rw [serve_config_of_some (a := b) taking kind (by rw [payload]; rfl) mode (by rw [payload]; exact decodeBalanceCfg_payload ok)
      (fun _ => rfl) rfl]
  · rw [serve_config_of_some (a := g) taking kind (by rw [payload]; rfl) mode (by rw [payload]; exact decodeGaitCfg_payload ok)
      (fun _ => rfl) rfl]
  · rw [serve_config_of_none taking kind length mode]
    exact Option.eq_none_iff_forall_ne_some.mpr fun g read => none ⟨g, geometryPayload_of_decode length read⟩
  · rw [serve_config_of_none taking kind length mode]
    exact Option.eq_none_iff_forall_ne_some.mpr fun p read => none ⟨p.1, p.2, surfacePayload_of_decode length read⟩
  · rw [serve_config_of_none taking kind length mode]
    exact Option.eq_none_iff_forall_ne_some.mpr fun b read => none ⟨b, balancePayload_of_decode length read⟩
  · rw [serve_config_of_none taking kind length mode]
    exact Option.eq_none_iff_forall_ne_some.mpr fun g read => none ⟨g, gaitPayload_of_decode length read⟩

/-! ## The silence settings -/

section
variable {s t : State} {c : Instr}

theorem takeSupervision_eq (limit : Nat) (p : Policy) (s : State) :
    takeSupervision limit p s =
      (s.setSup { s.sup with silenceLimit := limit, policy := p, latch := s.sup.latch || decide (p = .settle) }).setLink
        { s.link with
          silence :=
            if limit = 0 then none
            else if s.sup.mode = .rising ∨ s.sup.mode = .standing then some limit
            else s.link.silence } := by
  unfold takeSupervision stopSilence restartSilence
  by_cases zero : limit = 0
  · simp [zero, State.setSup, State.setLink]
  · cases mode : s.sup.mode <;> simp [zero, mode, silenceMode, State.setSup, State.setLink]

/-- The policy a byte spells, and SUSPEND refused by the latch (R151). -/
theorem decodeSupervision_bytes (latch : Bool) (lo hi p : Byte) :
    let limit := lo.toNat + 256 * hi.toNat
    decodeSupervision latch [lo, hi, p] =
      if (limit = 0 ∨ 50 ≤ limit ∧ limit ≤ 5000) ∧ (p = 0#8 ∧ latch = false ∨ p = 1#8) then
        some (limit, if p = 0#8 then .suspend else .settle)
      else none := by
  intro limit
  have field : u16At [lo, hi, p] 0 = limit := rfl
  have byte : u8At [lo, hi, p] 2 = p.toNat := rfl
  simp only [decodeSupervision, field, byte, inRangeN_eq_true]
  by_cases suspend : p = 0#8
  · obtain rfl := suspend
    cases latch <;> simp [policyOf]
  by_cases settle : p = 1#8
  · obtain rfl := settle
    simp [policyOf]
  · have spelt : policyOf p.toNat = none := by
      unfold policyOf
      split
      · exact absurd (BitVec.eq_of_toNat_eq ‹_›) suspend
      · exact absurd (BitVec.eq_of_toNat_eq ‹_›) settle
      · rfl
    simp [spelt, suspend, settle]

theorem latchKept_takeSupervision {limit : Nat} {p : Policy} (latched : ¬ (s.sup.latch = true ∧ p = .suspend)) :
    LatchKept (takeSupervision limit p s) ∧ (s.sup.latch = true → (takeSupervision limit p s).sup.latch = true) := by
  rw [takeSupervision_eq]
  refine ⟨fun set => ?_, fun set => ?_⟩
  · show p = .settle
    cases p with
    | settle => rfl
    | suspend => exact absurd ⟨by simpa using set, rfl⟩ latched
  · show (s.sup.latch || decide (p = .settle)) = true
    rw [set, Bool.true_or]

theorem latchKept_served (served : Served .setSupervision s t) (held : LatchKept s) :
    LatchKept t ∧ (s.sup.latch = true → t.sup.latch = true) := by
  have same : ∀ u, u.sup.latch = s.sup.latch → u.sup.policy = s.sup.policy →
      LatchKept u ∧ (s.sup.latch = true → u.sup.latch = true) := fun u latch policy =>
    ⟨fun set => policy.trans (held (latch.symm.trans set)), fun set => latch.trans set⟩
  cases served with
  | unchanged => exact ⟨held, id⟩
  | supervision _ latched => exact latchKept_takeSupervision latched
  | motion => exact same _ rfl rfl
  | activate =>
    have kept := (calm_activate s).owned .ping
    exact same _ (kept.latch nofun) (kept.policy nofun)
  | @cut _ _ kept ahead =>
    have kept := (calm_idleIfEmpty (setPlanList kept s)).owned .ping
    exact same _ ((kept.latch nofun).trans rfl) ((kept.policy nofun).trans rfl)

/-- The latch stands with the policy SETTLE, and only a reset clears it (R151). -/
theorem latchKept_of_done (done : Done c s t) (held : LatchKept s) :
    LatchKept t ∧ (s.sup.latch = true → ¬ resetsPart c s → t.sup.latch = true) := by
  by_cases reset : resetsPart c s
  · obtain ⟨rate, flip, rfl⟩ := resetsPart_done done reset
    exact ⟨fun set => absurd set Bool.false_ne_true, fun _ kept => absurd reset kept⟩
  by_cases settings : c = .setSupervision
  · subst settings
    cases done with
    | untaken => exact ⟨held, fun set _ => set⟩
    | taken _ _ served =>
      obtain ⟨kept, set⟩ := latchKept_served served held
      exact ⟨kept, fun before _ => set before⟩
  · have owned := owned_of_done done reset
    exact ⟨fun set => (owned.policy settings).trans (held ((owned.latch settings).symm.trans set)),
      fun set _ => (owned.latch settings).trans set⟩

end

/-- Settles O21: the settings taken whole or refused, and the latch through every command. -/
theorem silenceSettings : Obligations.SilenceSettings := by
  unfold Obligations.SilenceSettings
  refine ⟨fun s t held stepped => ?_, fun s f rest lo hi p taking kind payload => ⟨fun ok => ?_, fun not => ?_⟩⟩
  · rcases step_cases stepped with rfl | ⟨c, rest, pending, did⟩
    · exact ⟨held, fun _ _ _ set _ => set⟩
    · have kept := latchKept_of_done did (show LatchKept (s.setPending rest) from held)
      refine ⟨kept.1, fun d rest' pending' set noReset => kept.2 set ?_⟩
      obtain ⟨rfl, rfl⟩ := List.cons.inj (pending.symm.trans pending')
      exact noReset
  · show Host.Outcome.next (serve (isKind 0x14#8) answerSetSupervision s) = _
    rw [serve_of_taking taking (isKind_of_eq kind), answerSetSupervision, withLen_of_length (by rw [payload]; rfl), payload,
      decodeSupervision_bytes, if_pos (by exact ok)]
    show Host.Outcome.next (queueReply f (okWith [] (takeSupervision _ _ _))) = _
    have latches : decide ((if p = 0#8 then Policy.suspend else .settle) = .settle) = decide (p = 1#8) := by
      rcases ok.2 with ⟨rfl, -⟩ | rfl <;> rfl
    rw [queueReply_okWith, takeSupervision_eq, latches]
    rfl
  · show Host.Outcome.next (serve (isKind 0x14#8) answerSetSupervision s) = _
    rw [serve_of_taking taking (isKind_of_eq kind), answerSetSupervision, withLen_of_length (by rw [payload]; rfl), payload,
      decodeSupervision_bytes, if_neg (by exact not)]
    exact congrArg _ (queueReply_refuse ..)

end Sys2Proof.Machine
end

section
/-! ARITHMETIC. Rounding to nearest (R45), the pressure point (R44, R46), and the workspace clamp (R9, R10). -/

namespace Sys2Proof.Machine

/-! ## Rounding -/

theorem isNearest_of_bounds {a b q : Int} (nonneg : 0 ≤ a) (high : 2 * (q * b) ≤ 2 * a + b)
    (low : 2 * a < 2 * (q * b) + b) : IsNearest a b q := by
  unfold IsNearest
  generalize q * b = x at high low ⊢
  rcases abs_cases (x - a) with ⟨size, _⟩ | ⟨size, _⟩
  · rw [size]
    exact ⟨by omega, fun even => by rw [abs_of_nonneg nonneg, abs_of_nonneg (by omega)]; omega⟩
  · rw [size]
    exact ⟨by omega, fun even => by omega⟩

theorem isNearest_neg {a b q : Int} (near : IsNearest a b q) : IsNearest (-a) b (-q) := by
  have size : |-q * b - -a| = |q * b - a| := by rw [neg_mul, ← neg_sub', abs_neg]
  rw [IsNearest, size, neg_mul, abs_neg, abs_neg]
  exact near

/-- Division rounded to nearest gives the nearest whole number, halves away from zero. -/
theorem isNearest_roundDiv (a : Int) {b : Int} (positive : 0 < b) : IsNearest a b (roundDiv a b) := by
  have half : ∀ n : Int, 0 ≤ n → IsNearest n b ((2 * n + b) / (2 * b)) := fun n nonneg => by
    have below := Int.ediv_mul_le (2 * n + b) (show 2 * b ≠ 0 by omega)
    have above := Int.lt_ediv_add_one_mul_self (2 * n + b) (show 0 < 2 * b by omega)
    exact isNearest_of_bounds nonneg (by linarith) (by linarith)
  unfold roundDiv
  split
  case isTrue nonneg => exact half a nonneg
  case isFalse negative => simpa using isNearest_neg (half (-a) (by omega))

theorem height_eq (e : EvalInputs) :
    height e = max 50 (min 1200
      (if 2 ≤ (membersOf e.support).length then
        e.geo.com.z - (((membersOf e.support).map fun l => (e.feet.get l).z).sum).tdiv (membersOf e.support).length
      else e.geo.com.z + e.geo.standing)) := by
  rw [height, clampInt_eq_max_min (by norm_num), sumInts_eq_sum]
  rfl

/-- Settles O30: each rounding by its own law. -/
theorem rootAndRounding : Obligations.RootAndRounding := by
  unfold Obligations.RootAndRounding
  refine ⟨isqrt_spec, fun h f fz positive => ⟨roundDiv (h * f) fz, isNearest_roundDiv _ positive, ?_⟩, fun e => ?_⟩
  · rw [offset, clampInt_eq_max_min (by norm_num)]
  · show pressurePoint e = _
    rw [pressurePoint, height_eq, clampInt_eq_max_min (by norm_num), clampInt_eq_max_min (by norm_num)]
    rfl

/-! ## The workspace clamp -/

theorem lengthXY_spec (x y : Int) :
    ∃ n : Nat, lengthXY x y = n ∧ (n * n : Int) ≤ x * x + y * y ∧ x * x + y * y < ((n : Int) + 1) * ((n : Int) + 1) := by
  have square : 0 ≤ x * x + y * y := add_nonneg (mul_self_nonneg x) (mul_self_nonneg y)
  obtain ⟨low, high⟩ := isqrt_spec (x * x + y * y).toNat
  refine ⟨isqrt (x * x + y * y).toNat, rfl, ?_, ?_⟩
  · have := Int.ofNat_le.mpr low
    push_cast at this
    omega
  · have := Int.ofNat_lt.mpr high
    push_cast at this
    omega

theorem abs_tdiv_mul_le (a : Int) {n : Int} (positive : 0 < n) : |a.tdiv n| * n ≤ |a| := by
  obtain ⟨m, rfl⟩ := Int.eq_ofNat_of_zero_le (le_of_lt positive)
  rw [Int.abs_eq_natAbs, Int.abs_eq_natAbs, Int.natAbs_tdiv]
  exact_mod_cast Nat.div_mul_le_self a.natAbs m

/-- What is scaled down to a reach has no greater integer length (R9). -/
theorem lengthXY_scaled_le {x y r n : Int} (reach : 0 < r) (long : r < n) (below : x * x + y * y < (n + 1) * (n + 1)) :
    lengthXY ((x * r).tdiv n) ((y * r).tdiv n) ≤ r := by
  obtain ⟨m, length, low, -⟩ := lengthXY_spec ((x * r).tdiv n) ((y * r).tdiv n)
  rw [length]
  have positive : 0 < n := by omega
  have scaledSq : ∀ a : Int, ((a * r).tdiv n * n) ^ 2 ≤ (a * r) ^ 2 := fun a => by
    refine sq_le_sq.mpr ?_
    rw [abs_mul, abs_of_pos positive]
    exact abs_tdiv_mul_le (a * r) positive
  have hx := scaledSq x
  have hy := scaledSq y
  generalize (x * r).tdiv n = u at hx low
  generalize (y * r).tdiv n = v at hy low
  by_contra tooLong
  have more : r + 1 ≤ (m : Int) := by omega
  have product : (n + 1) * r < (r + 1) * n := by linarith
  have squares : ((n + 1) * r) ^ 2 < ((r + 1) * n) ^ 2 := pow_lt_pow_left₀ product (mul_nonneg (by omega) reach.le) two_ne_zero
  have scaled : ((r + 1) * n) ^ 2 ≤ (m * n : Int) ^ 2 :=
    pow_le_pow_left₀ (mul_nonneg (by omega) positive.le) (mul_le_mul_of_nonneg_right more (by omega)) 2
  have bounded : (m * n : Int) ^ 2 ≤ (u * n) ^ 2 + (v * n) ^ 2 := by
    have := mul_le_mul_of_nonneg_right low (sq_nonneg n)
    linarith
  have whole : (x * r) ^ 2 + (y * r) ^ 2 ≤ ((n + 1) * r) ^ 2 := by
    have := mul_le_mul_of_nonneg_right below.le (sq_nonneg r)
    linarith
  linarith

theorem workspaceClamp_of_short {g : Geometry} {v : Vec3} (short : lengthXY v.x v.y ≤ g.reach) :
    (workspaceClamp g v).x = v.x ∧ (workspaceClamp g v).y = v.y := ⟨if_pos short, if_pos short⟩

theorem workspaceClamp_of_long {g : Geometry} {v : Vec3} (long : g.reach < lengthXY v.x v.y) :
    (workspaceClamp g v).x = (v.x * g.reach).tdiv (lengthXY v.x v.y) ∧
      (workspaceClamp g v).y = (v.y * g.reach).tdiv (lengthXY v.x v.y) := ⟨if_neg (by omega), if_neg (by omega)⟩

theorem workspaceClamp_z {g : Geometry} (order : g.zMin ≤ g.zMax) (v : Vec3) :
    (workspaceClamp g v).z = max (-g.zMax) (min (-g.zMin) v.z) := by
  show (if -g.zMin < v.z then -g.zMin else if v.z < -g.zMax then -g.zMax else v.z) = _
  split
  · omega
  · split <;> omega

/-- What the workspace clamp gives has a length within the reach (R9). -/
theorem lengthXY_workspaceClamp_le {g : Geometry} (reach : 0 < g.reach) (v : Vec3) :
    lengthXY (workspaceClamp g v).x (workspaceClamp g v).y ≤ g.reach := by
  by_cases short : lengthXY v.x v.y ≤ g.reach
  · obtain ⟨x, y⟩ := workspaceClamp_of_short short
    rwa [x, y]
  · obtain ⟨x, y⟩ := workspaceClamp_of_long (lt_of_not_ge short)
    obtain ⟨n, length, -, below⟩ := lengthXY_spec v.x v.y
    rw [x, y]
    rw [length] at short ⊢
    exact lengthXY_scaled_le reach (lt_of_not_ge short) below

theorem workspaceClamp_idem {g : Geometry} (reach : 0 < g.reach) (order : g.zMin ≤ g.zMax) (v : Vec3) :
    workspaceClamp g (workspaceClamp g v) = workspaceClamp g v := by
  obtain ⟨x, y⟩ := workspaceClamp_of_short (lengthXY_workspaceClamp_le reach v)
  have z : (workspaceClamp g (workspaceClamp g v)).z = (workspaceClamp g v).z := by
    rw [workspaceClamp_z order, workspaceClamp_z order]
    omega
  generalize workspaceClamp g (workspaceClamp g v) = w at x y z ⊢
  obtain ⟨wx, wy, wz⟩ := w
  simp only at x y z
  rw [x, y, z]

theorem bodyPos_eq (s : State) (l : Leg) :
    bodyPos s l = ⟨max (-2000) (min 2000 ((s.bus.drives.get l).pos.x + s.geo.hipX.get l)),
      max (-2000) (min 2000 ((s.bus.drives.get l).pos.y + s.geo.hipY.get l)),
      max (-1000) (min 500 (s.bus.drives.get l).pos.z)⟩ := by
  rw [bodyPos, clampInt_eq_max_min (by norm_num), clampInt_eq_max_min (by norm_num), clampInt_eq_max_min (by norm_num)]
  rfl

/-- Settles O31: the clamp by the length of its target, and its own length. -/
theorem workspaceClampSettles : Obligations.WorkspaceClampSettles := by
  unfold Obligations.WorkspaceClampSettles
  refine ⟨fun g v reach order => ⟨?_, workspaceClamp_idem reach order v⟩, fun s l v => ⟨bodyPos_eq s l, rfl⟩⟩
  obtain ⟨n, length, low, below⟩ := lengthXY_spec v.x v.y
  refine ⟨n, low, below, fun short => ?_, fun long => ?_, workspaceClamp_z order v⟩
  · exact workspaceClamp_of_short (by rwa [length])
  · rw [← length] at long ⊢
    exact workspaceClamp_of_long long

end Sys2Proof.Machine
end

section
/-! RECEIVER. Bytes taken one after another leave what the receiver makes of the whole string (R158 to R160); a frame is what
`assemble` takes for one, and no other bytes are (R157). -/

namespace Sys2Proof.Machine

/-! ## What is a frame -/

section
variable {bs more : List Byte} {f : Frame}

theorem assemble_of_long {len : Byte} {rest : List Byte} (long : 96 < len.toNat) : assemble (syncByte :: len :: rest) = .longLen :=
  if_pos long

theorem assemble_of_short {len : Byte} {rest : List Byte} (fits : len.toNat ≤ 96) (short : rest.length < len.toNat + 4) :
    assemble (syncByte :: len :: rest) = .incomplete := by
  rw [assemble, if_neg (by simpa [Config.maxLen] using fits), if_pos (by simp; omega)]

theorem assemble_of_whole {len : Byte} {rest : List Byte} (fits : len.toNat ≤ 96) (whole : len.toNat + 4 ≤ rest.length) :
    assemble (syncByte :: len :: rest) =
      if putCheck (crc16 (len :: rest.take (len.toNat + 2))) = (rest.drop (len.toNat + 2)).take 2 then
        .good ⟨rest.getD 0 0, rest.getD 1 0, (rest.drop 2).take len.toNat⟩
      else .badCheck := by
  rw [assemble, if_neg (by simpa [Config.maxLen] using fits), if_neg (by simp; omega)]

/-- Bytes that are no longer incomplete stay what they are, whatever follows. -/
theorem assemble_append (settled : assemble (syncByte :: bs) ≠ .incomplete) :
    assemble (syncByte :: bs ++ more) = assemble (syncByte :: bs) := by
  cases bs with
  | nil => exact absurd rfl settled
  | cons len rest =>
    by_cases long : 96 < len.toNat
    · exact (assemble_of_long long).trans (assemble_of_long long).symm
    by_cases short : rest.length < len.toNat + 4
    · exact absurd (assemble_of_short (by omega) short) settled
    · have whole : len.toNat + 4 ≤ rest.length := by omega
      show assemble (syncByte :: len :: (rest ++ more)) = _
      rw [assemble_of_whole (by omega) whole, assemble_of_whole (by omega) (by simp; omega)]
      have first : (rest ++ more).take (len.toNat + 2) = rest.take (len.toNat + 2) := List.take_append_of_le_length (by omega)
      have check : ((rest ++ more).drop (len.toNat + 2)).take 2 = (rest.drop (len.toNat + 2)).take 2 := by
        rw [List.drop_append_of_le_length (by omega), List.take_append_of_le_length (by simp; omega)]
      have payload : ((rest ++ more).drop 2).take len.toNat = (rest.drop 2).take len.toNat := by
        rw [List.drop_append_of_le_length (by omega), List.take_append_of_le_length (by simp; omega)]
      have kind : (rest ++ more).getD 0 0 = rest.getD 0 0 := List.getD_append _ _ _ _ (by omega)
      have tag : (rest ++ more).getD 1 0 = rest.getD 1 0 := List.getD_append _ _ _ _ (by omega)
      rw [first, check, payload, kind, tag]

/-- A good frame is its layout, byte for byte (R157). -/
theorem linkFrameBytes_of_assemble (good : assemble (syncByte :: bs) = .good f) :
    f.payload.length ≤ 96 ∧ f.payload.length + 5 ≤ bs.length ∧ (syncByte :: bs).take (f.payload.length + 6) = linkFrameBytes f := by
  cases bs with
  | nil => cases good
  | cons len rest =>
    by_cases long : 96 < len.toNat
    · rw [assemble_of_long long] at good
      cases good
    by_cases short : rest.length < len.toNat + 4
    · rw [assemble_of_short (by omega) short] at good
      cases good
    rw [assemble_of_whole (by omega) (by omega)] at good
    split at good
    case isFalse => cases good
    case isTrue check =>
      obtain rfl := Assembly.good.inj good
      obtain ⟨kind, tag, payload, rfl⟩ : ∃ k t p, rest = k :: t :: p := by
        rcases rest with _ | ⟨k, _ | ⟨t, p⟩⟩
        · simp at short
        · simp at short
        · exact ⟨k, t, p, rfl⟩
      have length : (payload.take len.toNat).length = len.toNat := by simp at short ⊢; omega
      have split : payload.take (len.toNat + 2) = payload.take len.toNat ++ (payload.drop len.toNat).take 2 := List.take_add
      have byte : put8 len.toNat = [len] := by rw [put8, BitVec.ofNat_toNat, BitVec.setWidth_eq]
      have checked : putCheck (crc16 (len :: kind :: tag :: payload.take len.toNat)) = (payload.drop len.toNat).take 2 := check
      show (payload.take len.toNat).length ≤ 96 ∧ (payload.take len.toNat).length + 5 ≤ _ ∧
        (syncByte :: len :: kind :: tag :: payload).take ((payload.take len.toNat).length + 6) =
          linkFrameBytes ⟨kind, tag, payload.take len.toNat⟩
      rw [length]
      refine ⟨by omega, by simp at short ⊢; omega, ?_⟩
      show syncByte :: len :: kind :: tag :: payload.take (len.toNat + 2) = _
      rw [linkFrameBytes, length, byte, split, ← checked]
      rfl

/-- A frame is the SYNC, its LEN, and its KIND, TAG, payload and CHECK (R157). -/
theorem linkFrameBytes_eq (f : Frame) :
    linkFrameBytes f = syncByte :: BitVec.ofNat 8 f.payload.length :: f.kind :: f.tag ::
      (f.payload ++ putCheck (crc16 (BitVec.ofNat 8 f.payload.length :: f.kind :: f.tag :: f.payload))) := rfl

theorem assemble_linkFrameBytes (fits : f.payload.length ≤ 96) : assemble (linkFrameBytes f) = .good f := by
  have len : (BitVec.ofNat 8 f.payload.length).toNat = f.payload.length := by
    rw [BitVec.toNat_ofNat]
    omega
  rw [linkFrameBytes_eq, assemble_of_whole (by omega) (by simp [len, putCheck]), len]
  have body : (f.kind :: f.tag :: (f.payload ++ putCheck (crc16 (BitVec.ofNat 8 f.payload.length :: f.kind :: f.tag :: f.payload)))).take
      (f.payload.length + 2) = f.kind :: f.tag :: f.payload := by simp
  have check : ((f.kind :: f.tag :: (f.payload ++ putCheck (crc16 (BitVec.ofNat 8 f.payload.length :: f.kind :: f.tag :: f.payload)))).drop
      (f.payload.length + 2)).take 2 = putCheck (crc16 (BitVec.ofNat 8 f.payload.length :: f.kind :: f.tag :: f.payload)) := by
    simp [putCheck]
  rw [body, check, if_pos rfl]
  simp

end

/-! ## Taking bytes one after another -/

section
variable {s : State}

theorem raise_holdBytes (e : Event) (bs : List Byte) (s : State) : holdBytes bs (raise e s) = raise e (holdBytes bs s) := by
  cases set : hasEvent s.ev.pending e with
  | true => rw [raise_of_pending set, raise_of_pending (s := holdBytes bs s) set]
  | false =>
    rw [raise_of_clear set, raise_of_clear (s := holdBytes bs s) set, apply_ite (holdBytes bs)]
    unfold requestNotice
    rw [apply_ite (holdBytes bs)]
    rfl

theorem goodFrame_holdBytes (f : Frame) (bs : List Byte) (s : State) : goodFrame f (holdBytes bs s) = holdBytes bs (goodFrame f s) := by
  unfold goodFrame restartSilence
  dsimp only
  rw [apply_ite (holdBytes bs), apply_ite (holdBytes bs), raise_holdBytes]
  rfl

theorem discardFrame_holdBytes (bs : List Byte) (s : State) : discardFrame (holdBytes bs s) = holdBytes bs (discardFrame s) :=
  (raise_holdBytes .linkError bs (bump .framesBadCheck s)).symm

theorem receive_of_ne {b : Byte} (other : b ≠ syncByte) (rest : List Byte) (s : State) : receive (b :: rest) 0 s = receive rest 0 s :=
  if_neg other

theorem receive_of_incomplete {rest : List Byte} (short : assemble (syncByte :: rest) = .incomplete) (s : State) :
    receive (syncByte :: rest) 0 s = holdBytes (syncByte :: rest) s := by
  rw [receive, if_pos rfl, short]

theorem receive_of_discarded {rest : List Byte} (bad : assemble (syncByte :: rest) = .longLen ∨ assemble (syncByte :: rest) = .badCheck)
    (s : State) : receive (syncByte :: rest) 0 s = receive rest 0 (discardFrame s) := by
  rw [receive, if_pos rfl]
  rcases bad with bad | bad <;> rw [bad]

theorem receive_of_good {rest : List Byte} {f : Frame} (good : assemble (syncByte :: rest) = .good f) (s : State) :
    receive (syncByte :: rest) 0 s = receive rest (f.payload.length + 5) (goodFrame f s) := by
  rw [receive, if_pos rfl, good]

/-- What the receiver makes of a string does not depend on the bytes it held before. -/
theorem receive_holdBytes (bs held : List Byte) (skip : Nat) (s : State) : receive bs skip (holdBytes held s) = receive bs skip s := by
  induction bs generalizing skip s with
  | nil => rfl
  | cons b rest ih =>
    cases skip with
    | succ skip => exact ih skip s
    | zero =>
      by_cases sync : b = syncByte
      · subst sync
        cases judged : assemble (syncByte :: rest) with
        | incomplete => rw [receive_of_incomplete judged, receive_of_incomplete judged]; rfl
        | longLen => rw [receive_of_discarded (.inl judged), receive_of_discarded (.inl judged), discardFrame_holdBytes, ih]
        | badCheck => rw [receive_of_discarded (.inr judged), receive_of_discarded (.inr judged), discardFrame_holdBytes, ih]
        | good f => rw [receive_of_good judged, receive_of_good judged, goodFrame_holdBytes, ih]
      · rw [receive_of_ne sync, receive_of_ne sync, ih]

theorem takeBytes_cons (b : Byte) (rest : List Byte) (s : State) :
    takeBytes (b :: rest) s = takeBytes rest (receive (s.link.held ++ [b]) 0 s) := rfl

/-- Bytes taken one after another leave what the receiver makes of the whole string. -/
theorem takeBytes_receive (rest as : List Byte) (skip : Nat) (s : State) (held : skip ≤ as.length) :
    takeBytes rest (receive as skip s) = some (receive (as ++ rest) skip s) := by
  induction rest generalizing as skip s with
  | nil => rw [List.append_nil]; rfl
  | cons b rest later =>
    induction as generalizing skip s with
    | nil =>
      obtain rfl : skip = 0 := Nat.le_zero.mp held
      have first : receive [b] 0 (holdBytes [] s) = receive [b] 0 s := receive_holdBytes ..
      show takeBytes rest (receive [b] 0 (holdBytes [] s)) = _
      rw [first, later [b] 0 s (Nat.zero_le _)]
      rfl
    | cons a as earlier =>
      cases skip with
      | succ skip => exact earlier skip s (Nat.le_of_succ_le_succ held)
      | zero =>
        by_cases sync : a = syncByte
        · subst sync
          cases judged : assemble (syncByte :: as) with
          | incomplete =>
            rw [receive_of_incomplete judged, takeBytes_cons]
            show takeBytes rest (receive (syncByte :: as ++ [b]) 0 (holdBytes (syncByte :: as) s)) = _
            rw [receive_holdBytes, later _ 0 s (Nat.zero_le _), List.append_assoc]
            rfl
          | longLen =>
            have still := (assemble_append (more := b :: rest) (by rw [judged]; nofun)).trans judged
            rw [receive_of_discarded (.inl judged), earlier 0 _ (Nat.zero_le _)]
            exact congrArg some (receive_of_discarded (.inl still) s).symm
          | badCheck =>
            have still := (assemble_append (more := b :: rest) (by rw [judged]; nofun)).trans judged
            rw [receive_of_discarded (.inr judged), earlier 0 _ (Nat.zero_le _)]
            exact congrArg some (receive_of_discarded (.inr still) s).symm
          | good f =>
            have still := (assemble_append (more := b :: rest) (by rw [judged]; nofun)).trans judged
            rw [receive_of_good judged, earlier _ _ (linkFrameBytes_of_assemble judged).2.1]
            exact congrArg some (receive_of_good still s).symm
        · rw [receive_of_ne sync, earlier 0 s (Nat.zero_le _)]
          exact congrArg some (receive_of_ne sync _ s).symm

end

/-! ## The receiver's claims -/

section
variable {s : State}

theorem receive_of_no_sync {bytes : List Byte} (none : syncByte ∉ bytes) (s : State) : receive bytes 0 s = holdBytes [] s := by
  induction bytes with
  | nil => rfl
  | cons b rest ih =>
    rw [receive_of_ne (fun sync => none (sync ▸ List.mem_cons_self)), ih fun mem => none (List.mem_cons_of_mem b mem)]

theorem receive_skip_all (bytes : List Byte) (s : State) : receive bytes bytes.length s = holdBytes [] s := by
  induction bytes with
  | nil => rfl
  | cons b rest ih => exact ih

/-- A frame as R157 lays it out is received whole. -/
theorem receive_linkFrameBytes {f : Frame} (fits : f.payload.length ≤ 96) (s : State) :
    receive (linkFrameBytes f) 0 s = holdBytes [] (goodFrame f s) := by
  have good := assemble_linkFrameBytes fits
  rw [linkFrameBytes_eq] at good ⊢
  rw [receive_of_good good]
  generalize check : putCheck (crc16 (BitVec.ofNat 8 f.payload.length :: f.kind :: f.tag :: f.payload)) = c
  have length : (BitVec.ofNat 8 f.payload.length :: f.kind :: f.tag :: (f.payload ++ c)).length = f.payload.length + 5 := by
    simp [← check, putCheck]
  rw [← length]
  exact receive_skip_all _ _

/-- Bytes taken by a hunting receiver leave what it makes of the whole string. -/
theorem takeBytes_of_held_nil (hunting : s.link.held = []) {b : Byte} (rest : List Byte) :
    takeBytes (b :: rest) s = some (receive (b :: rest) 0 s) := by
  rw [takeBytes_cons, hunting]
  exact takeBytes_receive rest [b] 0 s (Nat.zero_le _)

/-- Settles O14. -/
theorem onlyWholeFramesAreGood : Obligations.OnlyWholeFramesAreGood := by
  unfold Obligations.OnlyWholeFramesAreGood
  intro bs f good
  obtain ⟨fits, -, bytes⟩ := linkFrameBytes_of_assemble good
  exact ⟨fits, bytes⟩

theorem goodFrame_of_room {f : Frame} (room : s.link.buffer.length < 4) :
    goodFrame f s = (bump .framesGood s).setLink { s.link with
      buffer := s.link.buffer ++ [f]
      silence :=
        if (s.sup.mode = .rising ∨ s.sup.mode = .standing) ∧ s.sup.silenceLimit ≠ 0 then some s.sup.silenceLimit
        else s.link.silence } := by
  have mode : silenceMode s.sup.mode = true ↔ s.sup.mode = .rising ∨ s.sup.mode = .standing := by
    cases s.sup.mode <;> simp [silenceMode]
  unfold goodFrame restartSilence
  rw [if_pos (by exact room)]
  show (if silenceMode s.sup.mode = true ∧ s.sup.silenceLimit ≠ 0 then _ else _) = _
  simp only [mode]
  split <;> rfl

theorem goodFrame_of_full {f : Frame} (full : 4 ≤ s.link.buffer.length) :
    goodFrame f s = raise .linkError (bump .framesOverrun (bump .framesGood s)) := if_neg (by show ¬ s.link.buffer.length < 4; omega)

/-- Settles O13: the frame's bytes as one string, which `assemble` takes for the frame. -/
theorem frameIsReceivedWhole : Obligations.FrameIsReceivedWhole := by
  unfold Obligations.FrameIsReceivedWhole
  intro f s fits hunting
  have taken : takeBytes (linkFrameBytes f) s = some (holdBytes [] (goodFrame f s)) := by
    rw [← receive_linkFrameBytes fits]
    exact takeBytes_of_held_nil hunting _
  refine ⟨fun room => ?_, fun full => ⟨holdBytes [] (goodFrame f s), taken, rfl, rfl, ?_⟩⟩
  · rw [taken, goodFrame_of_room room]
    rfl
  · rw [goodFrame_of_full full]
    obtain ⟨es, tx, raised, h⟩ := raise_eq .linkError (bump .framesOverrun (bump .framesGood s))
    rw [h]
    exact ⟨rfl, rfl, rfl, raised⟩

/-- Settles O12: each byte and each discard by what the receiver holds. -/
theorem receiverHunts : Obligations.ReceiverHunts := by
  unfold Obligations.ReceiverHunts
  intro b s counted discards
  have again : ∀ later, takeBytes later (holdBytes [] counted) = some (receive later 0 counted) := fun later =>
    takeBytes_receive later [] 0 counted (Nat.zero_le _)
  refine ⟨fun hunting => ⟨?_, fun other => ?_, ?_⟩, fun len rest held fits short => ?_, fun c later discarded =>
    ⟨receive later 0 counted, ?_, again later, fun none => receive_of_no_sync none counted, ?_⟩, fun running => ?_⟩
  · show Host.Outcome.next (linkByte b true s) = _
    simp [linkByte, hunting]
  · show Host.Outcome.next (receive (s.link.held ++ [b]) 0 s) = _
    rw [hunting, List.nil_append, receive_of_ne other]
    rfl
  · show Host.Outcome.next (receive (s.link.held ++ [syncByte]) 0 s) = _
    rw [hunting, List.nil_append, receive_of_incomplete rfl]
    rfl
  · show Host.Outcome.next (receive (s.link.held ++ [b]) 0 s) = _
    rw [held]
    exact congrArg _ (receive_of_incomplete (assemble_of_short fits short) s)
  · rcases discarded with ⟨rfl, held, long, rfl⟩ | ⟨rfl, out, held⟩ | ⟨rfl, held⟩ | ⟨rfl, len, rest, rfl, held, fits, length, wrong⟩
    · show Host.Outcome.next (receive (s.link.held ++ [b]) 0 s) = _
      rw [held]
      exact congrArg _ (receive_of_discarded (.inl (assemble_of_long long)) s)
    · show Host.Outcome.next (gapTimerExpiry s) = _
      rw [gapTimerExpiry, if_pos (by simp [ranOut, out]), discardAndGoBack, held]
      rfl
    · show Host.Outcome.next (linkByte b true s) = _
      simp only [linkByte, held, discardAndGoBack]
      rfl
    · show Host.Outcome.next (receive (s.link.held ++ [b]) 0 s) = _
      rw [held]
      refine congrArg _ (receive_of_discarded (.inr ?_) s)
      have check : (rest.drop (len.toNat + 2)).take 2 = rest.drop (len.toNat + 2) := List.take_of_length_le (by simp; omega)
      refine (assemble_of_whole fits (by omega)).trans (if_neg ?_)
      rw [check]
      exact wrong
  · rintro rfl
    exact receive_of_incomplete rfl counted
  · show Host.Outcome.next (gapTimerExpiry s) = _
    rw [gapTimerExpiry, if_neg (by simpa [ranOut] using running)]

end

end Sys2Proof.Machine
end

section
/-! ISSUE. When the head of the plan list is issued, and what its issue leaves (R76, R77, R119). -/

namespace Sys2Proof.Machine

section
variable {s t u : State} {r : PlanRecord} {rest : List PlanRecord}

/-! ## When the head is issued -/

theorem legReady_iff (s : State) (l : Leg) :
    legReady s l = true ↔ (s.legs.get l).phase = .stance ∧ (∀ w ∈ s.plan.window, l ∉ w.body.legs) ∧
      ((s.feet.get l).contact = .loaded ∨ (s.feet.get l).contact = .slipping) := by
  simp [legReady, WindowRecord.names, and_assoc]

theorem canIssue_iff (s : State) (r : PlanRecord) : canIssue r s = true ↔ MayIssue s r := by
  have conditions : canIssue r s = true ↔ s.plan.state = .active ∧ s.sup.mode = .standing ∧ s.att.stale = false ∧
      s.bal.braceOut = false ∧ s.plan.window.length < s.gait.window ∧
      (∀ w ∈ s.plan.window, w.body.hold = false ∧ w.body.kind ≠ .shift) ∧
      (if r.kind = .shift then s.plan.window.isEmpty && s.legs.all fun q => decide (q.phase = .stance)
        else r.legs.all (legReady s)) = true := by
    unfold canIssue
    cases r.kind <;> simp [and_assoc]
  rw [conditions]
  unfold MayIssue
  by_cases shift : r.kind = .shift
  · simp [shift, Quad.all_iff]
  · simp [shift, legReady_iff]

theorem issue_of_empty (list : s.plan.list = []) : issue s = s := by rw [issue, list]; rfl

theorem issue_of_not_mayIssue (list : s.plan.list = r :: rest) (waits : ¬ MayIssue s r) : issue s = s := by
  rw [issue, list, issueFrom, if_neg (mt (canIssue_iff s r).mp waits)]

theorem issue_of_mayIssue (list : s.plan.list = r :: rest) (may : MayIssue s r) : issue s = issue (issueHead r rest s) := by
  rw [issue, list, issueFrom, if_pos ((canIssue_iff s r).mpr may), issue, issueHead_list]

/-- Behind a SHIFT nothing is issued (R76). -/
theorem issue_of_shift {w : WindowRecord} (window : w ∈ s.plan.window) (shift : w.body.kind = .shift) : issue s = s := by
  cases list : s.plan.list with
  | nil => exact issue_of_empty list
  | cons r rest => exact issue_of_not_mayIssue list fun ⟨_, _, _, _, _, others, _⟩ => (others w window).2 shift

theorem headWaits_issue (s : State) : HeadWaits (issue s) := by
  suffices h : ∀ rs s, s.plan.list = rs → HeadWaits (issue s) from h _ s rfl
  intro rs
  induction rs with
  | nil =>
    intro s list r rest head
    rw [issue_of_empty list, list] at head
    cases head
  | cons r rest ih =>
    intro s list
    by_cases may : MayIssue s r
    · rw [issue_of_mayIssue list may]
      exact ih _ (issueHead_list ..)
    · rw [issue_of_not_mayIssue list may]
      intro r' rest' head
      rw [list] at head
      cases head
      exact may

/-! ## What an issue leaves -/

theorem issueHead_of_step (kind : r.kind ≠ .shift) (rest : List PlanRecord) (s : State) :
    issueHead r rest s =
      (s.setPlan { s.plan with list := rest, window := s.plan.window ++ [⟨{ r with preshifts := 0 }, .waiting, []⟩] }).setBal
        { s.bal with queue := s.bal.queue ++ [⟨r.id, r.legs, r.noPreshift, 0⟩] } := by
  unfold issueHead
  cases kindEq : r.kind with
  | shift => exact absurd kindEq kind
  | step | pair => rfl

theorem issueHead_of_shift (kind : r.kind = .shift) (rest : List PlanRecord) (s : State) :
    issueHead r rest s = startShift r.id r.disp
      (s.setPlan { s.plan with list := rest, window := s.plan.window ++ [⟨{ r with preshifts := 0 }, .running, []⟩] }) := by
  rw [issueHead, kind]

/-- Where a leg is sent by a SHIFT, in the hip frame before the clamp (R119). -/
def shiftedHip (s : State) (d : Vec3) (l : Leg) : Vec3 :=
  let c := (s.legs.get l).commanded
  ⟨c.x + d.x, c.y + d.y, c.z + d.z⟩

theorem toHip_shiftedTarget (s : State) (d : Vec3) (l : Leg) : toHip s.geo l (shiftedTarget s d l) = shiftedHip s d l := by
  simp only [toHip, shiftedTarget, toBody, Vec3.add, shiftedHip, Vec3.mk.injEq, and_true]
  constructor <;> ring

/-- Whether a SHIFT is marked CLAMPED at its start: some leg's target is a clamped target (R10, R119). -/
def shiftMarks (s : State) (d : Vec3) : Bool := legsInOrder.any fun l => isClamped s.geo l (shiftedTarget s d l)

theorem shiftMarks_iff (s : State) (d : Vec3) :
    shiftMarks s d = true ↔ ∃ l, workspaceClamp s.geo (shiftedHip s d l) ≠ shiftedHip s d l := by
  simp [shiftMarks, List.any_eq_true, mem_legsInOrder, isClamped, hipTarget, toHip_shiftedTarget]

theorem commands_sendShifted (d : Vec3) {ls : List Leg} (nodup : ls.Nodup) (s : State) :
    Commands ls (fun l => LegSeq.sent (workspaceClamp s.geo (shiftedHip s d l)) (some s.gait.shiftSpeed))
      (setpointTo s (shiftedTarget s d) s.gait.shiftSpeed) s (forLegs (sendShifted d) ls s) := by
  refine (commands_setpoints (fun g l q => (toBody g l q.commanded).add d) s.gait.shiftSpeed s (fun l t gait => ?_) nodup).congr
    (fun l _ => ?_) fun _ _ => rfl
  · rw [sendShifted, gait]
    rfl
  · rw [← toHip_shiftedTarget]
    rfl

/-- The state with a SHIFT's record marked where it has to be, and with the shift timer started (R10, R119). -/
def shiftMarked (id : Nat) (d : Vec3) (s : State) : State :=
  if legsInOrder.any (fun l => isClamped s.geo l (shiftedTarget s d l)) then markRecord id s else s

theorem shiftMarked_eq (id : Nat) (d : Vec3) (s : State) :
    shiftMarked id d s = if shiftMarks s d then markRecord id s else s := rfl

def shiftTimed (s : State) : State := s.setPlan { s.plan with shiftTimer := some (shiftTime s legsInOrder) }

theorem startShift_eq (id : Nat) (disp : Vec3) (s : State) :
    startShift id disp s = shiftTimed (forLegs (sendShifted disp.neg) legsInOrder (shiftMarked id disp.neg s)) := by
  simp only [startShift, shiftTimed, shiftMarked]

theorem shiftMarked_frame (id : Nat) (d : Vec3) (s : State) : shiftMarked id d s = s.setPlan (shiftMarked id d s).plan := by
  unfold shiftMarked
  split <;> rfl

/-- From `s` to `t` every leg is sent by a displacement and the shift timer starts; the record is marked where it has to be (R119). -/
structure ShiftStarts (id : Nat) (disp : Vec3) (s t : State) : Prop where
  legs : ∀ l, t.legs.get l = (s.legs.get l).sent (workspaceClamp s.geo (shiftedHip s disp.neg l)) (some s.gait.shiftSpeed)
  sends : s.sup.mode ≠ .parked → ∀ l, setpointTo s (shiftedTarget s disp.neg) s.gait.shiftSpeed l ∈ t.bus.queue
  plan : t.plan = { (shiftMarked id disp.neg s).plan with
    shiftTimer := some (allowed (s.legs.any LegSeq.derating) s.gait.shiftTimeout) }
  frame : t = ((s.setPlan t.plan).setLegs t.legs).setBus { s.bus with queue := t.bus.queue }

theorem shiftTime_legsInOrder (s : State) :
    shiftTime s legsInOrder = allowed (s.legs.any LegSeq.derating) s.gait.shiftTimeout := by
  simp [shiftTime, allowed, legsInOrder, Quad.any, Quad.get, or_assoc]

theorem shiftStarts_startShift (id : Nat) (disp : Vec3) (s : State) : ShiftStarts id disp s (startShift id disp s) := by
  rw [startShift_eq, shiftMarked_frame]
  generalize plan : (shiftMarked id disp.neg s).plan = p
  have h := commands_sendShifted disp.neg nodup_legsInOrder (s.setPlan p)
  generalize forLegs (sendShifted disp.neg) legsInOrder (s.setPlan p) = t at h
  have told : ∀ l, t.legs.get l = (s.legs.get l).sent (workspaceClamp s.geo (shiftedHip s disp.neg l)) (some s.gait.shiftSpeed) :=
    fun l => h.told l (mem_legsInOrder l)
  have time : shiftTime t legsInOrder = allowed (s.legs.any LegSeq.derating) s.gait.shiftTimeout := by
    rw [shiftTime_legsInOrder, h.gait, any_derating_congr (q := s.legs) fun l => by rw [told]; rfl]
    rfl
  rw [shiftTimed, time]
  refine ⟨told, fun running l => h.waits running l (mem_legsInOrder l), ?_, ?_⟩
  · rw [plan, State.setPlan_plan, h.plan]
    rfl
  · rw [h.frame]
    rfl

/-- From `s` to `t` records have left the list for the window: only that, the grant queue, the legs and the transaction queue have
changed (R76, R77). -/
structure Issues (s t : State) : Prop where
  frame : t = (((s.setPlan t.plan).setBal { s.bal with queue := t.bal.queue }).setLegs t.legs).setBus
    { s.bus with queue := t.bus.queue }
  state : t.plan.state = s.plan.state
  count : t.plan.list.length + t.plan.window.length = s.plan.list.length + s.plan.window.length

theorem Issues.refl (s : State) : Issues s s := ⟨rfl, rfl, rfl⟩

theorem Issues.trans (h : Issues s t) (k : Issues t u) : Issues s u where
  frame := by
    have bal : t.bal = { s.bal with queue := t.bal.queue } := by
      conv_lhs => rw [h.frame]
      rfl
    have bus : t.bus = { s.bus with queue := t.bus.queue } := by
      conv_lhs => rw [h.frame]
      rfl
    have step := k.frame
    generalize u.plan = p at step ⊢
    generalize u.bal.queue = q at step ⊢
    generalize u.legs = legs at step ⊢
    generalize u.bus.queue = txns at step ⊢
    rw [step, bal, bus]
    have first := h.frame
    generalize t.plan = p' at first
    generalize t.bal.queue = q' at first ⊢
    generalize t.legs = legs' at first
    generalize t.bus.queue = txns' at first ⊢
    subst first
    simp only [State.setPlan, State.setBal, State.setLegs, State.setBus]
  state := k.state.trans h.state
  count := k.count.trans h.count

theorem Issues.sup (h : Issues s t) : t.sup = s.sup := by rw [h.frame]; rfl
theorem Issues.ev (h : Issues s t) : t.ev = s.ev := by rw [h.frame]; rfl
theorem Issues.link (h : Issues s t) : t.link = s.link := by rw [h.frame]; rfl
theorem Issues.att (h : Issues s t) : t.att = s.att := by rw [h.frame]; rfl
theorem Issues.feet (h : Issues s t) : t.feet = s.feet := by rw [h.frame]; rfl
theorem Issues.bal (h : Issues s t) : t.bal = { s.bal with queue := t.bal.queue } := by rw [h.frame]; rfl
theorem Issues.balCfg (h : Issues s t) : t.balCfg = s.balCfg := by rw [h.frame]; rfl

/-- The marking of a record of the window keeps the plan otherwise. -/
theorem markRecord_plan (id : Nat) (s : State) : (markRecord id s).plan =
    { s.plan with window := s.plan.window.map fun w => if w.body.id = id then { w with body := { w.body with clamped := true } } else w } :=
  rfl

theorem issues_issueHead (list : s.plan.list = r :: rest) : Issues s (issueHead r rest s) := by
  by_cases kind : r.kind = .shift
  · rw [issueHead_of_shift kind]
    have h := shiftStarts_startShift r.id r.disp
      (s.setPlan { s.plan with list := rest, window := s.plan.window ++ [⟨{ r with preshifts := 0 }, .running, []⟩] })
    generalize startShift r.id r.disp _ = t at h
    refine ⟨h.frame.trans ?_, ?_, ?_⟩
    · have bal : t.bal.queue = s.bal.queue := by rw [h.frame]; rfl
      rw [bal]
      rfl
    · rw [h.plan, shiftMarked_eq]
      split <;> rfl
    · rw [h.plan, shiftMarked_eq]
      split <;> simp [markRecord_plan, list] <;> omega
  · rw [issueHead_of_step kind]
    refine ⟨rfl, rfl, ?_⟩
    simp [list]
    omega

theorem issues_issue (s : State) : Issues s (issue s) := by
  suffices h : ∀ rs s, s.plan.list = rs → Issues s (issue s) from h _ s rfl
  intro rs
  induction rs with
  | nil =>
    intro s list
    rw [issue_of_empty list]
    exact .refl s
  | cons r rest ih =>
    intro s list
    by_cases may : MayIssue s r
    · rw [issue_of_mayIssue list may]
      exact (issues_issueHead list).trans (ih _ (issueHead_list ..))
    · rw [issue_of_not_mayIssue list may]
      exact .refl s

/-! ## What an issue does not look at -/

/-- The Link Port, and the Attitude Port but for its stale flag. -/
def State.withPorts (p : LinkPort) (a : Attitude) (s : State) : State := (s.setLink p).setAtt a

theorem forLegs_comm {f : State → State} {op : Leg → State → State} (one : ∀ l s, op l (f s) = f (op l s)) (ls : List Leg) (s : State) :
    forLegs op ls (f s) = f (forLegs op ls s) := by
  induction ls generalizing s with
  | nil => rfl
  | cons l rest ih => exact (congrArg (forLegs op rest) (one l s)).trans (ih _)

section
variable (p : LinkPort) (a : Attitude)

theorem sendShifted_withPorts (d : Vec3) (l : Leg) (s : State) :
    sendShifted d l (s.withPorts p a) = (sendShifted d l s).withPorts p a := by
  simp only [sendShifted, sendSetpoint, handover_eq]
  rfl

theorem startShift_withPorts (id : Nat) (d : Vec3) (s : State) :
    startShift id d (s.withPorts p a) = (startShift id d s).withPorts p a := by
  have marked : shiftMarked id d.neg (s.withPorts p a) = (shiftMarked id d.neg s).withPorts p a := by
    have marks : shiftMarks (s.withPorts p a) d.neg = shiftMarks s d.neg := rfl
    rw [shiftMarked_eq, shiftMarked_eq, marks]
    split <;> rfl
  have timed : ∀ s, shiftTimed (s.withPorts p a) = (shiftTimed s).withPorts p a := fun _ => rfl
  rw [startShift_eq, startShift_eq, marked, forLegs_comm (f := State.withPorts p a) (sendShifted_withPorts p a d.neg), timed]

theorem issueHead_withPorts (r : PlanRecord) (rest : List PlanRecord) (s : State) :
    issueHead r rest (s.withPorts p a) = (issueHead r rest s).withPorts p a := by
  by_cases kind : r.kind = .shift
  · rw [issueHead_of_shift kind, issueHead_of_shift kind, ← startShift_withPorts]
    rfl
  · rw [issueHead_of_step kind, issueHead_of_step kind]
    rfl

theorem issueFrom_withPorts (rs : List PlanRecord) (s : State) (same : a.stale = s.att.stale) :
    issueFrom rs (s.withPorts p a) = (issueFrom rs s).withPorts p a := by
  induction rs generalizing s with
  | nil => rfl
  | cons r rest ih =>
    have can : canIssue r (s.withPorts p a) = canIssue r s := by
      unfold canIssue
      rw [show (s.withPorts p a).att.stale = s.att.stale from same]
      rfl
    rw [issueFrom, issueFrom, can]
    split
    case isTrue may =>
      have list : (s.setPlan { s.plan with list := r :: rest }).plan.list = r :: rest := rfl
      have att : (issueHead r rest s).att = s.att := (calm_issueHead r rest s).quiet.att
      rw [issueHead_withPorts, ih _ (by rw [att]; exact same)]
    case isFalse => rfl

end

theorem issue_withPorts (p : LinkPort) (a : Attitude) (s : State) (same : a.stale = s.att.stale) :
    issue (s.withPorts p a) = (issue s).withPorts p a := issueFrom_withPorts p a _ s same

theorem issue_setLink (p : LinkPort) (s : State) : issue (s.setLink p) = (issue s).setLink p := by
  have h := issue_withPorts p s.att s rfl
  have att : (issue s).att = s.att := (issues_issue s).att
  have split : (issue s).withPorts p s.att = (issue s).setLink p := by
    rw [← att]
    rfl
  exact h.trans split

/-! ## The head record and the accepted sample -/

/-- Where a SHIFT sends a leg: to its commanded target less the displacement (R119). -/
theorem shiftedHip_neg (s : State) (d : Vec3) (l : Leg) :
    shiftedHip s d.neg l = ⟨(s.legs.get l).commanded.x - d.x, (s.legs.get l).commanded.y - d.y, (s.legs.get l).commanded.z - d.z⟩ := by
  simp [shiftedHip, Vec3.neg, Int.sub_eq_add_neg]

/-- The state in which the body shift of an issued SHIFT starts (R77). -/
def shiftIssued (r : PlanRecord) (rest : List PlanRecord) (s : State) : State :=
  s.setPlan { s.plan with list := rest, window := [⟨{ r with preshifts := 0 }, .running, []⟩] }

theorem issue_of_shift_head (list : s.plan.list = r :: rest) (may : MayIssue s r) (kind : r.kind = .shift) :
    issue s = startShift r.id r.disp (shiftIssued r rest s) := by
  have alone := canIssue_alone ((canIssue_iff s r).mpr may) kind
  have started : issueHead r rest s = startShift r.id r.disp (shiftIssued r rest s) := by
    rw [issueHead_of_shift kind, alone]
    rfl
  rw [issue_of_mayIssue list may, started]
  have plan := (shiftStarts_startShift r.id r.disp (shiftIssued r rest s)).plan
  have seat : ∃ w ∈ (startShift r.id r.disp (shiftIssued r rest s)).plan.window, w.body.kind = .shift := by
    rw [plan, shiftMarked_eq]
    split
    · exact ⟨_, List.mem_map_of_mem (List.mem_singleton.mpr rfl), by split <;> exact kind⟩
    · exact ⟨_, List.mem_singleton.mpr rfl, kind⟩
  obtain ⟨w, window, shift⟩ := seat
  exact issue_of_shift window shift

/-- A trigger changes the Balance Engine alone (R48). -/
theorem trigger_frame (s : State) : trigger s = s.setBal (trigger s).bal := by
  rcases trigger_cases s with ⟨-, h⟩ | ⟨-, h⟩ <;> rw [h] <;> rfl

theorem trigger_bal_of_idle (idle : s.bal.eval = none) : (trigger s).bal = { s.bal with eval := some (readInputs s) } := by
  rw [trigger, idle]
  rfl

theorem trigger_bal_of_running {e : EvalInputs} (running : s.bal.eval = some e) :
    (trigger s).bal = { s.bal with evalPending := true } := by
  rw [trigger, running]
  rfl

/-- An accepted sample issues what its clear flag allows (R76). -/
theorem acceptSample_plan (v : Vec3) (s : State) :
    (acceptSample v s).plan = (issue (s.setAtt { s.att with sample := v, stale := false })).plan := by
  rw [acceptSample, trigger_frame]
  rfl

/-- Settles O40: the head record by kind, and the sample by what an issue does not look at. -/
theorem headIsIssued : Obligations.HeadIsIssued := by
  unfold Obligations.HeadIsIssued
  refine ⟨fun s r rest list => ⟨issue_of_not_mayIssue list, fun may kind => ?_, fun may kind => ?_⟩, fun s n fx fy fz reading => ?_⟩
  · rw [issue_of_mayIssue list may, issueHead_of_step kind]
  · have h := shiftStarts_startShift r.id r.disp (shiftIssued r rest s)
    rw [← issue_of_shift_head list may kind] at h
    obtain ⟨-, standing, -⟩ := may
    generalize issue s = t at h ⊢
    have target : ∀ l, workspaceClamp s.geo (shiftedHip (shiftIssued r rest s) r.disp.neg l) =
        workspaceClamp s.geo ⟨(s.legs.get l).commanded.x - r.disp.x, (s.legs.get l).commanded.y - r.disp.y,
          (s.legs.get l).commanded.z - r.disp.z⟩ := fun l => congrArg _ (shiftedHip_neg ..)
    refine ⟨r.clamped || shiftMarks (shiftIssued r rest s) r.disp.neg, ?_, ?_, fun l => ⟨?_, ?_⟩, ?_⟩
    · rw [Bool.or_eq_true, shiftMarks_iff]
      simp only [shiftedHip_neg]
      rfl
    · rw [h.plan, shiftMarked_eq]
      cases shiftMarks (shiftIssued r rest s) r.disp.neg <;> simp [shiftIssued, markRecord_plan]
    · rw [h.legs, ← target]
      rfl
    · have sent := h.sends (by rw [show (shiftIssued r rest s).sup = s.sup from rfl, standing]; decide) l
      rw [← target, ← toHip_shiftedTarget]
      exact sent
    · exact h.frame
  · refine ⟨_, rfl, ?_⟩
    have done : attitudeReadDone fx fy fz true s =
        acceptSample (intake s.sup.imuFlip fx.toInt fy.toInt fz.toInt) (s.setAtt { s.att with reading := none }) := by
      rw [attitudeReadDone, reading]
      rfl
    show (attitudeReadDone fx fy fz true s).plan = _
    rw [done, acceptSample_plan]
    have same := issue_withPorts s.link
      { s.att with sample := intake s.sup.imuFlip fx.toInt fy.toInt fz.toInt, stale := false, reading := none }
      (s.setAtt { s.att with stale := false }) rfl
    refine (congrArg State.plan (Eq.trans (congrArg issue ?_) same)).trans rfl
    rfl

/-- An accepted sample: held, issued by, timed and answered by an evaluation (R35). -/
theorem acceptSample_eq (v : Vec3) (s : State) : ∃ u, Issues (s.setAtt { s.att with sample := v, stale := false }) u ∧
    acceptSample v s = trigger (u.setAtt
      ⟨v, false, s.balCfg.staleLimit, s.balCfg.lostLimit, s.att.reading⟩) := by
  have h := issues_issue (s.setAtt { s.att with sample := v, stale := false })
  refine ⟨_, h, ?_⟩
  rw [acceptSample]
  generalize issue (s.setAtt { s.att with sample := v, stale := false }) = u at h ⊢
  rw [h.att, h.balCfg]
  rfl

theorem intake_eq (flip : Bool) (fx fy fz : Int) : intake flip fx fy fz =
    ⟨max (-2000) (min 2000 (if flip then -fx else fx)), max (-2000) (min 2000 (if flip then -fy else fy)), max 400 (min 3000 fz)⟩ := by
  simp [intake, clampInt_eq_max_min]

/-- Settles O28: the read by its condition, the accepted sample from what it leaves. -/
theorem attitudeReads : Obligations.AttitudeReads := by
  unfold Obligations.AttitudeReads
  intro s fx fy fz
  refine ⟨fun idle => ?_, fun n reading => ?_, fun out => ?_, fun running => ?_, fun n reading => ?_⟩
  · refine ⟨congrArg Host.Outcome.next ?_, fun v => congrArg Host.Outcome.next ?_⟩
    · rw [attitudeReadStart, idle]
      rfl
    · rw [attitudeReadDone, idle]
  · refine ⟨congrArg Host.Outcome.next ?_, congrArg Host.Outcome.next ?_⟩
    · rw [attitudeReadStart, reading]
    · rw [attitudeReadDone, reading]
      rfl
  · refine congrArg Host.Outcome.next ?_
    rw [attitudeReadTimeout, out]
    rfl
  · refine congrArg Host.Outcome.next ?_
    rw [attitudeReadTimeout, if_neg ((ranOut_iff _).not.mpr running)]
  · obtain ⟨u, issues, accepted⟩ := acceptSample_eq (intake s.sup.imuFlip fx.toInt fy.toInt fz.toInt)
      (s.setAtt { s.att with reading := none })
    have done : exec (.attitudeReadDone fx fy fz true) s = .next (acceptSample (intake s.sup.imuFlip fx.toInt fy.toInt fz.toInt)
        (s.setAtt { s.att with reading := none })) := by
      refine congrArg Host.Outcome.next ?_
      rw [attitudeReadDone, reading]
      rfl
    have held := intake_eq s.sup.imuFlip fx.toInt fy.toInt fz.toInt
    generalize intake s.sup.imuFlip fx.toInt fy.toInt fz.toInt = v at done accepted held
    generalize acceptSample v _ = t at done accepted
    have bal : u.bal = { s.bal with queue := u.bal.queue } := issues.bal
    have eval : u.bal.eval = s.bal.eval := by rw [bal]
    have support : u.bal.support = s.bal.support := by rw [bal]
    have wanted : u.bal.evalPending = s.bal.evalPending := by rw [bal]
    have frame := accepted.trans (trigger_frame _)
    refine ⟨t, done, ?_, fun idle => ?_, fun e running => ?_, ?_, ?_, ?_, fun l => ?_⟩
    · rw [frame, held]
      rfl
    · have now := (congrArg State.bal accepted).trans (trigger_bal_of_idle (eval.trans idle))
      refine ⟨_, congrArg Balance.eval now, ?_, rfl, ?_, ?_⟩
      · rw [frame]
        rfl
      · exact support
      · rw [now]
        exact wanted
    · have now := (congrArg State.bal accepted).trans (trigger_bal_of_running (eval.trans running))
      rw [now]
      exact ⟨eval.trans running, rfl⟩
    · rw [frame]
      exact issues.sup
    · rw [frame]
      exact issues.ev
    · rw [frame]
      exact issues.link
    · rw [frame]
      exact congrArg (Quad.get · l) issues.feet

end

end Sys2Proof.Machine
end

section
/-! THE HEAD WAITS. After every command no record that may be issued is left at the head of the plan list (R76). `Scene` holds what the
conditions of issue look at; an operation keeps it, takes one of its conditions away, or tests the issue again. -/

namespace Sys2Proof.Machine

/-- What the conditions of issue look at (R76). -/
structure Scene where
  list : List PlanRecord
  state : PlanState
  mode : Mode
  stale : Bool
  braceOut : Bool
  room : Nat
  window : List (List Leg × Bool × RecordKind)
  phases : Quad Phase
  contacts : Quad Contact

/-- What the conditions of issue look at in a record of the window. -/
def WindowRecord.standing (w : WindowRecord) : List Leg × Bool × RecordKind := (w.body.legs, w.body.hold, w.body.kind)

def scene (s : State) : Scene where
  list := s.plan.list
  state := s.plan.state
  mode := s.sup.mode
  stale := s.att.stale
  braceOut := s.bal.braceOut
  room := s.gait.window
  window := s.plan.window.map WindowRecord.standing
  phases := s.legs.map LegSeq.phase
  contacts := s.feet.map Foot.contact

section
variable {s t u : State}

/-- The conditions of issue look at the scene alone. -/
theorem MayIssue.of_scene {r : PlanRecord} (same : scene t = scene s) (may : MayIssue t r) : MayIssue s r := by
  obtain ⟨list, state, mode, stale, braceOut, room, window, phases, contacts⟩ := Scene.mk.inj same
  have phase : ∀ l, (t.legs.get l).phase = (s.legs.get l).phase := fun l => by
    have h := congrArg (Quad.get · l) phases
    simpa using h
  have contact : ∀ l, (t.feet.get l).contact = (s.feet.get l).contact := fun l => by
    have h := congrArg (Quad.get · l) contacts
    simpa using h
  have seats : ∀ P : List Leg × Bool × RecordKind → Prop,
      (∀ w ∈ t.plan.window, P w.standing) → ∀ w ∈ s.plan.window, P w.standing := fun P all w mem => by
    have there := List.mem_map_of_mem (f := WindowRecord.standing) mem
    rw [← window] at there
    obtain ⟨v, seated, shown⟩ := List.mem_map.mp there
    exact shown ▸ all v seated
  have length : t.plan.window.length = s.plan.window.length := by
    have h := congrArg List.length window
    simpa using h
  obtain ⟨active, standing, fresh, free, fits, others, ready, alone⟩ := may
  refine ⟨state ▸ active, mode ▸ standing, stale ▸ fresh, braceOut ▸ free, length ▸ room ▸ fits,
    seats (fun v => v.2.1 = false ∧ v.2.2 ≠ .shift) others, fun kind l mem => ?_, fun kind => ?_⟩
  · obtain ⟨stance, unnamed, carries⟩ := ready kind l mem
    exact ⟨phase l ▸ stance, seats (fun v => l ∉ v.1) unnamed, contact l ▸ carries⟩
  · obtain ⟨empty, stance⟩ := alone kind
    exact ⟨List.length_eq_zero_iff.mp (length ▸ List.length_eq_zero_iff.mpr empty), fun l => phase l ▸ stance l⟩

theorem HeadWaits.of_scene (waits : HeadWaits s) (same : scene t = scene s) : HeadWaits t := by
  intro r rest head may
  have list : t.plan.list = s.plan.list := congrArg Scene.list same
  exact waits r rest (list ▸ head) (may.of_scene same)

/-! ## Where a condition is wanting -/

theorem headWaits_of_inactive (inactive : s.plan.state ≠ .active) : HeadWaits s := fun _ _ _ ⟨active, _⟩ => inactive active

theorem headWaits_of_mode (mode : s.sup.mode ≠ .standing) : HeadWaits s := fun _ _ _ ⟨_, standing, _⟩ => mode standing

theorem headWaits_of_stale (stale : s.att.stale = true) : HeadWaits s := fun _ _ _ ⟨_, _, fresh, _⟩ => by
  rw [stale] at fresh
  cases fresh

theorem headWaits_of_braceOut (braceOut : s.bal.braceOut = true) : HeadWaits s := fun _ _ _ ⟨_, _, _, free, _⟩ => by
  rw [braceOut] at free
  cases free

/-! ## What keeps the scene -/

section
variable {l : Leg}

theorem scene_modLeg {f : LegSeq → LegSeq} (phase : (f (s.legs.get l)).phase = (s.legs.get l).phase) :
    scene (modLeg l f s) = scene s := by
  have phases : (s.legs.set l (f (s.legs.get l))).map LegSeq.phase = s.legs.map LegSeq.phase := by
    rw [Quad.map_set, phase, ← Quad.get_map LegSeq.phase, Quad.set_get_self]
  simp only [scene, modLeg, State.setLegs, phases]

theorem scene_modFoot {f : Foot → Foot} (contact : (f (s.feet.get l)).contact = (s.feet.get l).contact) :
    scene (modFoot l f s) = scene s := by
  have contacts : (s.feet.set l (f (s.feet.get l))).map Foot.contact = s.feet.map Foot.contact := by
    rw [Quad.map_set, contact, ← Quad.get_map Foot.contact, Quad.set_get_self]
  simp only [scene, modFoot, State.setFeet, contacts]

theorem scene_modWindow (id : Nat) {f : WindowRecord → WindowRecord} (keeps : ∀ w, (f w).standing = w.standing) (s : State) :
    scene (modWindow id f s) = scene s := by
  have window : (s.plan.window.map fun w => if w.body.id = id then f w else w).map WindowRecord.standing =
      s.plan.window.map WindowRecord.standing := by
    rw [List.map_map]
    refine List.map_congr_left fun w _ => ?_
    dsimp only [Function.comp]
    split
    · exact keeps w
    · rfl
  simp only [scene, modWindow, State.setPlan, window]

theorem scene_markRecord (id : Nat) (s : State) : scene (markRecord id s) = scene s :=
  scene_modWindow id (f := fun w => { w with body := { w.body with clamped := true } }) (fun _ => rfl) s

theorem scene_forLegs {op : Leg → State → State} (each : ∀ l s, scene (op l s) = scene s) (ls : List Leg) (s : State) :
    scene (forLegs op ls s) = scene s := by
  induction ls generalizing s with
  | nil => rfl
  | cons l rest ih => exact (ih _).trans (each l s)

theorem scene_handover (l : Leg) (v : Vec3) (speed : Nat) (hold : Bool) (s : State) : scene (handover l v speed hold s) = scene s := by
  rw [handover_eq]
  rfl

theorem scene_sendSetpoint (l : Leg) (v : Vec3) (speed : Nat) (s : State) : scene (sendSetpoint l v speed s) = scene s :=
  (scene_handover ..).trans (scene_modLeg (by rfl))

theorem scene_sendHold (l : Leg) (s : State) : scene (sendHold l s) = scene s := (scene_handover ..).trans (scene_modLeg (by rfl))

theorem scene_holdLegs (ls : List Leg) (s : State) : scene (holdLegs ls s) = scene s := scene_forLegs scene_sendHold ls s

theorem scene_raise (e : Event) (s : State) : scene (raise e s) = scene s := by
  obtain ⟨es, tx, -, h⟩ := raise_eq e s
  rw [h]
  rfl

theorem scene_trigger (s : State) : scene (trigger s) = scene s := by
  rcases trigger_cases s with ⟨-, h⟩ | ⟨-, h⟩ <;> rw [h] <;> rfl

theorem scene_startSupportLost (s : State) : scene (startSupportLost s) = scene s := by
  unfold startSupportLost
  split <;> rfl

theorem scene_markIfLimit (l : Leg) (s : State) : scene (markIfLimit l s) = scene s := by
  unfold markIfLimit
  dsimp only
  split
  · split
    · exact scene_modLeg (by rfl)
    · exact (scene_markRecord ..).trans (scene_modLeg (by rfl))
  · rfl

theorem scene_offerFault (k : FaultKind) (leg : Option Leg) (s : State) : scene (offerFault k leg s) = scene s := by
  unfold offerFault
  split <;> rfl

theorem scene_requestNotice (s : State) : scene (requestNotice s) = scene s := by
  unfold requestNotice
  split <;> rfl

theorem scene_takeDerating (l : Leg) (st : DriveState) (s : State) : scene (takeDerating l st s) = scene s := by
  have derated : ∀ hot, scene (modLeg l (fun p => { p with derating := hot }) s) = scene s := fun _ => scene_modLeg (by rfl)
  unfold takeDerating
  dsimp only
  split
  · exact derated _
  · split
    · exact (scene_handover ..).trans ((scene_modLeg (by rfl)).trans (derated _))
    · exact derated _

theorem scene_tick (s : State) : scene (tick s) = scene s := by
  cases s
  rfl

end

/-! ## What tests the issue, or ends the plan's running -/

theorem headWaits_settleTest (waits : HeadWaits s) : HeadWaits (settleTest s) := by
  unfold settleTest
  split
  · refine headWaits_of_mode ?_
    rw [(entersSettling _).frame]
    exact Mode.noConfusion
  · exact waits

theorem headWaits_phaseChanged (s : State) : HeadWaits (phaseChanged s) := headWaits_settleTest (headWaits_issue s)

theorem headWaits_idleIfEmpty (waits : HeadWaits s) : HeadWaits (idleIfEmpty s) := by
  unfold idleIfEmpty
  split
  · exact headWaits_settleTest ((headWaits_of_inactive (s := setPlanState .idle s) nofun).of_scene (scene_raise ..))
  · exact waits

theorem headWaits_suspendIfEmpty (waits : HeadWaits s) : HeadWaits (suspendIfEmpty s) := by
  unfold suspendIfEmpty
  split
  · exact headWaits_settleTest ((headWaits_of_inactive (s := setPlanState .suspended s) nofun).of_scene (scene_raise ..))
  · exact waits

theorem headWaits_drain (s : State) : HeadWaits (drain s) := by
  unfold drain
  split
  case isTrue =>
    refine headWaits_suspendIfEmpty (headWaits_of_inactive ?_)
    rw [(withdraws_withdrawWaiting _).plan]
    exact nofun
  case isFalse inactive => exact headWaits_of_inactive inactive

theorem headWaits_completionActs (st : Status) (hold : Bool) (s : State) : HeadWaits (completionActs st hold s) := by
  unfold completionActs
  split
  case isTrue =>
    split
    · exact headWaits_drain s
    · exact headWaits_idleIfEmpty (headWaits_issue s)
  case isFalse inactive =>
    split
    · exact headWaits_suspendIfEmpty (headWaits_of_inactive inactive)
    · exact headWaits_of_inactive inactive

theorem headWaits_completeRecord (id : Nat) (st : Status) (waits : HeadWaits s) : HeadWaits (completeRecord id st s) := by
  unfold completeRecord
  split
  · exact waits
  · exact headWaits_completionActs _ _ _

theorem headWaits_setPendingSettle (waits : HeadWaits s) : HeadWaits (setPendingSettle s) := by
  unfold setPendingSettle
  split
  · exact headWaits_settleTest (waits.of_scene (by rfl))
  · exact waits

theorem headWaits_applySilenceInRise (waits : HeadWaits s) : HeadWaits (applySilenceInRise s) := by
  unfold applySilenceInRise
  split
  · exact headWaits_setPendingSettle (headWaits_drain _)
  · exact waits

theorem headWaits_riseTest (waits : HeadWaits s) : HeadWaits (riseTest s) := by
  unfold riseTest
  split
  · exact headWaits_applySilenceInRise ((headWaits_phaseChanged _).of_scene (scene_startSupportLost _))
  · exact waits

theorem headWaits_settleCompleteTest (waits : HeadWaits s) : HeadWaits (settleCompleteTest s) := by
  unfold settleCompleteTest
  split
  · exact headWaits_of_inactive nofun
  · exact waits

theorem headWaits_reportFault (k : FaultKind) (leg : Option Leg) (waits : HeadWaits s) : HeadWaits (reportFault k leg s) := by
  unfold reportFault
  split
  · split
    · exact waits.of_scene (scene_offerFault ..)
    · refine headWaits_of_mode ?_
      have held := (holds_enterSafeHold (offerFault k leg s)).mode
      rw [show (enterSafeHold (offerFault k leg s)).sup.mode = .safeHold from held]
      decide
  · exact waits

theorem headWaits_contactReport (l : Leg) (c : Contact) (s : State) : HeadWaits (contactReport l c s) :=
  headWaits_riseTest (headWaits_issue _)

/-! ## Legs -/

section
variable (l : Leg)

theorem headWaits_liftEnd (waits : HeadWaits s) : HeadWaits (liftEnd l s) := by
  unfold liftEnd
  split
  · exact waits
  · exact headWaits_phaseChanged _

theorem headWaits_swingEnd (waits : HeadWaits s) : HeadWaits (swingEnd l s) := by
  unfold swingEnd
  split
  · exact waits
  · exact headWaits_phaseChanged _

theorem headWaits_retreatReach (waits : HeadWaits s) : HeadWaits (retreatReach l s) := by
  unfold retreatReach
  split
  · exact waits
  · exact headWaits_phaseChanged _

theorem headWaits_missFoothold (waits : HeadWaits s) : HeadWaits (missFoothold l s) := by
  unfold missFoothold
  split
  · exact waits
  · exact headWaits_phaseChanged _

theorem headWaits_failLeg (s : State) : HeadWaits (failLeg l s) := by
  unfold failLeg
  dsimp only
  split
  · exact headWaits_phaseChanged _
  · exact headWaits_of_braceOut rfl

theorem headWaits_timerRunsOut (waits : HeadWaits s) : HeadWaits (timerRunsOut l s) := by
  have stopped : HeadWaits (modLeg l (fun p => { p with timer := none }) s) := waits.of_scene (scene_modLeg (by rfl))
  unfold timerRunsOut
  dsimp only
  split
  · unfold snagInLift
    split
    · exact stopped
    · exact headWaits_phaseChanged _
  · unfold snagInSwing
    split
    · exact stopped
    · exact headWaits_phaseChanged _
  · exact headWaits_missFoothold l stopped
  · exact headWaits_failLeg l _
  · exact headWaits_failLeg l _
  · exact headWaits_failLeg l _
  · exact stopped

theorem headWaits_reachedInReach (waits : HeadWaits s) : HeadWaits (reachedInReach l s) := by
  unfold reachedInReach
  dsimp only
  split
  · exact waits
  · split
    · exact headWaits_phaseChanged _
    · exact headWaits_missFoothold l (waits.of_scene (scene_markIfLimit l s))
  · split
    · exact headWaits_phaseChanged _
    · exact waits
  · split
    · exact headWaits_phaseChanged _
    · exact headWaits_failLeg l s

theorem headWaits_replyActs (pass : Bool) (waits : HeadWaits s) : HeadWaits (replyActs l pass s) := by
  unfold replyActs
  dsimp only
  split
  · exact waits
  · split
    case h_1 =>
      split
      · exact headWaits_liftEnd l waits
      · exact waits
    case h_2 =>
      split
      · split
        · exact headWaits_swingEnd l waits
        · split
          · exact headWaits_retreatReach l waits
          · exact waits
      · exact waits
    case h_3 =>
      split
      · exact headWaits_reachedInReach l waits
      · exact waits
    all_goals exact waits

theorem headWaits_seqReply (pos : Vec3) (st : DriveState) (flag : Bool) (waits : HeadWaits s) :
    HeadWaits (seqReply l pos st flag s) := by
  refine headWaits_replyActs l _ (waits.of_scene ((scene_takeDerating ..).trans (scene_modLeg ?_)))
  exact congrArg LegView.phase (takeReply_view ..)

end

/-! ## Commands -/

theorem headWaits_preshiftTest (waits : HeadWaits s) : HeadWaits (preshiftTest s) := by
  unfold preshiftTest
  split
  · exact waits
  · split
    · exact waits.of_scene (by rfl)
    · exact waits

theorem headWaits_shiftTest (waits : HeadWaits s) : HeadWaits (shiftTest s) := by
  unfold shiftTest
  split
  · exact waits
  · split
    · refine headWaits_completeRecord _ _ (waits.of_scene ?_)
      have phases : (s.legs.map fun q => if q.limitReached then { q with clamped := true } else q).map LegSeq.phase =
          s.legs.map LegSeq.phase := Quad.ext_get fun l => by
        simp only [Quad.get_map]
        split <;> rfl
      have marked : scene (s.setLegs (s.legs.map fun q => if q.limitReached then { q with clamped := true } else q)) = scene s := by
        simp only [scene, State.setLegs, phases]
      split
      · exact (scene_markRecord ..).trans marked
      · exact marked
    · exact waits

theorem headWaits_driveStateTest (l : Leg) (before : Option LastReply) (st : DriveState) (waits : HeadWaits s) :
    HeadWaits (driveStateTest l before st s) := by
  have tested : ∀ was : Bool,
      HeadWaits (if st = .fault ∧ was = false then reportFault .driveFault (some l) (raise .driveFault s) else s) := fun was => by
    split
    · exact headWaits_reportFault _ _ (waits.of_scene (scene_raise ..))
    · exact waits
  exact tested _

theorem headWaits_goodReply (l : Leg) (pos : Vec3) (st : DriveState) (flag : Bool) (waits : HeadWaits s) :
    HeadWaits (goodReply l pos st flag s) :=
  headWaits_driveStateTest _ _ _ (headWaits_settleCompleteTest (headWaits_riseTest (headWaits_shiftTest (headWaits_preshiftTest
    (headWaits_seqReply l pos st flag (waits.of_scene (by rfl)))))))

theorem headWaits_closeFailed (x : Txn) (waits : HeadWaits s) : HeadWaits (closeFailed x s) := by
  have counted : HeadWaits (countFailure x.leg s) := by
    unfold countFailure
    dsimp only
    split
    · exact waits
    · split
      · exact headWaits_reportFault _ _ (waits.of_scene ((scene_raise ..).trans (by rfl)))
      · exact waits.of_scene (by rfl)
  refine HeadWaits.of_scene (s := resend x (countFailure x.leg s)) ?_ (by rfl)
  unfold resend
  split
  · exact counted.of_scene (by rfl)
  · exact counted

theorem headWaits_driveReply (bytes : List Byte) (waits : HeadWaits s) : HeadWaits (driveReply bytes s) := by
  induction bytes generalizing s with
  | nil => exact waits
  | cons b rest ih =>
    refine ih ?_
    unfold busByte
    split
    · dsimp only
      split
      · exact waits.of_scene (by rfl)
      · split
        · exact headWaits_closeFailed _ (waits.of_scene (by rfl))
        · exact waits.of_scene (by rfl)
        · exact headWaits_goodReply _ _ _ _ waits
    all_goals exact waits

theorem headWaits_takeInvalid (l : Leg) (waits : HeadWaits s) : HeadWaits (takeInvalid l s) := by
  unfold takeInvalid
  dsimp only
  split
  · exact waits.of_scene (scene_modFoot (by rfl))
  · exact headWaits_contactReport _ _ _

theorem headWaits_takeValid (l : Leg) (load : Nat) (waits : HeadWaits s) : HeadWaits (takeValid l load s) := by
  unfold takeValid
  dsimp only
  split
  case isTrue same => exact waits.of_scene (scene_modFoot same)
  case isFalse => exact headWaits_contactReport _ _ _

theorem headWaits_takeSample (l : Leg) (c : LoadSample) (waits : HeadWaits s) : HeadWaits (takeSample l c s) := by
  cases c with
  | valid load => exact headWaits_takeValid l load waits
  | badPeriod | openCircuit | short => exact headWaits_takeInvalid l waits

theorem headWaits_loadSample (l : Leg) (period : Nat) (waits : HeadWaits s) : HeadWaits (loadSample l period s) := by
  unfold loadSample
  split
  · exact waits.of_scene (scene_modFoot (by rfl))
  · exact headWaits_takeSample _ _ (waits.of_scene (scene_modFoot (by rfl)))

theorem headWaits_slipPulse (l : Leg) (waits : HeadWaits s) : HeadWaits (slipPulse l s) := by
  unfold slipPulse
  dsimp only
  split
  · split
    · exact headWaits_contactReport _ _ _
    · exact waits.of_scene (scene_modFoot (by rfl))
  · exact waits

theorem headWaits_attitudeReadDone (fx fy fz : Half) (valid : Bool) (waits : HeadWaits s) :
    HeadWaits (attitudeReadDone fx fy fz valid s) := by
  unfold attitudeReadDone
  split
  · exact waits
  · dsimp only
    split
    · exact (headWaits_issue _).of_scene ((scene_trigger _).trans (by rfl))
    · exact waits.of_scene (by rfl)

theorem headWaits_goStale (s : State) : HeadWaits (goStale s) := by
  unfold goStale
  dsimp only
  refine (headWaits_of_stale (s := s.setAtt { s.att with stale := true }) rfl).of_scene ((scene_trigger _).trans ?_)
  split
  · rfl
  · exact (scene_raise .sensorFault (s.setAtt { s.att with stale := true }))

theorem headWaits_braceTaken (waits : HeadWaits s) : HeadWaits (braceTaken s) := by
  unfold braceTaken
  split
  · dsimp only
    split
    · exact headWaits_phaseChanged _
    · exact headWaits_issue _
  · exact waits

theorem headWaits_shiftTimeout (waits : HeadWaits s) : HeadWaits (shiftTimeout s) := by
  unfold shiftTimeout
  split
  · dsimp only
    split
    · exact waits.of_scene (by rfl)
    · exact headWaits_completeRecord _ _ (waits.of_scene ((scene_holdLegs ..).trans (by rfl)))
  · exact waits

theorem headWaits_preshiftTimeout (waits : HeadWaits s) : HeadWaits (preshiftTimeout s) := by
  unfold preshiftTimeout
  split
  · exact waits
  · split
    case isTrue => exact waits.of_scene (scene_holdLegs _ s)
    case isFalse => exact waits

theorem headWaits_silenceExpiry (waits : HeadWaits s) : HeadWaits (silenceExpiry s) := by
  unfold silenceExpiry
  split
  · have raised : HeadWaits (raise .silence (stopSilence s)) := waits.of_scene (scene_raise ..)
    unfold silenceActs
    split
    · exact headWaits_setPendingSettle (headWaits_drain _)
    · exact raised.of_scene (by rfl)
    all_goals exact raised
  · exact waits

/-! ## An evaluation -/

theorem headWaits_grantLeg (r : PlanRecord) (l : Leg) (waits : HeadWaits s) : HeadWaits (grantLeg r l s) := by
  unfold grantLeg
  split
  · exact waits
  · exact headWaits_phaseChanged _

theorem headWaits_grant (q : SwingRequest) (waits : HeadWaits s) : HeadWaits (grant q s) := by
  have granted : HeadWaits (modWindow q.id (fun w => { w with cond := .granted }) (dropRequest s)) :=
    waits.of_scene (scene_modWindow q.id (f := fun w => { w with cond := .granted }) (fun _ => rfl) (dropRequest s))
  unfold grant
  dsimp only
  split
  · exact granted
  case h_2 w _ =>
    generalize modWindow q.id _ _ = t at granted
    generalize q.legs = ls
    induction ls generalizing t with
    | nil => exact granted
    | cons l rest ih => exact ih _ (headWaits_grantLeg w.body l granted)

theorem scene_orderPreshift (q : SwingRequest) (o : Int × Int) (s : State) : scene (orderPreshift q o s) = scene s := by
  have counted := scene_modWindow q.id (f := fun w => { w with body := { w.body with preshifts := w.body.preshifts + 1 } })
    (fun _ => rfl) (s.setBal
      { s.bal with queue := s.bal.queue.map fun r => if r.id = q.id then { r with attempts := r.attempts + 1 } else r })
  have sent := fun ls => scene_forLegs (op := sendShifted ⟨-o.1, -o.2, 0⟩) (fun _ _ => scene_sendSetpoint ..) ls
  exact (sent _ _).trans counted

theorem headWaits_failsOnMargin (e : EvalInputs) (set : List Leg) (q : SwingRequest) (waits : HeadWaits s) :
    HeadWaits (failsOnMargin e set q s) := by
  unfold failsOnMargin
  dsimp only
  split
  · exact waits.of_scene (scene_orderPreshift ..)
  · exact headWaits_completeRecord _ _ (waits.of_scene (by rfl))

theorem headWaits_arbiter (e : EvalInputs) (rs : List SwingRequest) (granted : List Leg) (waits : HeadWaits s) :
    HeadWaits (arbiter e rs granted s) := by
  induction rs generalizing granted s with
  | nil => exact waits
  | cons r rest ih =>
    unfold arbiter
    split
    · exact waits
    · split
      · split
        · exact waits
        · split
          · exact ih _ (headWaits_grant _ waits)
          · exact headWaits_failsOnMargin _ _ _ waits
      · exact waits

theorem headWaits_braceTest (b : BalanceCfg) (fig : Figures) (waits : HeadWaits s) : HeadWaits (braceTest b fig s) := by
  unfold braceTest
  split
  · split
    · split
      · exact headWaits_of_braceOut rfl
      · exact waits.of_scene (by rfl)
    · exact waits.of_scene (by rfl)
  · exact waits.of_scene (by rfl)

theorem headWaits_evaluationComplete (waits : HeadWaits s) : HeadWaits (evaluationComplete s) := by
  unfold evaluationComplete
  split
  · exact waits
  case h_2 e _ =>
    dsimp only
    have tested : HeadWaits (braceTest e.balCfg (figuresOf e) (s.setBal { s.bal with held := figuresOf e, eval := none })) :=
      headWaits_braceTest _ _ (waits.of_scene (by rfl))
    generalize braceTest e.balCfg (figuresOf e) _ = t at tested
    have considered : HeadWaits (considerGrants e t) := by
      unfold considerGrants
      split
      · exact headWaits_arbiter _ _ _ tested
      · exact tested
    unfold nextEvaluation
    split
    · exact considered.of_scene (by rfl)
    · exact considered

/-! ## Requests -/

theorem headWaits_appendRecords (rs : List PlanRecord) (waits : HeadWaits s) : HeadWaits (appendRecords rs s) := by
  unfold appendRecords
  dsimp only
  split
  case isTrue => exact headWaits_issue _
  case isFalse nonempty =>
    intro r rest head may
    cases list : s.plan.list with
    | nil => rw [list] at nonempty; exact nonempty rfl
    | cons r' rest' =>
      have head' : s.plan.list ++ rs = r :: rest := head
      rw [list] at head'
      cases head'
      exact waits r _ list may

theorem headWaits_cut {kept : List PlanRecord} (ahead : kept <+: s.plan.list) (waits : HeadWaits s) :
    HeadWaits (setPlanList kept s) := by
  obtain ⟨cut, list⟩ := ahead
  intro r rest head may
  have head' : kept = r :: rest := head
  rw [head'] at list
  exact waits r _ list.symm may

theorem headWaits_served {c : Instr} (served : Served c s t) (waits : HeadWaits s) : HeadWaits t := by
  cases served with
  | unchanged => exact waits
  | geometry => exact waits.of_scene (by rfl)
  | surface => exact waits.of_scene (by rfl)
  | balance => exact waits.of_scene (by rfl)
  | gait parked => exact headWaits_of_mode fun standing => Mode.noConfusion (parked.symm.trans standing)
  | supervision =>
    refine waits.of_scene ?_
    rw [takeSupervision_eq]
    rfl
  | stand =>
    refine headWaits_of_mode ?_
    rw [(rises_standUp _ s).frame]
    exact Mode.noConfusion
  | sit =>
    refine headWaits_of_mode ?_
    rw [(entersSettling s).frame]
    exact Mode.noConfusion
  | clearHold => exact (headWaits_phaseChanged _).of_scene (scene_startSupportLost _)
  | motion => exact headWaits_of_inactive nofun
  | append => exact headWaits_appendRecords _ waits
  | activate => exact headWaits_idleIfEmpty (headWaits_issue _)
  | drain => exact headWaits_drain s
  | cut ahead => exact headWaits_idleIfEmpty (headWaits_cut ahead waits)
  | report => exact waits.of_scene (by rfl)
  | mask =>
    refine waits.of_scene ?_
    unfold replaceMask
    dsimp only
    split
    · rfl
    · exact scene_requestNotice _
  | ack => exact waits.of_scene (by rfl)
  | clearFault => exact waits.of_scene (by rfl)
  | clearCounters => exact waits.of_scene (by rfl)

theorem headWaits_done {c : Instr} (done : Done c s t) (waits : HeadWaits s) : HeadWaits t := by
  cases done with
  | untaken => exact waits
  | taken taking _ served => exact HeadWaits.of_scene (headWaits_served served (waits.of_scene (by rfl))) (by rfl)
  | powerOnReset => exact headWaits_of_inactive nofun
  | timeBaseTick => exact waits.of_scene (scene_tick s)
  | linkByte =>
    refine waits.of_scene ?_
    rw [(linkMoves_linkByte ..).rest]
    rfl
  | gapTimerExpiry =>
    refine waits.of_scene ?_
    rw [(linkMoves_gapTimerExpiry s).rest]
    rfl
  | frameSendStart =>
    refine waits.of_scene ?_
    rw [(linkMoves_frameSendStart s).rest]
    rfl
  | frameSendEnd =>
    rcases linkMoves_frameSendEnd s with moves | reset
    · refine waits.of_scene ?_
      rw [moves.rest]
      rfl
    · rw [reset]
      exact headWaits_of_inactive nofun
  | silenceExpiry => exact headWaits_silenceExpiry waits
  | loadSample => exact headWaits_loadSample _ _ waits
  | loadStale =>
    unfold loadStale
    split
    · exact headWaits_takeInvalid _ (waits.of_scene (scene_modFoot (by rfl)))
    · exact waits
  | slipPulse => exact headWaits_slipPulse _ waits
  | attitudeReadStart =>
    unfold attitudeReadStart
    split
    · exact waits.of_scene (by rfl)
    · exact waits
  | attitudeReadDone => exact headWaits_attitudeReadDone _ _ _ _ waits
  | attitudeReadTimeout =>
    unfold attitudeReadTimeout
    split
    · exact waits.of_scene (by rfl)
    · exact waits
  | attitudeStaleExpiry =>
    unfold attitudeStaleExpiry
    split
    · exact headWaits_goStale s
    · exact waits
  | attitudeLost =>
    unfold attitudeLost
    split
    · exact headWaits_reportFault _ _ (waits.of_scene (by rfl))
    · exact waits
  | evaluationComplete => exact headWaits_evaluationComplete waits
  | braceTaken => exact headWaits_braceTaken waits
  | preshiftTimeout => exact headWaits_preshiftTimeout waits
  | shiftTimeout => exact headWaits_shiftTimeout waits
  | phaseTimerExpiry l =>
    unfold phaseTimerExpiry
    split
    · exact headWaits_timerRunsOut l waits
    · exact waits
  | driveTransactionSend =>
    unfold driveTransactionSend
    split
    · exact waits.of_scene (by rfl)
    · exact waits
  | driveRequestSent =>
    unfold driveRequestSent
    split
    · exact waits.of_scene (by rfl)
    all_goals exact waits
  | driveReply => exact headWaits_driveReply _ waits
  | driveReplyTimeout =>
    unfold driveReplyTimeout
    split
    · exact headWaits_closeFailed _ (waits.of_scene (by rfl))
    all_goals exact waits
  | guardEnd =>
    unfold guardEnd
    split
    · exact waits.of_scene (by rfl)
    all_goals exact waits
  | pollTimerExpiry =>
    unfold pollTimerExpiry
    split
    · unfold pollDrive
      dsimp only
      split <;> exact waits.of_scene (by rfl)
    · exact waits
  | riseSettleTimeout =>
    unfold riseSettleTimeout
    have stopped : HeadWaits (s.setSup { s.sup with riseSettle := none }) := waits.of_scene (by rfl)
    split
    · dsimp only
      split
      · exact headWaits_reportFault _ _ stopped
      · exact headWaits_reportFault _ _ stopped
      all_goals exact stopped
    · exact waits
  | supportLost =>
    unfold supportLostExpiry
    split
    · exact headWaits_reportFault _ _ (waits.of_scene (by rfl))
    · exact waits
  | loadFallingEdge =>
    unfold loadFallingEdge
    split
    · exact waits.of_scene (scene_modFoot (by rfl))
    all_goals exact waits

/-- Settles O41: every command keeps the scene, takes a condition away, or ends in the test. -/
theorem noReadyHeadWaits : Obligations.NoReadyHeadWaits := by
  unfold Obligations.NoReadyHeadWaits
  exact fun s t _ waits stepped => step_keeps (fun _ _ held => held.of_scene (by rfl))
    (fun _ _ _ held done => headWaits_done done held) waits stepped

end

end Sys2Proof.Machine
end

section
/-! THE PLAN'S REQUESTS. What an end of the plan's running leaves, and what the plan requests answer (R70 to R74, R81 to R91). -/

namespace Sys2Proof.Machine

section
variable {s t : State} {f : Frame} {rest : List Frame}

/-! ## A pending settle -/

/-- From `s` a pending settle has been tested: at most the legs are sent to the park pose and the mode changes with what follows it
(R153). -/
structure Settles (s t : State) : Prop where
  frame : t = ((((s.setLegs t.legs).setBus { s.bus with queue := t.bus.queue }).setSup t.sup).setEv
      { s.ev with pending := t.ev.pending }).setLink { s.link with tx := t.link.tx, silence := t.link.silence }
  flags : ∀ e, hasEvent s.ev.pending e = true → hasEvent t.ev.pending e = true

theorem Settles.plan (h : Settles s t) : t.plan = s.plan := by rw [h.frame]; rfl
theorem Settles.bal (h : Settles s t) : t.bal = s.bal := by rw [h.frame]; rfl
theorem Settles.feet (h : Settles s t) : t.feet = s.feet := by rw [h.frame]; rfl
theorem Settles.drives (h : Settles s t) : t.bus.drives = s.bus.drives := by rw [h.frame]; rfl
theorem Settles.counters (h : Settles s t) : t.ev.counters = s.ev.counters := by rw [h.frame]; rfl

/-- A settle that does not pend, or whose condition fails, is left alone; else SETTLING is entered (R153). -/
theorem settleTest_cases (s : State) :
    settleTest s = s ∨ s.sup.pendingSettle = true ∧ s.sup.mode = .standing ∧ settleCondition s = true ∧
      EntersSettling (s.setSup { s.sup with pendingSettle := false }) (settleTest s) := by
  unfold settleTest
  split
  case isTrue settles => exact .inr ⟨settles.1, settles.2.1, settles.2.2, entersSettling _⟩
  case isFalse => exact .inl rfl

theorem settles_settleTest (s : State) : Settles s (settleTest s) := by
  refine ⟨?_, (calm_settleTest s).quiet.flags⟩
  rcases settleTest_cases s with same | ⟨-, -, -, settling⟩
  · rw [same]
    rfl
  · have frame := settling.frame
    generalize settleTest s = t at frame ⊢
    rw [frame]
    rfl

/-! ## The end of the plan's running -/

/-- The plan goes to a state in which it does not run, raises its event, and a pending settle is tested (R84, R86). -/
def planEnds (p : PlanState) (e : Event) (s : State) : State := settleTest (raise e (setPlanState p s))

theorem idleIfEmpty_eq (s : State) :
    idleIfEmpty s = if s.plan.state = .active ∧ s.plan.list = [] ∧ s.plan.window = [] then planEnds .idle .planIdle s else s := rfl

theorem suspendIfEmpty_eq (s : State) :
    suspendIfEmpty s =
      if s.plan.state = .draining ∧ s.plan.window = [] then planEnds .suspended .planSuspended s else s := rfl

/-- From `s` the plan has gone to a state and raised an event: of the plan, the balance and the counters nothing else has changed. -/
structure PlanEnds (p : PlanState) (e : Event) (s t : State) : Prop where
  plan : t.plan = { s.plan with state := p }
  bal : t.bal = s.bal
  counters : t.ev.counters = s.ev.counters
  raised : hasEvent t.ev.pending e = true
  stays : s.sup.pendingSettle = false → t.legs = s.legs ∧ t.bus = s.bus

theorem planEnds_spec (p : PlanState) (e : Event) (s : State) : PlanEnds p e s (planEnds p e s) := by
  obtain ⟨es, tx, raised, shown⟩ := raise_eq e (setPlanState p s)
  have h := settles_settleTest (raise e (setPlanState p s))
  have unsettled : s.sup.pendingSettle = false → planEnds p e s = raise e (setPlanState p s) := fun no => by
    refine settleTest_of_not_pending ?_
    rw [shown]
    exact no
  rw [show settleTest (raise e (setPlanState p s)) = planEnds p e s from rfl] at h
  refine ⟨?_, ?_, ?_, ?_, fun no => ?_⟩
  · rw [h.plan, shown]
    rfl
  · rw [h.bal, shown]
    rfl
  · rw [h.counters, shown]
    rfl
  · refine h.flags e ?_
    rw [shown]
    exact raised
  · rw [unsettled no, shown]
    exact ⟨rfl, rfl⟩

/-! ## The answer to a plan request -/

/-- The reply OK of a plan request stands at the tail of the transmit queue, with the plan state and the count as they now stand
(R74, R161). -/
def State.answeredPlan (f : Frame) (extra : List Byte) (t : State) : State :=
  t.setLink { t.link with tx := t.link.tx ++ [.reply (replyTo f .ok (planFields t ++ extra)) false] }

theorem queueReply_okPlan (f : Frame) (extra : List Byte) (t : State) : queueReply f (okPlan extra t) = t.answeredPlan f extra := by
  simp [queueReply_eq, okPlan, replyTo, State.answeredPlan]

theorem answeredPlan_last (f : Frame) (extra : List Byte) (t : State) :
    (t.answeredPlan f extra).link.tx.getLast? = some (.reply (replyTo f .ok (planFields (t.answeredPlan f extra) ++ extra)) false) :=
  List.getLast?_concat ..

/-- An answer whose state differs by the buffer alone is the request replied to. -/
theorem answeredPlan_setBuffer (f : Frame) (extra : List Byte) (rest : List Frame) (t : State) :
    (t.setLink { t.link with buffer := rest }).answeredPlan f extra = t.replied rest (replyTo f .ok (planFields t ++ extra)) := rfl

theorem withPlanLen_of_length {n : Nat} (h : f.payload.length = n) (s : State) (a : Answer) : withPlanLen n f s a = a := if_pos h

/-! ## PLAN_APPEND -/

theorem issue_of_inactive (inactive : s.plan.state ≠ .active) : issue s = s := by
  cases list : s.plan.list with
  | nil => exact issue_of_empty list
  | cons r rest => exact issue_of_not_mayIssue list fun ⟨active, _⟩ => inactive active

theorem appendRecords_of_kept (rs : List PlanRecord) (kept : s.plan.state ≠ .active ∨ s.plan.list ≠ []) :
    appendRecords rs s = s.setPlan { s.plan with list := s.plan.list ++ rs } := by
  rw [appendRecords]
  dsimp only
  split
  case isTrue empty =>
    rcases kept with inactive | nonempty
    · exact issue_of_inactive inactive
    · exact absurd (List.isEmpty_iff.mp empty) nonempty
  case isFalse => rfl

theorem appendRecords_of_empty (rs : List PlanRecord) (empty : s.plan.list = []) :
    appendRecords rs s = issue (s.setPlan { s.plan with list := rs }) := by
  rw [appendRecords, empty]
  rfl

theorem issues_appendRecords (rs : List PlanRecord) (s : State) :
    Issues (s.setPlan { s.plan with list := s.plan.list ++ rs }) (appendRecords rs s) := by
  rw [appendRecords]
  dsimp only
  split
  · exact issues_issue _
  · exact .refl _

theorem appendRecords_setLink (rs : List PlanRecord) (p : LinkPort) (s : State) :
    appendRecords rs (s.setLink p) = (appendRecords rs s).setLink p := by
  rw [appendRecords, appendRecords, State.setLink_plan]
  dsimp only
  split
  · exact issue_setLink p (s.setPlan { s.plan with list := s.plan.list ++ rs })
  · rfl

theorem hasDuplicate_iff (s : State) (rs : List PlanRecord) :
    hasDuplicate s rs = true ↔ ¬ (rs.map PlanRecord.id).Nodup ∨ ∃ r ∈ rs, r.id ∈ idsInPlan s := by
  simp [hasDuplicate]

/-- What PLAN_APPEND of so many records answers (R70, R73, R74, R162). -/
theorem exec_planAppend {n : Nat} (taking : Taking s f rest) (kind : f.kind = 0x30#8) (one : 1 ≤ n) (four : n ≤ 4)
    (length : f.payload.length = 12 * n) :
    exec .planAppend s = .next (
      if s.sup.mode = .safeHold then s.replied rest (replyTo f .wrongMode (planFields s))
      else (decodeRecords n f.payload).elim (s.replied rest (replyTo f .badValue (planFields s))) fun rs =>
        if hasDuplicate s rs then s.replied rest (replyTo f .dupId (planFields s))
        else if 32 < s.plan.list.length + s.plan.window.length + rs.length then
          s.replied rest (replyTo f .planFull (planFields s))
        else (appendRecords rs s).replied rest (replyTo f .ok (planFields (appendRecords rs s)))) := by
  refine congrArg Host.Outcome.next ((serve_of_taking taking (isKind_of_eq kind)).trans ?_)
  have divides : f.payload.length / 12 = n := by omega
  have whole : f.payload.length % 12 = 0 ∧ 1 ≤ n ∧ n ≤ 4 := ⟨by omega, one, four⟩
  rw [answerPlanAppend]
  dsimp only
  rw [divides, if_pos whole, State.setLink_sup]
  split
  · exact queueReply_refusePlan ..
  · cases decodeRecords n f.payload with
    | none => exact queueReply_refusePlan ..
    | some rs =>
      have dup : hasDuplicate (s.setLink { s.link with buffer := rest }) rs = hasDuplicate s rs := rfl
      dsimp only [Option.elim_some]
      rw [dup]
      split
      · exact queueReply_refusePlan ..
      · rw [State.setLink_plan, show Config.planRoom = 32 from rfl]
        split
        · exact queueReply_refusePlan ..
        · have link : (appendRecords rs s).link = s.link := (issues_appendRecords rs s).link
          rw [queueReply_okPlan, appendRecords_setLink, ← link, answeredPlan_setBuffer, List.append_nil]

/-- Settles O39: the checks in their order, and the accepted append by whether it tests the issue. -/
theorem planAppend : Obligations.PlanAppend := by
  unfold Obligations.PlanAppend
  intro s f rest n taking kind one four length
  rw [exec_planAppend taking kind one four length]
  refine ⟨fun held => ?_, fun free => ⟨fun bad => ?_, fun rs decoded => ⟨fun dup => ?_, fun fresh full => ?_, fun fresh room => ?_⟩⟩⟩
  · rw [if_pos held]
    rfl
  · rw [if_neg free, bad]
    rfl
  · rw [if_neg free, decoded, Option.elim_some, if_pos ((hasDuplicate_iff s rs).mpr dup)]
    rfl
  · rw [if_neg free, decoded, Option.elim_some, if_neg (mt (hasDuplicate_iff s rs).mp fresh), if_pos full]
    rfl
  · rw [if_neg free, decoded, Option.elim_some, if_neg (mt (hasDuplicate_iff s rs).mp fresh), if_neg room]
    have issues := issues_appendRecords rs s
    refine ⟨_, rfl, issues.state, ?_, ?_, fun kept => ?_, fun _ empty => ?_⟩
    · refine issues.count.trans ?_
      simp only [State.setPlan_plan, List.length_append]
      omega
    · show (appendRecords rs s).link.tx ++ _ = _
      rw [issues.link]
      rfl
    · rw [appendRecords_of_kept rs kept]
      rfl
    · rw [appendRecords_of_empty rs empty]
      rfl

/-! ## PLAN_CANCEL, PLAN_FLUSH, PLAN_REPORT -/

/-- An ACTIVE plan left empty goes to IDLE and raises PLAN_IDLE; any other is left as it is (R84). -/
theorem idleIfEmpty_spec (s : State) :
    (idleIfEmpty s).plan = { s.plan with
      state := if s.plan.state = .active ∧ s.plan.list = [] ∧ s.plan.window = [] then .idle else s.plan.state } ∧
    (idleIfEmpty s).ev.counters = s.ev.counters ∧
    (s.plan.state = .active → s.plan.list = [] → s.plan.window = [] → hasEvent (idleIfEmpty s).ev.pending .planIdle = true) := by
  rw [idleIfEmpty_eq]
  by_cases empty : s.plan.state = .active ∧ s.plan.list = [] ∧ s.plan.window = []
  · rw [if_pos empty, if_pos empty]
    have h := planEnds_spec .idle .planIdle s
    exact ⟨h.plan, h.counters, fun _ _ _ => h.raised⟩
  · rw [if_neg empty, if_neg empty]
    exact ⟨rfl, rfl, fun active list window => absurd ⟨active, list, window⟩ empty⟩

theorem aheadOf_eq {ahead behind : List PlanRecord} {r : PlanRecord} {id : Nat} (named : r.id = id) (before : ∀ x ∈ ahead, x.id ≠ id) :
    aheadOf id (ahead ++ r :: behind) = ahead := by
  unfold aheadOf
  induction ahead with
  | nil => exact List.takeWhile_cons_of_neg (by simp [named])
  | cons x rest ih =>
    rw [List.cons_append, List.takeWhile_cons_of_pos (by simpa using before x List.mem_cons_self),
      ih fun y mem => before y (List.mem_cons_of_mem x mem)]

/-- What PLAN_CANCEL answers (R90). -/
theorem exec_planCancel {lo hi : Byte} (taking : Taking s f rest) (kind : f.kind = 0x34#8) (payload : f.payload = [lo, hi]) :
    let id := lo.toNat + 256 * hi.toNat
    let kept := aheadOf id s.plan.list
    exec .planCancel s = .next (
      if id = 0 then s.replied rest (replyTo f .badValue (planFields s))
      else if s.plan.list.length - kept.length = 0 then s.replied rest (replyTo f .notFound (planFields s))
      else (idleIfEmpty (setPlanList kept (s.setLink { s.link with buffer := rest }))).answeredPlan f
        (put8 (s.plan.list.length - kept.length))) := by
  intro id kept
  refine congrArg Host.Outcome.next ((serve_of_taking taking (isKind_of_eq kind)).trans ?_)
  have named : u16At f.payload 0 = id := by rw [payload]; rfl
  rw [answerPlanCancel, withPlanLen_of_length (by rw [payload]; rfl), named]
  dsimp only
  split
  · exact queueReply_refusePlan ..
  · rw [State.setLink_plan]
    split
    · exact queueReply_refusePlan ..
    · exact queueReply_okPlan ..

/-- Settles O43: what is cut off the list, and the plan that is left empty. -/
theorem planRemovals : Obligations.PlanRemovals := by
  unfold Obligations.PlanRemovals
  intro s f rest taking
  refine ⟨fun kind lo hi payload => ?_, fun kind payload => ?_, fun kind payload => ?_⟩
  · intro id
    rw [exec_planCancel taking kind payload]
    refine ⟨fun zero => ?_, fun some none => ?_, fun some ahead r behind list named before => ?_⟩
    · rw [if_pos zero]
      rfl
    · have all : aheadOf id s.plan.list = s.plan.list := List.takeWhile_eq_self_iff.mpr fun r mem => by simpa using none r mem
      rw [if_neg some, if_pos (by rw [all, Nat.sub_self])]
      rfl
    · have kept : aheadOf id s.plan.list = ahead := list ▸ aheadOf_eq named before
      have removed : s.plan.list.length - ahead.length = behind.length + 1 := by simp [list]
      rw [if_neg some, kept, if_neg (by omega), removed]
      obtain ⟨plan, counters, raised⟩ := idleIfEmpty_spec (setPlanList ahead (s.setLink { s.link with buffer := rest }))
      refine ⟨_, rfl, ?_, counters, ?_, raised, answeredPlan_last ..⟩
      · exact plan.trans (by rw [show ∀ x t, (State.answeredPlan f x t).plan = t.plan from fun _ _ => rfl, plan]; rfl)
      · exact congrArg Planner.state plan
  · have done : exec .planFlush s = .next ((idleIfEmpty (setPlanList [] (s.setLink { s.link with buffer := rest }))).answeredPlan f
        (put8 s.plan.list.length)) := by
      refine congrArg Host.Outcome.next ((serve_of_taking taking (isKind_of_eq kind)).trans ?_)
      rw [answerPlanFlush, withPlanLen_of_length (by rw [payload]; rfl), queueReply_okPlan]
      rfl
    obtain ⟨plan, counters, raised⟩ := idleIfEmpty_spec (setPlanList [] (s.setLink { s.link with buffer := rest }))
    refine ⟨_, done, ?_, counters, ?_, fun active window => raised active rfl window, answeredPlan_last ..⟩
    · exact plan.trans (by rw [show ∀ x t, (State.answeredPlan f x t).plan = t.plan from fun _ _ => rfl, plan]; rfl)
    · refine (congrArg Planner.state plan).trans ?_
      simp [setPlanList]
  · refine congrArg Host.Outcome.next ((serve_of_taking taking (isKind_of_eq kind)).trans ?_)
    rw [answerPlanReport, withPlanLen_of_length (by rw [payload]; rfl)]
    dsimp only
    rw [queueReply_okPlan]
    simp [State.answeredPlan, planFields, State.replied, State.setPlan, State.setLink, Config.reportMax, List.append_assoc]

end

end Sys2Proof.Machine
end

section
/-! THE PLAN'S STATES. PLAN_START, PLAN_SUSPEND and PLAN_RESUME: the plan activated, and drained (R82 to R89, R118). -/

namespace Sys2Proof.Machine

section
variable {s t : State} {f : Frame} {rest : List Frame} {l : Leg}

/-! ## Legs that are held -/

/-- A leg is held at a position: its HOLD waits (R97, R126). -/
def Held (l : Leg) (v : Vec3) (s : State) : Prop :=
  (s.legs.get l).commanded = v ∧ (s.legs.get l).reached = false ∧ (⟨l, .setpoint v 0 true⟩ : Txn) ∈ s.bus.queue

theorem held_sendHold (running : s.sup.mode ≠ .parked) : Held l (heldPos s l) (sendHold l s) := by
  have h := commands_sendHold l s
  rw [Held, h.told l (List.mem_singleton.mpr rfl)]
  exact ⟨rfl, rfl, h.waits running l (List.mem_singleton.mpr rfl)⟩

theorem Held.sendHold {m : Leg} {v : Vec3} (held : Held l v s) (other : m ≠ l) : Held l v (sendHold m s) := by
  have h := commands_sendHold m s
  have away : l ∉ [m] := fun mem => other (List.mem_singleton.mp mem).symm
  obtain ⟨commanded, reached, waits⟩ := held
  rw [Held, h.others l away]
  exact ⟨commanded, reached, h.stays _ waits fun k mem => isSetpointFor_of_ne fun same =>
    other ((List.mem_singleton.mp mem).symm.trans same.symm)⟩

/-- Each of some legs that are held stands held where its drive stood, be a leg named twice or not. -/
theorem held_holdLegs {ls : List Leg} (mem : l ∈ ls) (running : s.sup.mode ≠ .parked) : Held l (heldPos s l) (holdLegs ls s) := by
  suffices h : ∀ (ls : List Leg) (t : State), t.sup = s.sup → t.bus.drives = s.bus.drives → l ∈ ls ∨ Held l (heldPos s l) t →
      Held l (heldPos s l) (holdLegs ls t) from h ls s rfl rfl (.inl mem)
  intro ls
  induction ls with
  | nil => exact fun t _ _ held => held.resolve_left List.not_mem_nil
  | cons m rest ih =>
    intro t sup drives held
    have h := commands_sendHold m t
    have pos : heldPos t l = heldPos s l := by rw [heldPos, heldPos, drives]
    refine ih (Machine.sendHold m t) (h.sup.trans sup) (h.drives.trans drives) ?_
    by_cases same : m = l
    · subst same
      exact .inr (pos ▸ held_sendHold (by rw [sup]; exact running))
    · exact held.imp (fun there => (List.mem_cons.mp there).resolve_left (Ne.symm same)) fun held => held.sendHold same

theorem holdLegs_setPlan (ls : List Leg) (p : Planner) (s : State) : holdLegs ls (s.setPlan p) = (holdLegs ls s).setPlan p :=
  forLegs_comm (f := fun s => s.setPlan p) (fun l s => by simp only [Machine.sendHold, handover_eq]; rfl) ls s

/-! ## The plan drained -/

/-- From `s`, whose plan was ACTIVE, it has been drained (R85, R86, R118). -/
structure Drains (s t : State) : Prop where
  plan : t.plan = { s.plan with
    window := servedOf s.plan.window, list := (waitingOf s.plan.window).map WindowRecord.body ++ s.plan.list
    state := if servedOf s.plan.window = [] then .suspended else .draining }
  queue : t.bal.queue = unrequested (waitingOf s.plan.window) s.bal.queue
  counters : t.ev.counters = s.ev.counters
  raised : servedOf s.plan.window = [] → hasEvent t.ev.pending .planSuspended = true
  keeps : (∀ p, s.bal.preshift = some p → ¬ ownedBy (waitingOf s.plan.window) p) →
    t.bal.preshift = s.bal.preshift ∧ (s.sup.pendingSettle = false → t.legs = s.legs ∧ t.bus = s.bus)
  stops : ∀ p, s.bal.preshift = some p → ownedBy (waitingOf s.plan.window) p →
    t.bal.preshift = none ∧
      (s.sup.pendingSettle = false → t.legs = (holdLegs p.legs s).legs ∧ t.bus = (holdLegs p.legs s).bus)

theorem drains_drain (active : s.plan.state = .active) : Drains s (drain s) := by
  have h := withdraws_withdrawWaiting (setPlanState .draining s)
  have shown : drain s = suspendIfEmpty (withdrawWaiting (setPlanState .draining s)) := if_pos active
  rw [shown, suspendIfEmpty_eq]
  generalize withdrawWaiting (setPlanState .draining s) = u at h
  have held : ∀ p : Preshift, (holdLegs p.legs (setPlanState .draining s)).legs = (holdLegs p.legs s).legs ∧
      (holdLegs p.legs (setPlanState .draining s)).bus = (holdLegs p.legs s).bus := fun p => by
    rw [setPlanState, holdLegs_setPlan]
    exact ⟨rfl, rfl⟩
  have counters : u.ev.counters = s.ev.counters := by rw [h.frame]; rfl
  have pending : u.sup.pendingSettle = s.sup.pendingSettle := by rw [h.frame]; rfl
  have window : u.plan.window = servedOf s.plan.window := by rw [h.plan]; rfl
  have state : u.plan.state = .draining := by rw [h.plan]; rfl
  by_cases empty : servedOf s.plan.window = []
  · rw [if_pos ⟨state, window.trans empty⟩]
    have ends := planEnds_spec .suspended .planSuspended u
    generalize planEnds .suspended .planSuspended u = t at ends
    refine ⟨?_, ?_, ends.counters.trans counters, fun _ => ends.raised, fun free => ?_, fun p running owned => ?_⟩
    · rw [ends.plan, h.plan, if_pos empty]
      rfl
    · rw [ends.bal]
      exact h.queue
    · obtain ⟨preshift, legs, bus⟩ := h.keeps free
      rw [ends.bal]
      refine ⟨preshift, fun no => ?_⟩
      obtain ⟨sameLegs, sameBus⟩ := ends.stays (pending.trans no)
      exact ⟨sameLegs.trans legs, sameBus.trans bus⟩
    · obtain ⟨preshift, legs, bus⟩ := h.stops p running owned
      rw [ends.bal]
      refine ⟨preshift, fun no => ?_⟩
      obtain ⟨sameLegs, sameBus⟩ := ends.stays (pending.trans no)
      exact ⟨(sameLegs.trans legs).trans (held p).1, (sameBus.trans bus).trans (held p).2⟩
  · rw [if_neg fun both => empty (window.symm.trans both.2)]
    refine ⟨?_, h.queue, counters, fun none => absurd none empty, fun free => ?_, fun p running owned => ?_⟩
    · rw [h.plan, if_neg empty]
      rfl
    · obtain ⟨preshift, same⟩ := h.keeps free
      exact ⟨preshift, fun _ => same⟩
    · obtain ⟨preshift, legs, bus⟩ := h.stops p running owned
      exact ⟨preshift, fun _ => ⟨legs.trans (held p).1, bus.trans (held p).2⟩⟩

/-! ## The plan activated -/

theorem activate_of_empty (list : s.plan.list = []) (window : s.plan.window = []) :
    activate s = planEnds .idle .planIdle (setPlanState .active s) := by
  have empty : (setPlanState .active s).plan.list = [] := list
  rw [activate, issue_of_empty empty, idleIfEmpty_eq]
  exact if_pos ⟨rfl, list, window⟩

theorem activate_of_nonempty (some : s.plan.list ≠ [] ∨ s.plan.window ≠ []) :
    activate s = issue (s.setPlan { s.plan with state := .active }) := by
  have count := (issues_issue (s.setPlan { s.plan with state := .active })).count
  have nonempty : ¬ ((issue (s.setPlan { s.plan with state := .active })).plan.state = .active ∧
      (issue (s.setPlan { s.plan with state := .active })).plan.list = [] ∧
      (issue (s.setPlan { s.plan with state := .active })).plan.window = []) := by
    rintro ⟨-, list, window⟩
    rw [list, window] at count
    simp only [List.length_nil, State.setPlan_plan] at count
    rcases some with list | window
    · exact list (List.length_eq_zero_iff.mp (by omega))
    · exact window (List.length_eq_zero_iff.mp (by omega))
  exact if_neg nonempty

/-- What an accepted start or resume leaves (R83, R84, R89). -/
theorem activated (s : State) (f : Frame) (rest : List Frame) :
    let plan := fun (s : State) => put8 s.plan.state.code ++ put8 s.plan.list.length
    let t := (activate (s.setLink { s.link with buffer := rest })).answeredPlan f []
    t.plan.list.length + t.plan.window.length = s.plan.list.length + s.plan.window.length ∧
      (s.plan.list = [] → s.plan.window = [] → t.plan.state = .idle ∧ hasEvent t.ev.pending .planIdle = true) ∧
      (s.plan.list ≠ [] ∨ s.plan.window ≠ [] → t.plan.state = .active ∧
        t = (issue (s.setPlan { s.plan with state := .active })).replied rest (replyTo f .ok (plan t))) ∧
      t.link.tx.getLast? = some (.reply (replyTo f .ok (plan t)) false) := by
  intro plan t
  have last : t.link.tx.getLast? = some (.reply (replyTo f .ok (plan t)) false) := by
    have h := answeredPlan_last f [] (activate (s.setLink { s.link with buffer := rest }))
    rwa [List.append_nil] at h
  by_cases empty : s.plan.list = [] ∧ s.plan.window = []
  · obtain ⟨list, window⟩ := empty
    have ends := planEnds_spec .idle .planIdle (setPlanState .active (s.setLink { s.link with buffer := rest }))
    rw [← activate_of_empty (s := s.setLink { s.link with buffer := rest }) list window] at ends
    have tPlan : t.plan = { s.plan with state := .idle } := ends.plan
    refine ⟨?_, fun _ _ => ⟨?_, ends.raised⟩, fun some => ?_, last⟩
    · rw [tPlan]
    · rw [tPlan]
    · exact absurd list (some.resolve_right fun more => more window)
  · have some := not_and_or.mp empty
    have issues := issues_issue (s.setPlan { s.plan with state := .active })
    have shown : activate (s.setLink { s.link with buffer := rest }) =
        (issue (s.setPlan { s.plan with state := .active })).setLink { s.link with buffer := rest } := by
      rw [← issue_setLink, activate_of_nonempty (s := s.setLink { s.link with buffer := rest }) some]
      rfl
    have tPlan : t.plan = (issue (s.setPlan { s.plan with state := .active })).plan := by
      show (activate (s.setLink { s.link with buffer := rest })).plan = _
      rw [shown]
      rfl
    refine ⟨?_, fun list window => absurd ⟨list, window⟩ empty, fun _ => ⟨?_, ?_⟩, last⟩
    · rw [tPlan]
      exact issues.count
    · rw [tPlan]
      exact issues.state
    · have link : (issue (s.setPlan { s.plan with state := .active })).link = s.link := issues.link
      have data : plan t = planFields (issue (s.setPlan { s.plan with state := .active })) := by
        show planFields t = _
        rw [planFields, tPlan]
        rfl
      rw [data]
      show State.answeredPlan f [] (activate (s.setLink { s.link with buffer := rest })) = _
      rw [shown, ← link, answeredPlan_setBuffer, List.append_nil]

theorem braceSettled_iff (s : State) :
    braceSettled s = true ↔ (∀ l, (s.legs.get l).phase = .stance ∧ (s.feet.get l).contact = .loaded) ∧
      s.bal.held.required ≤ s.bal.held.margin := by
  simp only [braceSettled, Bool.and_eq_true, Quad.all_iff, decide_eq_true_iff]
  exact and_congr_left fun _ => forall_and.symm

/-! ## PLAN_START, PLAN_SUSPEND, PLAN_RESUME -/

/-- An answer OK with nothing done is the reply in place of the request. -/
theorem queueReply_okPlan_same (f : Frame) (rest : List Frame) (s : State) :
    queueReply f (okPlan [] (s.setLink { s.link with buffer := rest })) = s.replied rest (replyTo f .ok (planFields s)) := by
  rw [queueReply_okPlan, answeredPlan_setBuffer, List.append_nil]

theorem exec_planStart (taking : Taking s f rest) (kind : f.kind = 0x31#8) (payload : f.payload = []) :
    exec .planStart s = .next (
      if s.sup.mode = .standing then
        if s.plan.state = .idle then (activate (s.setLink { s.link with buffer := rest })).answeredPlan f []
        else s.replied rest (replyTo f .wrongState (planFields s))
      else s.replied rest (replyTo f .wrongMode (planFields s))) := by
  refine congrArg Host.Outcome.next ((serve_of_taking taking (isKind_of_eq kind)).trans ?_)
  rw [answerPlanStart, withPlanLen_of_length (by rw [payload]; rfl), State.setLink_sup]
  split
  · rw [State.setLink_plan]
    split
    · exact queueReply_okPlan ..
    · exact queueReply_refusePlan ..
  · exact queueReply_refusePlan ..

theorem exec_planSuspend (taking : Taking s f rest) (kind : f.kind = 0x32#8) (payload : f.payload = []) :
    exec .planSuspend s = .next ((drain (s.setLink { s.link with buffer := rest })).answeredPlan f []) := by
  refine congrArg Host.Outcome.next ((serve_of_taking taking (isKind_of_eq kind)).trans ?_)
  rw [answerPlanSuspend, withPlanLen_of_length (by rw [payload]; rfl), queueReply_okPlan]

theorem exec_planResume (taking : Taking s f rest) (kind : f.kind = 0x33#8) (payload : f.payload = []) :
    exec .planResume s = .next (
      if s.sup.mode = .standing then
        if s.plan.state = .idle ∨ s.plan.state = .active then s.replied rest (replyTo f .ok (planFields s))
        else if s.plan.state = .braced ∧ braceSettled s = false then s.replied rest (replyTo f .notSettled (planFields s))
        else (activate (s.setLink { s.link with buffer := rest })).answeredPlan f []
      else s.replied rest (replyTo f .wrongMode (planFields s))) := by
  refine congrArg Host.Outcome.next ((serve_of_taking taking (isKind_of_eq kind)).trans ?_)
  have settled : braceSettled (s.setLink { s.link with buffer := rest }) = braceSettled s := rfl
  rw [answerPlanResume, withPlanLen_of_length (by rw [payload]; rfl), State.setLink_sup, State.setLink_plan, settled]
  split
  · cases s.plan.state with
    | idle => exact queueReply_okPlan_same ..
    | active => exact queueReply_okPlan_same ..
    | draining => exact queueReply_okPlan ..
    | suspended => exact queueReply_okPlan ..
    | braced =>
      cases braceSettled s with
      | false => exact queueReply_refusePlan ..
      | true => exact queueReply_okPlan ..
  · exact queueReply_refusePlan ..

/-- Settles O42: each request by mode and state, the activation and the drain from what they leave. -/
theorem planStateRequests : Obligations.PlanStateRequests := by
  unfold Obligations.PlanStateRequests
  intro s f rest taking payload plan
  refine ⟨fun kind => ?_, fun kind => ?_, fun kind => ?_⟩
  · rw [exec_planStart taking kind payload]
    refine ⟨fun other => ?_, fun standing running => ?_, fun standing idle => ?_⟩
    · rw [if_neg other]
      rfl
    · rw [if_pos standing, if_neg running]
      rfl
    · rw [if_pos standing, if_pos idle]
      exact ⟨_, rfl, activated s f rest⟩
  · rw [exec_planSuspend taking kind payload]
    refine ⟨fun inactive => ?_, fun active => ?_⟩
    · have same : drain (s.setLink { s.link with buffer := rest }) = s.setLink { s.link with buffer := rest } := if_neg inactive
      rw [same, answeredPlan_setBuffer, List.append_nil]
      rfl
    · have h := drains_drain (s := s.setLink { s.link with buffer := rest }) active
      generalize drain (s.setLink { s.link with buffer := rest }) = t at h
      have back : ∀ q ∈ t.bal.queue, ∀ w ∈ waitingOf s.plan.window, q.id ≠ w.body.id := fun q mem => by
        rw [h.queue] at mem
        exact (mem_unrequested.mp mem).2
      have log : t.plan.log = s.plan.log := by rw [h.plan]; rfl
      refine ⟨_, rfl, congrArg Planner.window h.plan, congrArg Planner.list h.plan, log,
        congrArg Planner.state h.plan, h.raised, back, h.counters, fun p running => ⟨fun owned => (h.stops p running owned).1,
          fun free => ?_⟩, fun standing no p running owned l mem => ?_, ?_⟩
      · refine ((h.keeps fun q runs => ?_).1).trans running
        obtain rfl : p = q := Option.some.inj (running.symm.trans runs)
        exact fun ⟨w, mem, same⟩ => free w mem same
      · obtain ⟨legs, bus⟩ := (h.stops p running owned).2 no
        have held := held_holdLegs (s := s.setLink { s.link with buffer := rest }) mem
          (fun parked => Mode.noConfusion (standing.symm.trans parked))
        rw [Held, ← legs, ← bus] at held
        exact held
      · have last := answeredPlan_last f [] t
        rwa [List.append_nil] at last
  · rw [exec_planResume taking kind payload]
    refine ⟨fun other => ?_, fun standing still => ?_, fun standing => ⟨fun braced unsettled => ?_, fun goes => ?_⟩⟩
    · rw [if_neg other]
      rfl
    · rw [if_pos standing, if_pos still]
      rfl
    · have not : braceSettled s = false := Bool.eq_false_iff.mpr (mt (braceSettled_iff s).mp unsettled)
      rw [if_pos standing, if_neg (by rw [braced]; decide), if_pos ⟨braced, not⟩]
      rfl
    · have stopped : ¬ (s.plan.state = .idle ∨ s.plan.state = .active) := by
        rcases goes with h | h | ⟨h, -⟩ <;> rw [h] <;> decide
      have settled : ¬ (s.plan.state = .braced ∧ braceSettled s = false) := by
        rintro ⟨braced, no⟩
        rcases goes with h | h | ⟨-, settled⟩
        · rw [h] at braced; cases braced
        · rw [h] at braced; cases braced
        · rw [(braceSettled_iff s).mpr settled] at no
          cases no
      rw [if_pos standing, if_neg stopped, if_neg settled]
      exact ⟨_, rfl, activated s f rest⟩

end

end Sys2Proof.Machine
end

section
/-! SAFE_HOLD. What a SAFE_HOLD entry leaves of legs, timers, plan and books, and what carries it over to a command that does something
before it and after it (R94, R98, R147, R148, R172). -/

namespace Sys2Proof.Machine

section
variable {s t u : State}

/-! ## The plan at the entry -/

/-- The Step Planner's share of a SAFE_HOLD entry, with no pre-shift running (R94). -/
structure PlanHolds (s t : State) : Prop where
  held : PlanHeld s t
  state : t.plan.state = if s.plan.state = .idle then .idle else .suspended
  frame : t = (((s.setPlan t.plan).setBal { s.bal with queue := t.bal.queue, eval := t.bal.eval }).setEv
    { s.ev with pending := t.ev.pending, counters := { s.ev.counters with logOverwrites := t.ev.counters.logOverwrites } }).setLink
      { s.link with tx := t.link.tx }
  flags : ∀ e, hasEvent s.ev.pending e = true → hasEvent t.ev.pending e = true

theorem PlanHolds.geo (h : PlanHolds s t) : t.geo = s.geo := by rw [h.frame]; rfl
theorem PlanHolds.surf (h : PlanHolds s t) : t.surf = s.surf := by rw [h.frame]; rfl
theorem PlanHolds.balCfg (h : PlanHolds s t) : t.balCfg = s.balCfg := by rw [h.frame]; rfl
theorem PlanHolds.gait (h : PlanHolds s t) : t.gait = s.gait := by rw [h.frame]; rfl
theorem PlanHolds.feet (h : PlanHolds s t) : t.feet = s.feet := by rw [h.frame]; rfl
theorem PlanHolds.att (h : PlanHolds s t) : t.att = s.att := by rw [h.frame]; rfl
theorem PlanHolds.legs (h : PlanHolds s t) : t.legs = s.legs := by rw [h.frame]; rfl
theorem PlanHolds.bus (h : PlanHolds s t) : t.bus = s.bus := by rw [h.frame]; rfl
theorem PlanHolds.sup (h : PlanHolds s t) : t.sup = s.sup := by rw [h.frame]; rfl
theorem PlanHolds.pending (h : PlanHolds s t) : t.pending = s.pending := by rw [h.frame]; rfl
theorem PlanHolds.bal (h : PlanHolds s t) : t.bal = { s.bal with queue := t.bal.queue, eval := t.bal.eval } := by
  conv_lhs => rw [h.frame]
  rfl
theorem PlanHolds.link (h : PlanHolds s t) : t.link = { s.link with tx := t.link.tx } := by
  conv_lhs => rw [h.frame]
  rfl
theorem PlanHolds.ev (h : PlanHolds s t) : t.ev =
    { s.ev with pending := t.ev.pending, counters := { s.ev.counters with logOverwrites := t.ev.counters.logOverwrites } } := by
  conv_lhs => rw [h.frame]
  rfl

theorem waitingOf_waitingOf (ws : List WindowRecord) : waitingOf (waitingOf ws) = waitingOf ws := by
  simp [waitingOf, List.filter_filter]

theorem servedOf_waitingOf (ws : List WindowRecord) : servedOf (waitingOf ws) = [] := by
  simp [servedOf, waitingOf]

/-- A running plan at the entry: what it serves is cancelled, what waits withdrawn. -/
theorem planHolds_of_runs (runs : planRuns s = true) (still : s.bal.preshift = none) :
    PlanHolds s (raise .planSuspended (setPlanState .suspended (withdrawWaiting (cancelRecords s.plan.window s)))) := by
  have cancels := cancels_cancelRecords s.plan.window s
  generalize cancelRecords s.plan.window s = c at cancels
  have withdraws := withdraws_withdrawWaiting c
  generalize withdrawWaiting c = w at withdraws
  obtain ⟨es, tx, raised, shown⟩ := raise_eq .planSuspended (setPlanState .suspended w)
  have flags := (calm_raise .planSuspended (setPlanState .suspended w)).quiet.flags
  generalize raise .planSuspended (setPlanState .suspended w) = t at shown flags ⊢
  obtain ⟨n, counters⟩ := cancels.counters
  have alone : c.bal.preshift = none := by rw [cancels.books.bal]; exact still
  obtain ⟨preshift, legs, bus⟩ := withdraws.keeps fun p running => by rw [alone] at running; cases running
  have ev : w.ev = c.ev := by rw [withdraws.frame]; rfl
  have plan : t.plan = { w.plan with state := .suspended } := by rw [shown]; rfl
  have same : t.ev.counters = c.ev.counters := by rw [← ev, shown]; rfl
  have counted : t.ev.counters = { s.ev.counters with logOverwrites := n } := same.trans counters
  have raisedNow : hasEvent t.ev.pending .planSuspended = true := by rw [shown]; exact raised
  have told : ∀ e, hasEvent c.ev.pending e = true → hasEvent t.ev.pending e = true := fun e set => flags e (by
    show hasEvent w.ev.pending e = true
    rw [ev]
    exact set)
  have running : s.plan.state ≠ .idle := fun idle => by simp [planRuns, idle] at runs
  refine ⟨⟨fun _ nodup room => ?_, fun no => ?_, fun _ => raisedNow, ?_, ?_, ?_, ?_⟩, ?_, ?_, fun e set => told e (cancels.books.flags e set)⟩
  · have left : c.plan.window = waitingOf s.plan.window := cancels.window.trans (unserved_self (nodup_window nodup))
    have queue : t.bal.queue = unrequested (waitingOf s.plan.window) c.bal.queue := by
      rw [← waitingOf_waitingOf, ← left, ← withdraws.queue, shown]
      rfl
    refine ⟨?_, ?_, ?_, fun w mem notify => told _ (cancels.notified w mem notify), fun q mem => ?_⟩
    · rw [plan, withdraws.plan, left]
      exact servedOf_waitingOf _
    · rw [plan, withdraws.plan, left, cancels.list]
      exact congrArg (fun ws => ws.map WindowRecord.body ++ s.plan.list) (waitingOf_waitingOf _)
    · obtain ⟨log, lost⟩ := cancels.log s [] room (.nil room rfl rfl) rfl
      refine ⟨?_, ?_⟩
      · rw [plan, withdraws.plan]
        exact log
      · rw [same]
        exact lost
    · rw [queue] at mem
      exact (mem_unrequested.mp mem).2
  · rw [runs] at no
    cases no
  · rw [counted]
  · rw [counted]
  · rw [counted]
  · rw [counted]
  · rw [plan, if_neg running]
  · have wFrame := withdraws.frame
    rw [legs, withdraws.bal, preshift, bus, cancels.books.bal, cancels.books.legs, cancels.books.bus] at wFrame
    rw [shown] at counted ⊢
    rw [wFrame] at counted ⊢
    rw [cancels.books.frame] at counted ⊢
    have same : c.ev.counters = { s.ev.counters with logOverwrites := c.ev.counters.logOverwrites } := by rw [counters]
    simp only [State.setPlan, State.setEv, State.setLink, State.setBal, State.setLegs, State.setBus, setPlanState]
    rw [← same]

theorem planHolds_planSafeHold (still : s.bal.preshift = none) : PlanHolds s (planSafeHold s) := by
  have stays : planRuns s = false → s.plan.state = .idle ∨ s.plan.state = .suspended → PlanHolds s s := fun stops rests => by
    have runs : ¬ planRuns s = true := by rw [stops]; decide
    refine ⟨⟨fun runs' => absurd runs' runs, fun _ => ⟨rfl, rfl, rfl⟩, fun told => ?_, rfl, rfl, rfl, rfl⟩, ?_, rfl, fun _ => id⟩
    · rcases told with runs' | braced
      · exact absurd runs' runs
      · rcases rests with h | h <;> rw [h] at braced <;> cases braced
    · rcases rests with h | h <;> simp [h]
  cases state : s.plan.state with
  | active =>
    have shown : planSafeHold s = raise .planSuspended (setPlanState .suspended (withdrawWaiting (cancelRecords s.plan.window s))) := by
      rw [planSafeHold, state]
    rw [shown]
    exact planHolds_of_runs (by simp [planRuns, state]) still
  | draining =>
    have shown : planSafeHold s = raise .planSuspended (setPlanState .suspended (withdrawWaiting (cancelRecords s.plan.window s))) := by
      rw [planSafeHold, state]
    rw [shown]
    exact planHolds_of_runs (by simp [planRuns, state]) still
  | braced =>
    have shown : planSafeHold s = raise .planSuspended (setPlanState .suspended s) := by rw [planSafeHold, state]
    have flags := (calm_raise .planSuspended (setPlanState .suspended s)).quiet.flags
    obtain ⟨es, tx, raised, eq⟩ := raise_eq .planSuspended (setPlanState .suspended s)
    rw [shown]
    generalize raise .planSuspended (setPlanState .suspended s) = t at eq flags ⊢
    have stops : ¬ planRuns s = true := by simp [planRuns, state]
    refine ⟨⟨fun runs => absurd runs stops, fun _ => ?_, fun _ => ?_, ?_, ?_, ?_, ?_⟩, ?_, ?_, flags⟩
    · rw [eq]
      exact ⟨rfl, rfl, rfl⟩
    · rw [eq]
      exact raised
    · rw [eq]; rfl
    · rw [eq]; rfl
    · rw [eq]; rfl
    · rw [eq]; rfl
    · rw [eq, state]; rfl
    · rw [eq]; rfl
  | idle =>
    have shown : planSafeHold s = s := by rw [planSafeHold, state]
    rw [shown]
    exact stays (by simp [planRuns, state]) (.inl state)
  | suspended =>
    have shown : planSafeHold s = s := by rw [planSafeHold, state]
    rw [shown]
    exact stays (by simp [planRuns, state]) (.inr state)

/-! ## The entry -/

theorem Commands.pending {ls : List Leg} {f : Leg → LegSeq → LegSeq} {txn : Leg → Txn} (h : Commands ls f txn s t) :
    t.pending = s.pending := by rw [h.frame]; rfl

/-- A leg that has been commanded is changed once more. -/
theorem Commands.modLeg {l : Leg} {f : Leg → LegSeq → LegSeq} {txn : Leg → Txn} (h : Commands [l] f txn s t) (g : LegSeq → LegSeq) :
    Commands [l] (fun m q => g (f m q)) txn s (modLeg l g t) where
  frame := by
    conv_lhs => rw [h.frame]
    rfl
  told m mem := by
    have same := List.mem_singleton.mp mem
    subst same
    exact (Quad.get_set_self ..).trans (congrArg g (h.told m mem))
  others m away := (Quad.get_set_of_ne _ (by simpa using away) _).trans (h.others m away)
  waits := h.waits
  stays := h.stays

/-- The legs at a SAFE_HOLD entry: each held where its drive stands, its phase timer stopped (R98, R147). -/
def holdStill (l : Leg) (s : State) : State := modLeg l (fun q => { q with timer := none }) (sendHold l s)

theorem commands_holdStill (s : State) :
    Commands legsInOrder (fun l q => { q.sent (heldPos s l) none with timer := none }) (holdAt s) s
      (forLegs holdStill legsInOrder s) := by
  refine commands_forLegs (fun _ => rfl) (fun l t ⟨ms, _, done⟩ => ?_) nodup_legsInOrder
  have held : ∀ m, heldPos t m = heldPos s m := fun m => by rw [heldPos, heldPos, done.drives]
  exact ((commands_sendHold l t).modLeg fun q => { q with timer := none }).congr (fun m _ => by rw [held])
    (fun m _ => by simp only [holdAt, held])

/-- The Mode Supervisor's timers stopped and the pre-shift ended (R118, R147). -/
def entryTimers (s : State) : State :=
  (s.setSup { s.sup with riseSettle := none, supportLost := none, pendingSettle := false, silenceInRise := false }).setBal
    { s.bal with preshift := none }

/-- From `s`, SAFE_HOLD has been entered, the fault offered before (R94, R98, R118, R147). -/
structure HoldsStillIn (s t : State) : Prop where
  plan : PlanHeld s t
  state : t.plan.state = if s.plan.state = .idle then .idle else .suspended
  legs : ∀ l, t.legs.get l = { (s.legs.get l).sent (heldPos s l) none with timer := none }
  waits : ∀ l, holdAt s l ∈ t.bus.queue
  raised : hasEvent t.ev.pending .modeChange = true
  flags : ∀ e, hasEvent s.ev.pending e = true → hasEvent t.ev.pending e = true
  bal : t.bal = { s.bal with queue := t.bal.queue, eval := t.bal.eval, preshift := none }
  bus : t.bus = { s.bus with queue := t.bus.queue }
  sup : t.sup = { s.sup with
    mode := .safeHold, riseSettle := none, supportLost := none, pendingSettle := false, silenceInRise := false }
  link : t.link = { s.link with tx := t.link.tx, silence := none }
  ev : t.ev = { s.ev with
    pending := t.ev.pending, counters := { s.ev.counters with logOverwrites := t.ev.counters.logOverwrites } }
  records : t.geo = s.geo ∧ t.surf = s.surf ∧ t.balCfg = s.balCfg ∧ t.gait = s.gait
  outside : t.feet = s.feet ∧ t.att = s.att ∧ t.pending = s.pending

/-- What a plan held says of a state whose plan, counters and time are the same. -/
theorem PlanHeld.of_same (h : PlanHeld u t) (plan : u.plan = s.plan) (counters : u.ev.counters = s.ev.counters)
    (time : u.ev.time = s.ev.time) : PlanHeld s t := by
  have runs : planRuns u = planRuns s := by rw [planRuns, planRuns, plan]
  have ids : idsInPlan u = idsInPlan s := by rw [idsInPlan, idsInPlan, plan]
  have entry : ∀ w, entryOf u w .cancelled [] = entryOf s w .cancelled [] := fun w => by rw [entryOf, entryOf, time]
  simpa only [PlanHeld, Logged, runs, ids, plan, counters, entry] using h

theorem holdsStillIn_enterSafeHold (s : State) : HoldsStillIn s (enterSafeHold s) := by
  obtain ⟨es, tx, raised, moded⟩ := changeMode_eq .safeHold s
  have flags := (calm_enterSafeHold s).quiet.flags
  have running : (changeMode .safeHold s).sup.mode ≠ .parked := by rw [moded]; exact Mode.noConfusion
  have commands := commands_holdStill (changeMode .safeHold s)
  have shown : enterSafeHold s = planSafeHold (entryTimers (forLegs holdStill legsInOrder (changeMode .safeHold s))) := by
    simp only [enterSafeHold, entryTimers, State.setSup_bal]
    exact congrArg (fun f => planSafeHold (entryTimers (forLegs f legsInOrder (changeMode .safeHold s)))) (rfl : _ = holdStill)
  rw [shown] at flags ⊢
  generalize changeMode .safeHold s = m at moded running commands flags ⊢
  generalize forLegs holdStill legsInOrder m = v at commands flags ⊢
  have timers : entryTimers v = (v.setSup { v.sup with
    riseSettle := none, supportLost := none, pendingSettle := false, silenceInRise := false }).setBal { v.bal with preshift := none } := rfl
  have plan : v.plan = s.plan := by rw [commands.plan, moded]; rfl
  have ev : v.ev = { s.ev with pending := es } := by rw [commands.ev, moded]; rfl
  have link : v.link = { s.link with tx := tx, silence := none } := by rw [commands.link, moded]; rfl
  have sup : v.sup = { s.sup with mode := .safeHold, pendingSettle := false } := by
    rw [commands.sup, moded]
    simp
  have bal : v.bal = s.bal := by rw [commands.bal, moded]; rfl
  have drives : v.bus = { s.bus with queue := v.bus.queue } := by
    have frame := commands.frame
    generalize v.bus.queue = q at frame ⊢
    rw [frame, moded]
    rfl
  have holds := planHolds_planSafeHold (s := entryTimers v) rfl
  generalize planSafeHold (entryTimers v) = t at holds flags ⊢
  generalize entryTimers v = w at holds timers
  have wPlan : w.plan = s.plan := by rw [timers]; exact plan
  have wEv : w.ev = { s.ev with pending := es } := by rw [timers]; exact ev
  have tLegs : t.legs = v.legs := by rw [holds.legs, timers]; rfl
  have tBus : t.bus = v.bus := by rw [holds.bus, timers]; rfl
  have tBal : t.bal = { s.bal with queue := t.bal.queue, eval := t.bal.eval, preshift := none } :=
    holds.bal.trans (by rw [timers, State.setBal_bal, bal])
  have tSup : t.sup = { s.sup with
      mode := .safeHold, riseSettle := none, supportLost := none, pendingSettle := false, silenceInRise := false } := by
    rw [holds.sup, timers, State.setBal_sup, State.setSup_sup, sup]
  have tLink : t.link = { s.link with tx := t.link.tx, silence := none } :=
    holds.link.trans (by rw [timers, State.setBal_link, State.setSup_link, link])
  have tEv : t.ev = { s.ev with
      pending := t.ev.pending, counters := { s.ev.counters with logOverwrites := t.ev.counters.logOverwrites } } :=
    holds.ev.trans (by rw [wEv])
  have pos : ∀ l, heldPos m l = heldPos s l := fun l => by rw [moded]; rfl
  refine ⟨holds.held.of_same wPlan (by rw [wEv]) (by rw [wEv]), by rw [holds.state, wPlan], fun l => ?_, fun l => ?_, ?_,
    flags, tBal,
    by rw [tBus]; exact drives, tSup, tLink, tEv, ⟨?_, ?_, ?_, ?_⟩, ?_, ?_, ?_⟩
  · rw [tLegs, commands.told l (mem_legsInOrder l), pos, moded]
    rfl
  · have waits := commands.waits running l (mem_legsInOrder l)
    rw [tBus]
    simpa only [holdAt, pos] using waits
  · refine holds.flags _ ?_
    rw [wEv]
    exact raised
  · rw [holds.geo, timers, State.setBal_geo, State.setSup_geo, commands.geo, moded]
    rfl
  · rw [holds.surf, timers, State.setBal_surf, State.setSup_surf, commands.surf, moded]
    rfl
  · rw [holds.balCfg, timers, State.setBal_balCfg, State.setSup_balCfg, commands.balCfg, moded]
    rfl
  · rw [holds.gait, timers, State.setBal_gait, State.setSup_gait, commands.gait, moded]
    rfl
  · rw [holds.feet, timers, State.setBal_feet, State.setSup_feet, commands.feet, moded]
    rfl
  · rw [holds.att, timers, State.setBal_att, State.setSup_att, commands.att, moded]
    rfl
  · rw [holds.pending, timers, State.setBal_pending, State.setSup_pending, commands.pending, moded]
    rfl

end

end Sys2Proof.Machine
end

section
/-! FAULTS. A fault that acts: offered, and SAFE_HOLD entered or kept (R147, R148, R172). From it the timers whose expiry is a fault. -/

namespace Sys2Proof.Machine

section
variable {s t u v : State} {k : FaultKind} {leg : Option Leg}

/-! ## What a fault looks at, and what may follow its entry -/

/-- The counters a record's completion may change (R79, R80). -/
def Counters.ofPlan (c : Counters) : Word × Word × Word × Word × Word :=
  (c.stepsOk, c.stepsClamped, c.stepsMissed, c.shiftsDone, c.logOverwrites)

/-- `u` is like `s` in all that a fault report looks at. -/
structure Alike (s u : State) : Prop where
  mode : u.sup.mode = s.sup.mode
  plan : u.plan = s.plan
  time : u.ev.time = s.ev.time
  fault : u.ev.fault = s.ev.fault
  overflow : u.ev.overflow = s.ev.overflow
  counters : u.ev.counters.ofPlan = s.ev.counters.ofPlan
  legs : u.legs = s.legs
  pos : ∀ l, heldPos u l = heldPos s l

theorem Alike.trans (h : Alike s u) (k : Alike u v) : Alike s v :=
  ⟨k.mode.trans h.mode, k.plan.trans h.plan, k.time.trans h.time, k.fault.trans h.fault, k.overflow.trans h.overflow,
    k.counters.trans h.counters, k.legs.trans h.legs, fun l => (k.pos l).trans (h.pos l)⟩

theorem PlanHeld.before (h : PlanHeld u t) (plan : u.plan = s.plan) (time : u.ev.time = s.ev.time)
    (counters : u.ev.counters.ofPlan = s.ev.counters.ofPlan) : PlanHeld s t := by
  have runs : planRuns u = planRuns s := by rw [planRuns, planRuns, plan]
  have ids : idsInPlan u = idsInPlan s := by rw [idsInPlan, idsInPlan, plan]
  have entry : ∀ w, entryOf u w .cancelled [] = entryOf s w .cancelled [] := fun w => by rw [entryOf, entryOf, time]
  simp only [Counters.ofPlan, Prod.mk.injEq] at counters
  obtain ⟨ok, clamped, missed, shifts, lost⟩ := counters
  simpa only [PlanHeld, Logged, runs, ids, plan, ok, clamped, missed, shifts, lost, entry] using h

/-- The plan at a SAFE_HOLD entry, seen from the state the entry has left or from one that has done nothing to the plan since. -/
theorem PlanHeld.after (h : PlanHeld s t) (plan : v.plan = t.plan) (queue : v.bal.queue = t.bal.queue)
    (counters : v.ev.counters = t.ev.counters) (flags : v.ev.pending = t.ev.pending) : PlanHeld s v := by
  simpa only [PlanHeld, Logged, plan, queue, counters, flags] using h

/-- `v` is like `t`, in SAFE_HOLD, in all that an entry is said to leave. -/
structure Keeps (t v : State) : Prop where
  mode : v.sup.mode = t.sup.mode
  riseSettle : v.sup.riseSettle = t.sup.riseSettle
  supportLost : t.sup.supportLost = none → v.sup.supportLost = none
  pendingSettle : v.sup.pendingSettle = t.sup.pendingSettle
  plan : v.plan = t.plan
  queue : v.bal.queue = t.bal.queue
  preshift : v.bal.preshift = t.bal.preshift
  ev : v.ev = t.ev
  legs : v.legs = t.legs
  waits : ∀ x ∈ t.bus.queue, x ∈ v.bus.queue
  silence : v.link.silence = t.link.silence

theorem Keeps.refl (t : State) : Keeps t t := ⟨rfl, rfl, id, rfl, rfl, rfl, rfl, rfl, rfl, fun _ => id, rfl⟩

theorem EntersSafeHold.after (h : EntersSafeHold k leg s t) (keeps : Keeps t v) : EntersSafeHold k leg s v := by
  obtain ⟨held, mode, raised, empty, full, legs, preshift, riseSettle, supportLost, silence, pendingSettle, state⟩ := h
  refine ⟨held.after keeps.plan keeps.queue (by rw [keeps.ev]) (by rw [keeps.ev]), keeps.mode.trans mode, by rw [keeps.ev]; exact raised,
    by rw [keeps.ev]; exact empty, by rw [keeps.ev]; exact full, fun l => ?_, keeps.preshift.trans preshift,
    keeps.riseSettle.trans riseSettle, keeps.supportLost supportLost, keeps.silence.trans silence,
    keeps.pendingSettle.trans pendingSettle, by rw [keeps.plan]; exact state⟩
  obtain ⟨phase, motion, timer, commanded, waits⟩ := legs l
  rw [keeps.legs]
  exact ⟨phase, motion, timer, commanded, keeps.waits _ waits⟩

/-! ## The offer -/

theorem offerFault_of_empty (empty : s.ev.fault = none) : offerFault k leg s =
    s.setEv { s.ev with fault := some ⟨k, leg, s.sup.mode, oldestInWindow s, s.ev.time⟩ } := by
  rw [offerFault, empty]

theorem offerFault_of_full {r : FaultRecord} (full : s.ev.fault = some r) : offerFault k leg s = s.setEv { s.ev with overflow := true } := by
  rw [offerFault, full]

/-- An offer changes the fault record alone (R172). -/
theorem offerFault_frame (k : FaultKind) (leg : Option Leg) (s : State) :
    offerFault k leg s = s.setEv { s.ev with
      fault := (offerFault k leg s).ev.fault, overflow := (offerFault k leg s).ev.overflow } := by
  unfold offerFault
  split <;> rfl

/-- What an offer leaves of the fault record. -/
theorem offered (k : FaultKind) (leg : Option Leg) (alike : Alike s u) :
    (s.ev.fault = none → (offerFault k leg u).ev.fault =
        some ⟨k, leg, s.sup.mode, s.plan.window.head?.map fun w => w.body.id, s.ev.time⟩ ∧
      (offerFault k leg u).ev.overflow = s.ev.overflow) ∧
    ∀ r, s.ev.fault = some r → (offerFault k leg u).ev.fault = some r ∧ (offerFault k leg u).ev.overflow = true := by
  refine ⟨fun empty => ?_, fun r full => ?_⟩
  · rw [offerFault_of_empty (alike.fault.trans empty), oldestInWindow, alike.mode, alike.plan, alike.time]
    exact ⟨rfl, alike.overflow⟩
  · rw [offerFault_of_full (alike.fault.trans full)]
    exact ⟨alike.fault.trans full, rfl⟩

/-- A fault that acts outside SAFE_HOLD enters it (R147). -/
theorem entersSafeHold (held : HoldsStillIn (offerFault k leg u) t) (alike : Alike s u) : EntersSafeHold k leg s t := by
  have frame := offerFault_frame k leg u
  have sent := offered k leg alike
  generalize offerFault k leg u = o at held frame sent
  have plan : o.plan = s.plan := by rw [frame]; exact alike.plan
  have time : o.ev.time = s.ev.time := by rw [frame]; exact alike.time
  have counters : o.ev.counters.ofPlan = s.ev.counters.ofPlan := by rw [frame]; exact alike.counters
  have legs : o.legs = s.legs := by rw [frame]; exact alike.legs
  have pos : ∀ l, heldPos o l = heldPos s l := fun l => by rw [frame]; exact alike.pos l
  have state : t.plan.state = if s.plan.state = .idle then .idle else .suspended := plan ▸ held.state
  have fault : t.ev.fault = o.ev.fault := by rw [held.ev]
  have overflow : t.ev.overflow = o.ev.overflow := by rw [held.ev]
  refine ⟨held.plan.before plan time counters, by rw [held.sup], held.raised, ?_, ?_, fun l => ?_, by rw [held.bal],
    by rw [held.sup], by rw [held.sup], by rw [held.link], by rw [held.sup], ?_⟩
  · rw [fault, overflow]
    exact sent.1
  · rw [fault, overflow]
    exact sent.2
  · have waits := held.waits l
    rw [holdAt, pos] at waits
    rw [held.legs l, legs, pos]
    exact ⟨rfl, rfl, rfl, rfl, waits⟩
  · rw [state]
    cases s.plan.state <;> rfl

/-- What a reported fault leaves, where it acts outside SAFE_HOLD. -/
theorem reportFault_enters (acts : faultActs k u.sup.mode = true) (outside : u.sup.mode ≠ .safeHold) :
    HoldsStillIn (offerFault k leg u) (reportFault k leg u) := by
  have shown : reportFault k leg u = enterSafeHold (offerFault k leg u) := (if_pos acts).trans (if_neg outside)
  rw [shown]
  exact holdsStillIn_enterSafeHold _

/-- A fault that acts in SAFE_HOLD is offered, and nothing else happens (R148). -/
theorem reportFault_of_safeHold (acts : faultActs k .safeHold = true) (held : u.sup.mode = .safeHold) :
    reportFault k leg u = offerFault k leg u := by
  rw [reportFault, held, if_pos acts, if_pos rfl]

theorem faultInSafeHold (alike : Alike s u) (held : s.sup.mode = .safeHold)
    (unchanged : hasEvent u.ev.pending .modeChange = hasEvent s.ev.pending .modeChange)
    (mode : t.sup.mode = .safeHold) (ev : t.ev = (offerFault k leg u).ev) (legs : t.legs = s.legs) : FaultInSafeHold k leg s t := by
  have sent := offered k leg alike
  have pending : (offerFault k leg u).ev.pending = u.ev.pending := by
    rw [offerFault_frame]
    rfl
  rw [FaultInSafeHold, ev, legs, pending]
  exact ⟨mode, unchanged, held ▸ sent.1, sent.2, fun _ => ⟨rfl, rfl, rfl⟩⟩

/-- Raising an event leaves every other flag (R169). -/
theorem hasEvent_raise_of_ne {e f : Event} (other : e ≠ f) (s : State) :
    hasEvent (raise e s).ev.pending f = hasEvent s.ev.pending f := by
  cases set : hasEvent s.ev.pending e with
  | true => rw [raise_of_pending set]
  | false =>
    have flag : hasEvent (s.ev.pending ||| onlyEvent e) f = hasEvent s.ev.pending f := by
      rw [hasEvent_or, decide_eq_false other, Bool.or_false]
    rw [raise_of_clear set]
    split
    · exact flag
    · refine Eq.trans ?_ flag
      unfold requestNotice
      split <;> rfl

/-! ## The timers whose expiry is a fault -/

/-- The stale flag set, a new episode raised and counted, the timer restarted, and an evaluation triggered (R38, R39). -/
theorem goStale_cases (s : State) : ∃ u,
    goStale s = trigger (u.setAtt { s.att with stale := true, staleTimer := s.balCfg.staleLimit }) ∧
    u = ((s.setAtt { s.att with stale := true }).setEv u.ev).setLink u.link ∧
    (s.att.stale = true → u.ev = s.ev ∧ u.link = s.link) ∧
    (s.att.stale = false → hasEvent u.ev.pending .sensorFault = true ∧
      u.ev.counters = { s.ev.counters with attitudeStale := s.ev.counters.attitudeStale + 1 }) := by
  cases was : s.att.stale with
  | true =>
    refine ⟨s.setAtt { s.att with stale := true }, ?_, rfl, fun _ => ⟨rfl, rfl⟩, fun h => Bool.noConfusion h⟩
    unfold goStale
    rw [was]
    rfl
  | false =>
    obtain ⟨es, tx, raised, shown⟩ := raise_eq .sensorFault (s.setAtt { s.att with stale := true })
    have unfolded : goStale s = (fun u : State => trigger (u.setAtt { u.att with staleTimer := u.balCfg.staleLimit }))
        (bump .attitudeStale (raise .sensorFault (s.setAtt { s.att with stale := true }))) := by
      unfold goStale
      rw [was]
      rfl
    rw [shown] at unfolded
    exact ⟨_, unfolded, rfl, fun h => Bool.noConfusion h, fun _ => ⟨raised, rfl⟩⟩

/-- Settles O29: the stale timer by what it leaves, the lost timer as a fault in STANDING, the sample by its restart of both. -/
theorem attitudeTimersExpire : Obligations.AttitudeTimersExpire := by
  unfold Obligations.AttitudeTimersExpire
  intro s
  refine ⟨fun out => ?_, fun out other => ?_, fun out standing => ?_, fun runs => ?_, fun runs => ?_, fun n fx fy fz reading stale lost => ?_⟩
  · have done : exec .attitudeStaleExpiry s = .next (goStale s) := by
      refine congrArg Host.Outcome.next (if_pos ?_)
      rw [out]
      rfl
    refine ⟨_, done, ?_⟩
    obtain ⟨u, shown, frame, same, begins⟩ := goStale_cases s
    have bal : u.bal = s.bal := by rw [frame]; rfl
    have others : u.plan = s.plan ∧ u.legs = s.legs ∧ u.bus = s.bus ∧ u.sup = s.sup := by
      rw [frame]
      exact ⟨rfl, rfl, rfl, rfl⟩
    obtain ⟨plan, legs, bus, sup⟩ := others
    have now := shown.trans (trigger_frame _)
    have idle := fun none => (congrArg State.bal shown).trans (trigger_bal_of_idle
      (s := u.setAtt { s.att with stale := true, staleTimer := s.balCfg.staleLimit }) (bal ▸ none))
    have running := fun e some => (congrArg State.bal shown).trans (trigger_bal_of_running (e := e)
      (s := u.setAtt { s.att with stale := true, staleTimer := s.balCfg.staleLimit }) (bal ▸ some))
    have att : (goStale s).att = { s.att with stale := true, staleTimer := s.balCfg.staleLimit } := by rw [now]; rfl
    have ev : (goStale s).ev = u.ev := by rw [now]; rfl
    have link : (goStale s).link = u.link := by rw [now]; rfl
    refine ⟨att, ?_, ?_, fun none => ⟨_, congrArg Balance.eval (idle none), rfl, rfl⟩, fun e some => ?_, ?_, ?_, ?_, ?_⟩
    · rw [ev, link]
      exact same
    · rw [ev]
      exact begins
    · exact (running e some).trans (by rw [State.setAtt_bal, bal])
    · rw [now]
      exact plan
    · rw [now]
      exact legs
    · rw [now]
      exact bus
    · rw [now]
      exact sup
  · refine congrArg Host.Outcome.next ((if_pos (by rw [out]; rfl)).trans (if_neg ?_))
    simp [faultActs, other]
  · have done : exec .attitudeLost s = .next (reportFault .attitudeLost none (s.setAtt { s.att with lostTimer := s.balCfg.lostLimit })) :=
      congrArg Host.Outcome.next (if_pos (by rw [out]; rfl))
    have held := reportFault_enters (k := .attitudeLost) (leg := none) (u := s.setAtt { s.att with lostTimer := s.balCfg.lostLimit })
      (by rw [State.setAtt_sup, standing]; rfl) (by rw [State.setAtt_sup, standing]; exact Mode.noConfusion)
    refine ⟨_, done, ?_, entersSafeHold held ⟨rfl, rfl, rfl, rfl, rfl, rfl, rfl, fun _ => rfl⟩⟩
    rw [held.outside.2.1, offerFault_frame]
    rfl
  · exact congrArg Host.Outcome.next (if_neg (by rw [ranOut_some, decide_eq_false runs]; decide))
  · exact congrArg Host.Outcome.next (if_neg (by rw [ranOut_some, decide_eq_false runs]; decide))
  · obtain ⟨u, -, accepted⟩ := acceptSample_eq (intake s.sup.imuFlip fx.toInt fy.toInt fz.toInt) (s.setAtt { s.att with reading := none })
    have done : exec (.attitudeReadDone fx fy fz true) s = .next (acceptSample (intake s.sup.imuFlip fx.toInt fy.toInt fz.toInt)
        (s.setAtt { s.att with reading := none })) := by
      refine congrArg Host.Outcome.next ?_
      rw [attitudeReadDone, reading]
      rfl
    have att := congrArg State.att (accepted.trans (trigger_frame _))
    generalize acceptSample _ _ = t at done att
    refine ⟨t, done, congrArg Host.Outcome.next (if_neg ?_), congrArg Host.Outcome.next (if_neg ?_)⟩
    · rw [att, ranOut_some, decide_eq_true_iff]
      exact stale
    · rw [att, ranOut_some, decide_eq_true_iff]
      exact lost

end

end Sys2Proof.Machine
end

section
/-! FAILED TRANSACTIONS. What a reply timeout and a bad reply leave: the count, the third failure, the resend, the guard (R133 to R138). -/

namespace Sys2Proof.Machine

section
variable {s t u w : State} {x : Txn}

/-! ## The resend -/

/-- The transaction queue after the resend of a failed transaction (R136). -/
def resent (x : Txn) (m : Mode) (queue : List Txn) : List Txn :=
  if x.op ≠ .poll ∧ (∀ y ∈ queue, y.leg = x.leg → y.op = .poll) ∧ m ≠ .parked then queue ++ [x] else queue

theorem resend_eq (x : Txn) (s : State) : resend x s = s.setBus { s.bus with queue := resent x s.sup.mode s.bus.queue } := by
  have setpoint : x.isSetpoint = true ↔ x.op ≠ .poll := by
    unfold Txn.isSetpoint
    cases x.op <;> simp
  have newer : ¬ s.bus.queue.any (Txn.isSetpointFor x.leg) = true ↔ ∀ y ∈ s.bus.queue, y.leg = x.leg → y.op = .poll := by
    rw [List.any_eq_true, not_exists]
    refine forall_congr' fun y => ?_
    rw [not_and, isSetpointFor_iff, not_and, not_not]
  have again : (x.isSetpoint = true ∧ ¬ s.bus.queue.any (Txn.isSetpointFor x.leg) = true ∧ s.sup.mode ≠ .parked) ↔
      (x.op ≠ .poll ∧ (∀ y ∈ s.bus.queue, y.leg = x.leg → y.op = .poll) ∧ s.sup.mode ≠ .parked) := by rw [setpoint, newer]
  unfold resend resent
  by_cases sends : x.op ≠ .poll ∧ (∀ y ∈ s.bus.queue, y.leg = x.leg → y.op = .poll) ∧ s.sup.mode ≠ .parked
  · rw [if_pos (again.mpr sends), if_pos sends]
  · rw [if_neg (again.not.mpr sends), if_neg sends]
    rfl

/-- The drives after a failure of one (R137). -/
def failedDrive (d : Drive) : Drive := { d with timeouts := if 3 ≤ d.timeouts then d.timeouts else d.timeouts + 1 }

/-- The state after the count and before the third failure is reported. -/
def counted (l : Leg) (s : State) : State := modDrive l failedDrive s

theorem countFailure_of_not_third (other : (s.bus.drives.get x.leg).timeouts ≠ 2) : countFailure x.leg s = counted x.leg s := by
  have third : ¬ (s.bus.drives.get x.leg).timeouts + 1 = Config.lostCount := fun h => other (Nat.succ.inj h)
  unfold countFailure
  dsimp only
  rw [if_neg third]
  by_cases lost : 3 ≤ (s.bus.drives.get x.leg).timeouts
  · have same : failedDrive (s.bus.drives.get x.leg) = s.bus.drives.get x.leg := by rw [failedDrive, if_pos lost]
    rw [if_pos (by exact lost), counted, modDrive, same, Quad.set_get_self]
    rfl
  · have same : failedDrive (s.bus.drives.get x.leg) =
        { s.bus.drives.get x.leg with timeouts := (s.bus.drives.get x.leg).timeouts + 1 } := by rw [failedDrive, if_neg lost]
    rw [if_neg (by exact lost), counted, modDrive, modDrive, same]

theorem countFailure_of_third (third : (s.bus.drives.get x.leg).timeouts = 2) :
    countFailure x.leg s = reportFault .driveLost (some x.leg) (raise .driveFault (counted x.leg s)) := by
  have same : failedDrive (s.bus.drives.get x.leg) =
      { s.bus.drives.get x.leg with timeouts := (s.bus.drives.get x.leg).timeouts + 1 } := by
    rw [failedDrive, if_neg (by omega)]
  have low : ¬ Config.lostCount ≤ (s.bus.drives.get x.leg).timeouts := by rw [third]; decide
  have now : (s.bus.drives.get x.leg).timeouts + 1 = Config.lostCount := by rw [third]; rfl
  unfold countFailure
  dsimp only
  rw [if_neg low, if_pos now, counted, modDrive, modDrive, same]

theorem heldPos_counted (l m : Leg) (s : State) : heldPos (counted l s) m = heldPos s m := by
  show ((s.bus.drives.set l (failedDrive (s.bus.drives.get l))).get m).pos = (s.bus.drives.get m).pos
  rw [Quad.get_set]
  split
  case isTrue same => rw [same]; rfl
  case isFalse => rfl

/-! ## The closing -/

/-- What a failed transaction leaves of the bus and the counters, whatever its failure causes. -/
structure Fails (x : Txn) (w t : State) : Prop where
  line : t.bus.line = .guard 400
  drive : t.bus.drives = w.bus.drives.set x.leg (failedDrive (w.bus.drives.get x.leg))
  counters : t.ev.counters = { w.ev.counters with logOverwrites := t.ev.counters.logOverwrites }

theorem closeFailed_of_not_third (other : (w.bus.drives.get x.leg).timeouts ≠ 2) :
    closeFailed x w = (w.setBus
      { w.bus with
        drives := w.bus.drives.set x.leg (failedDrive (w.bus.drives.get x.leg))
        queue := resent x w.sup.mode w.bus.queue
        line := .guard 400 }) := by
  rw [closeFailed, countFailure_of_not_third other, resend_eq]
  rfl

/-- The third failure in a row: the drive is LOST (R138). -/
theorem closeFailed_of_third (like : Alike s w) (unchanged : w.ev.pending = s.ev.pending)
    (third : (w.bus.drives.get x.leg).timeouts = 2) :
    Fails x w (closeFailed x w) ∧ hasEvent (closeFailed x w).ev.pending .driveFault = true ∧
      (w.sup.mode ≠ .safeHold → EntersSafeHold .driveLost (some x.leg) s (closeFailed x w)) ∧
      (w.sup.mode = .safeHold → FaultInSafeHold .driveLost (some x.leg) s (closeFailed x w) ∧ (closeFailed x w).legs = w.legs ∧
        (closeFailed x w).plan = w.plan ∧ (closeFailed x w).bus.queue = resent x w.sup.mode w.bus.queue) := by
  have flag := raise_pending .driveFault (counted x.leg w)
  have other := hasEvent_raise_of_ne (e := .driveFault) (f := .modeChange) nofun (counted x.leg w)
  obtain ⟨es, tx, -, shown⟩ := raise_eq .driveFault (counted x.leg w)
  rw [closeFailed, countFailure_of_third third, resend_eq]
  generalize raise .driveFault (counted x.leg w) = u at flag other shown ⊢
  have alike : Alike w u := by
    rw [shown]
    exact ⟨rfl, rfl, rfl, rfl, rfl, rfl, rfl, fun l => heldPos_counted x.leg l w⟩
  have drives : u.bus.drives = w.bus.drives.set x.leg (failedDrive (w.bus.drives.get x.leg)) := by rw [shown]; rfl
  have queue : u.bus.queue = w.bus.queue := by rw [shown]; rfl
  have counters : u.ev.counters = w.ev.counters := by rw [shown]; rfl
  by_cases held : w.sup.mode = .safeHold
  · have mode := alike.mode.trans held
    rw [reportFault_of_safeHold rfl mode]
    have frame := offerFault_frame .driveLost (some x.leg) u
    have whole := like.trans alike
    refine ⟨⟨rfl, ?_, ?_⟩, ?_, fun outside => absurd held outside, fun _ => ⟨?_, ?_, ?_, ?_⟩⟩
    · show (offerFault .driveLost (some x.leg) u).bus.drives = _
      rw [frame]
      exact drives
    · show (offerFault .driveLost (some x.leg) u).ev.counters =
        { w.ev.counters with logOverwrites := (offerFault .driveLost (some x.leg) u).ev.counters.logOverwrites }
      rw [frame]
      show u.ev.counters = { w.ev.counters with logOverwrites := u.ev.counters.logOverwrites }
      rw [counters]
    · show hasEvent (offerFault .driveLost (some x.leg) u).ev.pending .driveFault = true
      rw [frame]
      exact flag
    · refine faultInSafeHold whole (like.mode ▸ held) (by rw [← unchanged]; exact other) ?_ rfl ?_
      · show (offerFault .driveLost (some x.leg) u).sup.mode = _
        rw [frame]
        exact mode
      · show (offerFault .driveLost (some x.leg) u).legs = _
        rw [frame]
        exact whole.legs
    · show (offerFault .driveLost (some x.leg) u).legs = _
      rw [frame]
      exact alike.legs
    · show (offerFault .driveLost (some x.leg) u).plan = _
      rw [frame]
      exact alike.plan
    · show resent x (offerFault .driveLost (some x.leg) u).sup.mode (offerFault .driveLost (some x.leg) u).bus.queue = _
      rw [frame]
      exact congrArg₂ (resent x) alike.mode queue
  · have holds := reportFault_enters (k := .driveLost) (leg := some x.leg) (u := u) rfl (alike.mode ▸ held)
    have enters := entersSafeHold holds (like.trans alike)
    generalize reportFault .driveLost (some x.leg) u = v at holds enters ⊢
    have frame := offerFault_frame .driveLost (some x.leg) u
    generalize offerFault .driveLost (some x.leg) u = o at holds frame
    have oBus : o.bus = u.bus := by rw [frame]; rfl
    have oCounters : o.ev.counters = u.ev.counters := by rw [frame]; rfl
    have oPending : o.ev.pending = u.ev.pending := by rw [frame]; rfl
    refine ⟨⟨rfl, ?_, ?_⟩, ?_, fun _ => ?_, fun same => absurd same held⟩
    · show v.bus.drives = _
      rw [holds.bus]
      show o.bus.drives = _
      rw [oBus]
      exact drives
    · show v.ev.counters = { w.ev.counters with logOverwrites := v.ev.counters.logOverwrites }
      have now : v.ev.counters = { o.ev.counters with logOverwrites := v.ev.counters.logOverwrites } := congrArg EventUnit.counters holds.ev
      rw [oCounters, counters] at now
      exact now
    · show hasEvent v.ev.pending .driveFault = true
      exact holds.flags _ (by rw [oPending]; exact flag)
    · refine enters.after ⟨rfl, rfl, id, rfl, rfl, rfl, rfl, rfl, rfl, fun y mem => ?_, rfl⟩
      show y ∈ resent x v.sup.mode v.bus.queue
      unfold resent
      split
      · exact List.mem_append_left _ mem
      · exact mem

/-! ## The timeout and the bad reply -/

/-- What a failed transaction counts, by whether the window's time ran out (R133, R134). -/
def failureCount (out : Prop) [Decidable out] (c : Counters) : Counters :=
  if out then c.bump .driveTimeouts else c.bump .driveCrcErrors

/-- A reply timeout and a bad reply close the transaction in a state that differs by the line and by the count (R133, R134). -/
theorem exec_failed {n : Nat} {got bytes : List Byte} {c : Instr} (line : s.bus.line = .window x n got)
    (fails : c = .driveReplyTimeout ∨ got = [] ∧ bytes.length = 12 ∧ judgeReply x bytes = .bad ∧ c = .driveReply bytes) :
    ∃ w, exec c s = .next (closeFailed x w) ∧
      w = (s.setBus { s.bus with line := w.bus.line }).setEv
        { s.ev with counters := failureCount (c = .driveReplyTimeout) s.ev.counters } := by
  rcases fails with rfl | ⟨rfl, length, bad, rfl⟩
  · refine ⟨bump .driveTimeouts s, congrArg Host.Outcome.next ?_, rfl⟩
    rw [driveReplyTimeout, line]
  · exact ⟨bump .driveCrcErrors (collecting s x n bytes), congrArg Host.Outcome.next (driveReply_of_bad line length bad), rfl⟩

/-- Settles O60: by whether the failure is the third in a row. -/
theorem failedTransactionCounts : Obligations.FailedTransactionCounts := by
  unfold Obligations.FailedTransactionCounts
  intro s x n got bytes line c fails
  obtain ⟨w, done, frame⟩ := exec_failed line fails
  have drives : w.bus.drives = s.bus.drives := by rw [frame]; rfl
  have queue : w.bus.queue = s.bus.queue := by rw [frame]; rfl
  have sup : w.sup = s.sup := by rw [frame]; rfl
  have legs : w.legs = s.legs := by rw [frame]; rfl
  have plan : w.plan = s.plan := by rw [frame]; rfl
  have pending : w.ev.pending = s.ev.pending := by rw [frame]; rfl
  have counters : w.ev.counters = failureCount (c = .driveReplyTimeout) s.ev.counters := by rw [frame]; rfl
  have alike : Alike s w := by
    refine ⟨congrArg Supervisor.mode sup, plan, by rw [frame]; rfl, by rw [frame]; rfl, by rw [frame]; rfl, ?_, legs,
      fun l => by rw [heldPos, heldPos, drives]⟩
    rw [counters, failureCount]
    split <;> rfl
  have timeouts : ∀ t : State, t.ev.counters = { w.ev.counters with logOverwrites := t.ev.counters.logOverwrites } →
      t.ev.counters.driveTimeouts = s.ev.counters.driveTimeouts + (if c = .driveReplyTimeout then 1 else 0) ∧
      t.ev.counters.driveCrcErrors = s.ev.counters.driveCrcErrors + (if c = .driveReplyTimeout then 0 else 1) := by
    intro t same
    rw [same, counters, failureCount]
    split
    · exact ⟨rfl, (add_zero _).symm⟩
    · exact ⟨(add_zero _).symm, rfl⟩
  have one : (w.bus.drives.set x.leg (failedDrive (w.bus.drives.get x.leg))).get x.leg = failedDrive (s.bus.drives.get x.leg) := by
    rw [Quad.get_set_self, drives]
  have others : ∀ m, m ≠ x.leg →
      (w.bus.drives.set x.leg (failedDrive (w.bus.drives.get x.leg))).get m = s.bus.drives.get m := fun m other => by
    rw [Quad.get_set_of_ne _ other, drives]
  refine ⟨_, done, ?_⟩
  by_cases third : (s.bus.drives.get x.leg).timeouts = 2
  · obtain ⟨fails, raised, enters, inside⟩ := closeFailed_of_third (x := x) alike pending (by rw [drives]; exact third)
    generalize closeFailed x w = t at fails raised enters inside
    obtain ⟨timedOut, crc⟩ := timeouts t fails.counters
    refine ⟨fails.line, by rw [fails.drive]; exact one, fun m other => by rw [fails.drive]; exact others m other, timedOut, crc,
      fun no => absurd third no, fun _ => ⟨raised, fun outside => ?_, fun held => ?_⟩⟩
    · exact enters (by rw [sup]; exact outside)
    · obtain ⟨taken, tLegs, tPlan, tQueue⟩ := inside (by rw [sup]; exact held)
      refine ⟨taken, tLegs.trans legs, tPlan.trans plan, ?_⟩
      rw [tQueue, queue, sup, held, resent]
      simp
  · have shown := closeFailed_of_not_third (x := x) (w := w) (by rw [drives]; exact third)
    rw [shown]
    obtain ⟨timedOut, crc⟩ := timeouts w rfl
    exact ⟨rfl, one, others, timedOut, crc, fun _ => ⟨sup, legs, plan, pending, by rw [← queue, ← sup]; rfl⟩,
      fun same => absurd same third⟩

end

end Sys2Proof.Machine
end

section
/-! FEET. What a contact change report that is no landing leaves, and from it the fault entries and the slips of a foot (R16 to R31). -/

namespace Sys2Proof.Machine

section
variable {s t u : State} {l : Leg}

/-! ## The Balance Engine's share of a report -/

/-- What the Balance Engine's share of a contact change report leaves (R51, R64, R150). -/
structure Balances (s t : State) : Prop where
  frame : t = (s.setBal t.bal).setSup { s.sup with supportLow := t.sup.supportLow, supportLost := t.sup.supportLost }
  lost : s.sup.mode ≠ .standing → s.sup.supportLost = none → t.sup.supportLost = none
  queue : t.bal.queue = s.bal.queue
  preshift : t.bal.preshift = s.bal.preshift

theorem Balances.refl (s : State) : Balances s s := ⟨rfl, fun _ => id, rfl, rfl⟩

theorem Balances.mode (h : Balances s t) : t.sup.mode = s.sup.mode := by rw [h.frame]; rfl
theorem Balances.ev (h : Balances s t) : t.ev = s.ev := by rw [h.frame]; rfl
theorem Balances.feet (h : Balances s t) : t.feet = s.feet := by rw [h.frame]; rfl
theorem Balances.legs (h : Balances s t) : t.legs = s.legs := by rw [h.frame]; rfl
theorem Balances.bus (h : Balances s t) : t.bus = s.bus := by rw [h.frame]; rfl
theorem Balances.plan (h : Balances s t) : t.plan = s.plan := by rw [h.frame]; rfl
theorem Balances.link (h : Balances s t) : t.link = s.link := by rw [h.frame]; rfl
theorem Balances.riseSettle (h : Balances s t) : t.sup.riseSettle = s.sup.riseSettle := by rw [h.frame]; rfl
theorem Balances.pendingSettle (h : Balances s t) : t.sup.pendingSettle = s.sup.pendingSettle := by rw [h.frame]; rfl

theorem triggeredBy_frame (l : Leg) (joins : Bool) (s : State) :
    triggeredBy l joins s = s.setBal (triggeredBy l joins s).bal ∧ (triggeredBy l joins s).bal.queue = s.bal.queue ∧
      (triggeredBy l joins s).bal.preshift = s.bal.preshift := by
  unfold triggeredBy
  rcases trigger_cases (s.setBal { s.bal with support := s.bal.support.set l joins }) with ⟨-, h⟩ | ⟨-, h⟩ <;> rw [h] <;>
    exact ⟨rfl, rfl, rfl⟩

theorem balances_supportShare (l : Leg) (joins : Bool) (s : State) : Balances s (supportShare l joins s) := by
  unfold supportShare
  split
  case isTrue => exact .refl s
  case isFalse =>
    obtain ⟨frame, queue, preshift⟩ := triggeredBy_frame l joins s
    rcases changeSupport_cases l joins s with ⟨-, -, h⟩ | ⟨-, -, h⟩ | ⟨-, h⟩
    · rw [h, supportFallen_eq]
      generalize triggeredBy l joins s = t at frame queue preshift
      have sup : t.sup = s.sup := by rw [frame]; rfl
      rw [sup]
      refine ⟨?_, fun other none => (if_neg other).trans none, queue, preshift⟩
      rw [frame]
      rfl
    · rw [h, supportRestored]
      generalize triggeredBy l joins s = t at frame queue preshift
      refine ⟨?_, fun _ _ => rfl, queue, preshift⟩
      rw [frame]
      rfl
    · rw [h]
      generalize triggeredBy l joins s = t at frame queue preshift
      have sup : t.sup = s.sup := by rw [frame]; rfl
      refine ⟨?_, fun _ none => sup ▸ none, queue, preshift⟩
      rw [sup]
      exact frame

theorem balances_balanceReport (l : Leg) (c : Contact) (s : State) :
    Balances s (balanceReport l c s) ∧
      (c = .slipping → s.sup.mode = .standing → planRuns s = true →
        (balanceReport l c s).bal.braceOut = true ∧ (balanceReport l c s).bal.below = 0) := by
  have share := balances_supportShare l (decide (c = .loaded)) s
  have shown : balanceReport l c s =
      let u := supportShare l (decide (c = .loaded)) s
      if c = .slipping ∧ u.sup.mode = .standing ∧ planRuns u then u.setBal { u.bal with braceOut := true, below := 0 } else u := by
    have share : (if c = .loaded then if s.bal.support.get l then s else changeSupport l true s
        else if s.bal.support.get l then changeSupport l false s else s) = supportShare l (decide (c = .loaded)) s := by
      unfold supportShare
      by_cases hc : c = .loaded <;> cases s.bal.support.get l <;> simp [hc]
    unfold balanceReport
    dsimp only
    rw [share]
    rfl
  rw [shown]
  generalize supportShare l (decide (c = .loaded)) s = u at share ⊢
  dsimp only
  have runs : planRuns u = planRuns s := by rw [planRuns, planRuns, share.plan]
  rw [share.mode, runs]
  split
  case isTrue =>
    refine ⟨⟨?_, share.lost, share.queue, share.preshift⟩, fun _ _ _ => ⟨rfl, rfl⟩⟩
    have frame := share.frame
    generalize u.bal = b at frame ⊢
    generalize u.sup.supportLow = low at frame ⊢
    generalize u.sup.supportLost = lost at frame ⊢
    rw [frame]
    rfl
  case isFalse not => exact ⟨share, fun slipping standing runs => absurd ⟨slipping, standing, runs⟩ not⟩

/-! ## Reports that are no landing -/

theorem issue_of_mode (other : s.sup.mode ≠ .standing) : issue s = s := by
  cases list : s.plan.list with
  | nil => exact issue_of_empty list
  | cons r rest => exact issue_of_not_mayIssue list fun ⟨_, standing, _⟩ => other standing

theorem riseTest_of_unloaded (unloaded : (s.feet.get l).contact ≠ .loaded) : riseTest s = s := by
  refine if_neg fun done => ?_
  simp only [riseDone, Bool.and_eq_true, Quad.all_iff, decide_eq_true_iff] at done
  exact unloaded (done.2 l)

theorem seqContact_of_other {c : Contact} (air : c ≠ .air) (loaded : c ≠ .loaded) : seqContact l c s = s := by
  unfold seqContact
  dsimp only
  split
  · rfl
  · cases (s.legs.get l).phase <;> simp [air]

/-- A report of neither AIR nor LOADED moves no leg: beside the balance only the issue is tested (R29). -/
theorem contactReport_of_other {c : Contact} (air : c ≠ .air) (loaded : c ≠ .loaded) (now : (s.feet.get l).contact = c) :
    contactReport l c s = issue (balanceReport l c s) := by
  obtain ⟨balances, -⟩ := balances_balanceReport l c s
  rw [contactReport, seqContact_of_other air loaded]
  refine riseTest_of_unloaded (l := l) ?_
  rw [(issues_issue _).feet, balances.feet, now]
  exact loaded

/-- In SAFE_HOLD a report is the Balance Engine's alone (R98). -/
theorem contactReport_of_safeHold {c : Contact} (held : s.sup.mode = .safeHold) : contactReport l c s = balanceReport l c s := by
  obtain ⟨balances, -⟩ := balances_balanceReport l c s
  have mode := balances.mode.trans held
  have still : seqContact l c (balanceReport l c s) = balanceReport l c s := if_pos mode
  rw [contactReport, still, issue_of_mode (by rw [mode]; exact Mode.noConfusion), riseTest_of_mode (by rw [mode]; exact Mode.noConfusion)]

/-! ## Fault entries -/

/-- With its own foot in FAULT, a fault entry makes two where another is in FAULT (R31). -/
theorem two_le_feetInFault (here : (s.feet.get l).contact = .fault) :
    2 ≤ feetInFault s ↔ ∃ o, o ≠ l ∧ (s.feet.get o).contact = .fault := by
  have card : feetInFault s = (legsInOrder.filter fun l => decide ((s.feet.get l).contact = .fault)).toFinset.card :=
    (List.toFinset_card_of_nodup (nodup_legsInOrder.filter _)).symm
  rw [card, Nat.succ_le_iff, Finset.one_lt_card]
  simp only [List.mem_toFinset, List.mem_filter, mem_legsInOrder, true_and, decide_eq_true_iff]
  constructor
  · rintro ⟨a, inA, b, inB, ne⟩
    by_cases same : a = l
    · exact ⟨b, fun h => ne (same.trans h.symm), inB⟩
    · exact ⟨a, same, inA⟩
  · rintro ⟨o, other, inO⟩
    exact ⟨o, inO, l, here, other⟩

/-- The state in which a fault entry is judged: the foot in FAULT, the entry counted and raised (R24). -/
def entered (l : Leg) (f : Foot) (s : State) : State :=
  raise .sensorFault (bump .loadSensorFaults (s.setFeet (s.feet.set l { f with contact := .fault, qualify := 0, slip := 0 })))

theorem takeInvalid_of_fault (fault : (s.feet.get l).contact = .fault) :
    takeInvalid l s = s.setFeet (s.feet.set l { s.feet.get l with lastLoad := 0 }) := if_pos fault

theorem takeInvalid_of_entry (entry : (s.feet.get l).contact ≠ .fault) :
    takeInvalid l s =
      let u := entered l { s.feet.get l with lastLoad := 0 } s
      contactReport l .fault (if 2 ≤ feetInFault u then reportFault .loadSensor (some l) u else u) := by
  refine (if_neg entry).trans ?_
  have set : modFoot l (fun f => { f with contact := .fault, qualify := 0, slip := 0 }) (modFoot l (fun f => { f with lastLoad := 0 }) s) =
      s.setFeet (s.feet.set l { s.feet.get l with contact := .fault, lastLoad := 0, qualify := 0, slip := 0 }) := by
    simp only [modFoot, State.setFeet_feet, Quad.get_set_self, Quad.set_set, State.setFeet_setFeet]
  unfold faultEntry
  rw [set]
  rfl

/-- Both commands that find an invalid load judge the foot with its measurement as they leave it (R17, R18). -/
theorem exec_invalid {c : Instr} {m : Measurement} {timer : Option Nat}
    (invalid : c = .loadStale l ∧ (s.feet.get l).stale = some 0 ∧ m = .waiting ∧ timer = none ∨
      ∃ h period, c = .loadSample l period ∧ (s.feet.get l).measurement = .measuring h ∧
        classify (h.getD period) period ∈ ([.badPeriod, .openCircuit, .short] : List LoadSample) ∧ m = .measuring none ∧
        timer = some 3) :
    exec c s = .next (takeInvalid l (s.setFeet (s.feet.set l { s.feet.get l with stale := timer, measurement := m }))) := by
  rcases invalid with ⟨rfl, out, rfl, rfl⟩ | ⟨h, period, rfl, measuring, bad, rfl, rfl⟩
  · refine congrArg Host.Outcome.next (if_pos ?_)
    rw [out]
    rfl
  · refine congrArg Host.Outcome.next ?_
    rw [loadSample, measuring]
    simp only [List.mem_cons, List.not_mem_nil, or_false] at bad
    dsimp only
    rcases bad with bad | bad | bad <;> rw [bad] <;> rfl

/-- Settles O25: the foot in FAULT already, the entry alone, and the LOAD_SENSOR fault outside and in SAFE_HOLD. -/
theorem staleLoadIsAFaultEntry : Obligations.StaleLoadIsAFaultEntry := by
  unfold Obligations.StaleLoadIsAFaultEntry
  intro s l c m timer invalid f another
  rw [exec_invalid invalid]
  have here : (s.setFeet (s.feet.set l { f with stale := timer, measurement := m })).feet.get l =
      { f with stale := timer, measurement := m } := Quad.get_set_self ..
  refine ⟨fun fault => ?_, fun entry => ⟨_, rfl, ?_⟩⟩
  · rw [takeInvalid_of_fault (by rw [here]; exact fault), here, State.setFeet_feet, Quad.set_set]
    rfl
  · rw [takeInvalid_of_entry (by rw [here]; exact entry), here]
    obtain ⟨es, tx, raised, shown⟩ := raise_eq .sensorFault (bump .loadSensorFaults (s.setFeet (s.feet.set l
      { f with contact := .fault, lastLoad := 0, stale := timer, measurement := m, qualify := 0, slip := 0 })))
    have other := hasEvent_raise_of_ne (e := .sensorFault) (f := .modeChange) nofun (bump .loadSensorFaults (s.setFeet (s.feet.set l
      { f with contact := .fault, lastLoad := 0, stale := timer, measurement := m, qualify := 0, slip := 0 })))
    have same : entered l { f with stale := timer, measurement := m, lastLoad := 0 }
        (s.setFeet (s.feet.set l { f with stale := timer, measurement := m })) =
        raise .sensorFault (bump .loadSensorFaults (s.setFeet (s.feet.set l
          { f with contact := .fault, lastLoad := 0, stale := timer, measurement := m, qualify := 0, slip := 0 }))) := by
      rw [entered, State.setFeet_feet, Quad.set_set, State.setFeet_setFeet]
    dsimp only
    rw [same]
    generalize raise .sensorFault _ = u at shown other ⊢
    have feet : u.feet = s.feet.set l
        { f with contact := .fault, lastLoad := 0, stale := timer, measurement := m, qualify := 0, slip := 0 } := by rw [shown]; rfl
    have foot : u.feet.get l = { f with contact := .fault, lastLoad := 0, stale := timer, measurement := m, qualify := 0, slip := 0 } := by
      rw [feet, Quad.get_set_self]
    have away : ∀ o, o ≠ l → u.feet.get o = s.feet.get o := fun o ne => by rw [feet, Quad.get_set_of_ne _ ne]
    have faulted : (u.feet.get l).contact = .fault := by rw [foot]
    have counted : u.ev.counters.loadSensorFaults = s.ev.counters.loadSensorFaults + 1 := by rw [shown]; rfl
    have flag : hasEvent u.ev.pending .sensorFault = true := by rw [shown]; exact raised
    have alike : Alike s u := by
      rw [shown]
      exact ⟨rfl, rfl, rfl, rfl, rfl, rfl, rfl, fun _ => rfl⟩
    have two : 2 ≤ feetInFault u ↔ another := (two_le_feetInFault faulted).trans
      (exists_congr fun o => and_congr_right fun ne => by rw [away o ne])
    by_cases more : another
    · rw [if_pos (two.mpr more)]
      by_cases held : s.sup.mode = .safeHold
      · have mode : u.sup.mode = .safeHold := alike.mode.trans held
        have frame := offerFault_frame .loadSensor (some l) u
        have offers := fun t => faultInSafeHold (k := .loadSensor) (leg := some l) (s := s) (u := u) (t := t) alike held other
        rw [reportFault_of_safeHold rfl mode]
        generalize offerFault .loadSensor (some l) u = o at frame offers ⊢
        have oMode : o.sup.mode = .safeHold := by rw [frame]; exact mode
        rw [contactReport_of_safeHold oMode]
        obtain ⟨balances, -⟩ := balances_balanceReport l .fault o
        generalize balanceReport l .fault o = t at balances
        have tFeet : t.feet = u.feet := balances.feet.trans (by rw [frame]; rfl)
        have tLegs : t.legs = s.legs := balances.legs.trans (by rw [frame]; exact alike.legs)
        have ev : t.ev = o.ev := balances.ev
        refine ⟨tFeet ▸ foot, fun o ne => tFeet ▸ away o ne, ?_, ?_, fun no => absurd more no, fun _ outside => absurd held outside,
          fun _ _ => ⟨offers t (balances.mode.trans oMode) ev tLegs, tLegs, ?_, ?_⟩⟩
        · rw [ev, frame]
          exact counted
        · rw [ev, frame]
          exact flag
        · rw [balances.bus, frame, shown]
          rfl
        · rw [balances.plan, frame]
          exact alike.plan
      · have holds := reportFault_enters (k := .loadSensor) (leg := some l) (u := u) rfl (alike.mode ▸ held)
        have enters := entersSafeHold holds alike
        have frame := offerFault_frame .loadSensor (some l) u
        generalize offerFault .loadSensor (some l) u = o at holds frame
        generalize reportFault .loadSensor (some l) u = v at holds enters ⊢
        have vMode : v.sup.mode = .safeHold := by rw [holds.sup]
        rw [contactReport_of_safeHold vMode]
        obtain ⟨balances, -⟩ := balances_balanceReport l .fault v
        generalize balanceReport l .fault v = t at balances
        have tFeet : t.feet = u.feet := balances.feet.trans (holds.outside.1.trans (by rw [frame]; rfl))
        refine ⟨tFeet ▸ foot, fun o ne => tFeet ▸ away o ne, ?_, ?_, fun no => absurd more no, fun _ _ => enters.after ?_,
          fun _ same => absurd same held⟩
        · rw [balances.ev, holds.ev]
          show o.ev.counters.loadSensorFaults = _
          rw [frame]
          exact counted
        · rw [balances.ev]
          exact holds.flags _ (by rw [frame]; exact flag)
        · refine ⟨balances.mode, balances.riseSettle, balances.lost (by rw [vMode]; exact Mode.noConfusion), balances.pendingSettle,
            balances.plan, balances.queue, balances.preshift, balances.ev, balances.legs, ?_, by rw [balances.link]⟩
          rw [balances.bus]
          exact fun _ => id
    · rw [if_neg (two.not.mpr more), contactReport_of_other (c := .fault) nofun nofun faulted]
      obtain ⟨balances, -⟩ := balances_balanceReport l .fault u
      have issues := issues_issue (balanceReport l .fault u)
      generalize issue (balanceReport l .fault u) = t at issues
      generalize balanceReport l .fault u = v at balances issues
      have tFeet : t.feet = u.feet := issues.feet.trans balances.feet
      have ev : t.ev = u.ev := issues.ev.trans balances.ev
      refine ⟨tFeet ▸ foot, fun o ne => tFeet ▸ away o ne, by rw [ev]; exact counted, by rw [ev]; exact flag, fun _ => by rw [ev]; exact alike.fault,
        fun yes => absurd yes more, fun yes => absurd yes more⟩

/-! ## Slips -/

/-- The state in which a slip is reported: the foot SLIPPING, the slip counted and raised (R26). -/
def slipped (l : Leg) (s : State) : State :=
  bump .slips (raise .slip (s.setFeet (s.feet.set l { s.feet.get l with contact := .slipping, slip := (s.feet.get l).slip + 1 })))

theorem slipPulse_of_over (loaded : (s.feet.get l).contact = .loaded)
    (many : 2 * (s.surf.get (s.feet.get l).cls).slipLimit < (s.feet.get l).slip + 1) :
    slipPulse l s = contactReport l .slipping (slipped l s) := by
  unfold slipPulse
  rw [if_pos loaded]
  exact if_pos many

theorem slipped_spec (l : Leg) (s : State) :
    ∃ es tx, hasEvent es .slip = true ∧ slipped l s =
      ((s.setFeet (s.feet.set l { s.feet.get l with contact := .slipping, slip := (s.feet.get l).slip + 1 })).setEv
        { s.ev with pending := es, counters := { s.ev.counters with slips := s.ev.counters.slips + 1 } }).setLink
        { s.link with tx := tx } := by
  obtain ⟨es, tx, raised, shown⟩ := raise_eq .slip
    (s.setFeet (s.feet.set l { s.feet.get l with contact := .slipping, slip := (s.feet.get l).slip + 1 }))
  refine ⟨es, tx, raised, ?_⟩
  rw [slipped, shown]
  rfl

/-- Settles O26: the pulse by state and count, then the edges by what the measurement waits for. -/
theorem slipPulseCounts : Obligations.SlipPulseCounts := by
  unfold Obligations.SlipPulseCounts
  refine ⟨fun s l => ⟨?_, ?_, ?_⟩, fun s l n => ⟨?_, ?_, ?_, ?_⟩⟩
  · exact fun away => congrArg Host.Outcome.next (if_neg away)
  · refine fun loaded within => congrArg Host.Outcome.next ?_
    unfold slipPulse
    rw [if_pos loaded]
    exact if_neg (Nat.not_lt.mpr within)
  · intro loaded many
    refine ⟨_, congrArg Host.Outcome.next (slipPulse_of_over loaded many), ?_⟩
    obtain ⟨es, tx, raised, shown⟩ := slipped_spec l s
    generalize slipped l s = w at shown ⊢
    have feet : w.feet = s.feet.set l { s.feet.get l with contact := .slipping, slip := (s.feet.get l).slip + 1 } := by rw [shown]; rfl
    have foot : w.feet.get l = { s.feet.get l with contact := .slipping, slip := (s.feet.get l).slip + 1 } := by
      rw [feet, Quad.get_set_self]
    have same : w.bal = s.bal ∧ w.sup = s.sup ∧ w.att = s.att ∧ w.balCfg = s.balCfg ∧ w.plan = s.plan := by
      rw [shown]
      exact ⟨rfl, rfl, rfl, rfl, rfl⟩
    have ev : hasEvent w.ev.pending .slip = true ∧ w.ev.counters.slips = s.ev.counters.slips + 1 := by
      rw [shown]
      exact ⟨raised, rfl⟩
    obtain ⟨bal, sup, att, balCfg, plan⟩ := same
    have follows := supportFollows_contactReport l .slipping w
    unfold SupportFollows at follows ⊢
    rw [bal, sup, att, balCfg] at follows
    have reported := contactReport_of_other (c := .slipping) (s := w) (l := l) nofun nofun (by rw [foot])
    obtain ⟨balances, braces⟩ := balances_balanceReport l .slipping w
    have issues := issues_issue (balanceReport l .slipping w)
    have tFeet := contactReport_feet l .slipping w
    rw [← reported] at issues
    generalize contactReport l .slipping w = t at follows issues tFeet ⊢
    have tEv : t.ev = w.ev := issues.ev.trans balances.ev
    refine ⟨tFeet ▸ foot, fun m ne => ?_, follows, tEv ▸ ev.1, tEv ▸ ev.2, fun standing runs _ => ?_⟩
    · rw [tFeet, feet, Quad.get_set_of_ne _ ne]
    · have runs : planRuns w = true := by
        rw [planRuns, plan]
        exact runs
      rw [issues.bal]
      exact braces rfl (sup ▸ standing) runs
  · intro waiting
    refine ⟨congrArg Host.Outcome.next ?_, congrArg Host.Outcome.next ?_⟩
    · rw [loadSample, waiting]
      rfl
    · rw [loadFallingEdge, waiting]
  · intro rising
    refine congrArg Host.Outcome.next ?_
    rw [loadFallingEdge, rising]
    rfl
  · intro h marked
    refine congrArg Host.Outcome.next ?_
    rw [loadFallingEdge, marked]
  · intro running
    exact congrArg Host.Outcome.next (if_neg fun out => running ((ranOut_iff _).mp out))

end

end Sys2Proof.Machine
end

section
/-! SUPERVISION. The timers of the Mode Supervisor: a rise, a settle and a support loss as faults, and the silence expiry with its
settle (R144, R146, R150, R152, R153). -/

namespace Sys2Proof.Machine

section
variable {s t u w : State}

/-! ## A plan that pauses -/

/-- From `u` the plan has been drained where it was ACTIVE, a pending settle not yet tested (R85, R86). -/
structure Pauses (u w : State) : Prop where
  sup : w.sup = u.sup
  phase : ∀ l, (w.legs.get l).phase = (u.legs.get l).phase
  silence : w.link.silence = u.link.silence
  flags : ∀ e, hasEvent u.ev.pending e = true → hasEvent w.ev.pending e = true
  active : u.plan.state = .active → w.plan.state = if servedOf u.plan.window = [] then .suspended else .draining
  inactive : u.plan.state ≠ .active → w.plan = u.plan

/-- A drain ends in the test of a pending settle, or without it (R86, R153). -/
theorem pauses_drain (u : State) : ∃ w, (drain u = w ∨ drain u = settleTest w) ∧ Pauses u w := by
  by_cases active : u.plan.state = .active
  · have withdraws := withdraws_withdrawWaiting (setPlanState .draining u)
    have steady := steady_withdrawWaiting (setPlanState .draining u)
    have shown : drain u = suspendIfEmpty (withdrawWaiting (setPlanState .draining u)) := if_pos active
    rw [shown, suspendIfEmpty_eq]
    generalize withdrawWaiting (setPlanState .draining u) = v at withdraws steady
    have same : v.link = u.link ∧ v.ev = u.ev := by
      rw [withdraws.frame]
      exact ⟨rfl, rfl⟩
    obtain ⟨link, ev⟩ := same
    have window : v.plan.window = servedOf u.plan.window := by rw [withdraws.plan]; rfl
    have state : v.plan.state = .draining := by rw [withdraws.plan]; rfl
    by_cases empty : servedOf u.plan.window = []
    · rw [if_pos ⟨state, window.trans empty⟩]
      have flags := (calm_raise .planSuspended (setPlanState .suspended v)).quiet.flags
      obtain ⟨es, tx, -, raised⟩ := raise_eq .planSuspended (setPlanState .suspended v)
      refine ⟨raise .planSuspended (setPlanState .suspended v), .inr rfl, ?_, fun l => ?_, ?_, fun e set => flags e ?_, fun _ => ?_,
        fun not => absurd active not⟩
      · rw [raised]
        exact steady.sup
      · rw [raised]
        exact steady.phase l
      · rw [raised]
        show v.link.silence = u.link.silence
        rw [link]
      · show hasEvent v.ev.pending e = true
        rw [ev]
        exact set
      · rw [raised, if_pos empty]
        rfl
    · rw [if_neg fun both => empty (window.symm.trans both.2)]
      exact ⟨v, .inl rfl, steady.sup, steady.phase, congrArg LinkPort.silence link, fun e set => by rw [ev]; exact set,
        fun _ => by rw [if_neg empty]; exact state, fun not => absurd active not⟩
  · exact ⟨u, .inl (if_neg active), rfl, fun _ => rfl, rfl, fun _ => id, fun yes => absurd yes active, fun _ => rfl⟩

theorem settleTest_silence (stopped : s.link.silence = none) : (settleTest s).link.silence = none := by
  rcases settleTest_cases s with same | ⟨-, -, -, settling⟩
  · rw [same]
    exact stopped
  · rw [settling.frame]
    rfl

/-- What a settle made pending leaves alone (R153). -/
theorem setPendingSettle_keeps (s : State) :
    (setPendingSettle s).plan = s.plan ∧ (s.link.silence = none → (setPendingSettle s).link.silence = none) ∧
      ∀ e, hasEvent s.ev.pending e = true → hasEvent (setPendingSettle s).ev.pending e = true := by
  unfold setPendingSettle
  split
  case isTrue =>
    have settles := settles_settleTest (s.setSup { s.sup with pendingSettle := true })
    exact ⟨settles.plan, fun stopped => settleTest_silence (by exact stopped), settles.flags⟩
  case isFalse => exact ⟨rfl, id, fun _ => id⟩

/-- Under the SETTLE policy in STANDING a settle made pending settles at once where its condition holds, be it tested before or not
(R153). -/
theorem setPendingSettle_of_settle (policy : w.sup.policy = .settle) (standing : w.sup.mode = .standing)
    (tested : t = w ∨ t = settleTest w) :
    (settleCondition w = true → EntersSettling (w.setSup { w.sup with pendingSettle := false }) (setPendingSettle t)) ∧
    (settleCondition w = false → setPendingSettle t = w.setSup { w.sup with pendingSettle := true }) := by
  have condition : settleCondition (w.setSup { w.sup with pendingSettle := true }) = settleCondition w := rfl
  have untested : (settleCondition w = true → EntersSettling (w.setSup { w.sup with pendingSettle := false }) (setPendingSettle w)) ∧
      (settleCondition w = false → setPendingSettle w = w.setSup { w.sup with pendingSettle := true }) := by
    rw [setPendingSettle, if_pos ⟨policy, standing⟩]
    refine ⟨fun holds => ?_, fun fails => if_neg fun all => ?_⟩
    · rw [settleTest, if_pos ⟨rfl, standing, condition.trans holds⟩]
      exact entersSettling _
    · rw [condition, fails] at all
      exact Bool.noConfusion all.2.2
  rcases tested with rfl | rfl
  · exact untested
  · rcases settleTest_cases w with same | ⟨-, -, holds, settling⟩
    · rw [same]
      exact untested
    · refine ⟨fun _ => ?_, fun fails => Bool.noConfusion (holds.symm.trans fails)⟩
      have left : setPendingSettle (settleTest w) = settleTest w := if_neg fun both => by
        have mode := both.2
        rw [settling.frame] at mode
        exact Mode.noConfusion mode
      rw [left]
      exact settling

theorem servedOf_eq_nil {ws : List WindowRecord} : servedOf ws = [] ↔ ∀ w ∈ ws, w.cond = .waiting := by
  simp [servedOf]

theorem settleCondition_iff (s : State) : settleCondition s = true ↔
    (s.plan.state = .idle ∨ s.plan.state = .suspended ∨ s.plan.state = .braced) ∧ ∀ l, (s.legs.get l).phase = .stance := by
  simp only [settleCondition, Bool.and_eq_true, decide_eq_true_iff, Quad.all_iff]

/-! ## The expiries -/

theorem exec_riseSettleTimeout (out : s.sup.riseSettle = some 0) {k : FaultKind}
    (mode : s.sup.mode = .rising ∧ k = .riseFailed ∨ s.sup.mode = .settling ∧ k = .settleFailed) :
    ∃ t, exec .riseSettleTimeout s = .next t ∧ EntersSafeHold k none s t := by
  refine ⟨reportFault k none (s.setSup { s.sup with riseSettle := none }), congrArg Host.Outcome.next ?_, ?_⟩
  · rw [riseSettleTimeout, if_pos (by rw [out]; rfl)]
    dsimp only
    rw [State.setSup_sup]
    rcases mode with ⟨mode, rfl⟩ | ⟨mode, rfl⟩ <;> rw [mode]
  · refine entersSafeHold (reportFault_enters ?_ ?_) ⟨rfl, rfl, rfl, rfl, rfl, rfl, rfl, fun _ => rfl⟩
    · rw [State.setSup_sup]
      rcases mode with ⟨mode, rfl⟩ | ⟨mode, rfl⟩ <;> rw [mode] <;> rfl
    · rw [State.setSup_sup]
      rcases mode with ⟨mode, rfl⟩ | ⟨mode, rfl⟩ <;> rw [mode] <;> exact Mode.noConfusion

theorem exec_silenceExpiry (out : s.link.silence = some 0) :
    exec .silenceExpiry s = .next (silenceActs (raise .silence (stopSilence s))) :=
  congrArg Host.Outcome.next (if_pos (by rw [out]; rfl))

/-- A silence expiry in STANDING: the plan pauses, and under SETTLE a settle is made pending (R153). -/
theorem silenceActs_of_standing (standing : u.sup.mode = .standing) : silenceActs u = setPendingSettle (drain u) := by
  rw [silenceActs, standing]

/-- Settles O54: the fault timers by the entry, the silence expiry by mode and policy. -/
theorem supervisorTimersExpire : Obligations.SupervisorTimersExpire := by
  unfold Obligations.SupervisorTimersExpire
  refine ⟨fun s => ⟨fun runs => ?_, fun runs => ?_, fun runs => ?_, fun out rising => ?_, fun out settling => ?_, fun out standing => ?_⟩,
    fun s out => ?_⟩
  · exact congrArg Host.Outcome.next (if_neg fun out => runs ((ranOut_iff _).mp out))
  · exact congrArg Host.Outcome.next (if_neg fun out => runs ((ranOut_iff _).mp out))
  · exact congrArg Host.Outcome.next (if_neg fun out => runs ((ranOut_iff _).mp out))
  · exact exec_riseSettleTimeout out (.inl ⟨rising, rfl⟩)
  · exact exec_riseSettleTimeout out (.inr ⟨settling, rfl⟩)
  · refine ⟨_, congrArg Host.Outcome.next (if_pos (by rw [out]; rfl)), entersSafeHold (reportFault_enters ?_ ?_)
      ⟨rfl, rfl, rfl, rfl, rfl, rfl, rfl, fun _ => rfl⟩⟩
    · rw [State.setSup_sup, standing]
      rfl
    · rw [State.setSup_sup, standing]
      exact Mode.noConfusion
  · refine ⟨_, exec_silenceExpiry out, ?_⟩
    obtain ⟨es, tx, raised, shown⟩ := raise_eq .silence (stopSilence s)
    generalize raise .silence (stopSilence s) = u at shown
    have same : u.sup = s.sup ∧ u.plan = s.plan ∧ u.legs = s.legs ∧ u.link.silence = none := by
      rw [shown]
      exact ⟨rfl, rfl, rfl, rfl⟩
    have told : hasEvent u.ev.pending .silence = true := by
      rw [shown]
      exact raised
    obtain ⟨sup, plan, legs, silence⟩ := same
    by_cases standing : s.sup.mode = .standing
    · rw [silenceActs_of_standing (by rw [sup]; exact standing)]
      obtain ⟨w, drained, pauses⟩ := pauses_drain u
      have wSup : w.sup = s.sup := pauses.sup.trans sup
      have before : (drain u).plan = w.plan ∧ (drain u).link.silence = none ∧ hasEvent (drain u).ev.pending .silence = true := by
        have quiet := pauses.silence.trans silence
        have settles := settles_settleTest w
        rcases drained with same | same <;> rw [same]
        · exact ⟨rfl, quiet, pauses.flags _ told⟩
        · exact ⟨settles.plan, settleTest_silence quiet, settles.flags _ (pauses.flags _ told)⟩
      obtain ⟨dPlan, dSilence, dTold⟩ := before
      obtain ⟨kPlan, kSilence, kFlags⟩ := setPendingSettle_keeps (drain u)
      refine ⟨kSilence dSilence, kFlags _ dTold, fun rising => ?_, fun _ => ⟨fun active => ?_, fun inactive => ?_, fun suspend none => ?_,
        fun settle => ?_⟩, fun _ other => absurd standing other⟩
      · exact Mode.noConfusion (standing.symm.trans rising)
      · rw [kPlan, dPlan, pauses.active (by rw [plan]; exact active), plan]
        exact if_congr servedOf_eq_nil rfl rfl
      · rw [kPlan, dPlan, pauses.inactive (by rw [plan]; exact inactive), plan]
      · have unpending : settleTest w = w := settleTest_of_not_pending (by rw [wSup]; exact none)
        have same : drain u = w := drained.elim id fun h => h.trans unpending
        rw [same, setPendingSettle, if_neg (by rw [wSup, suspend]; exact fun h => Policy.noConfusion h.1)]
        exact wSup
      · have policy : w.sup.policy = .settle := by rw [wSup]; exact settle
        obtain ⟨enters, waits⟩ := setPendingSettle_of_settle policy (by rw [wSup]; exact standing) drained
        have phases : (∀ l, (w.legs.get l).phase = .stance) ↔ ∀ l, (s.legs.get l).phase = .stance :=
          forall_congr' fun l => by rw [pauses.phase, legs]
        have stopped : (w.plan.state = .idle ∨ w.plan.state = .suspended ∨ w.plan.state = .braced) ↔
            (s.plan.state = .active ∧ (∀ w ∈ s.plan.window, w.cond = .waiting) ∨ s.plan.state = .idle ∨ s.plan.state = .suspended ∨
              s.plan.state = .braced) := by
          by_cases active : s.plan.state = .active
          · rw [pauses.active (by rw [plan]; exact active), plan, active]
            by_cases all : ∀ w ∈ s.plan.window, w.cond = .waiting
            · exact ⟨fun _ => .inl ⟨rfl, all⟩, fun _ => .inr (.inl (if_pos (servedOf_eq_nil.mpr all)))⟩
            · simp [mt servedOf_eq_nil.mp all, all]
          · rw [pauses.inactive (by rw [plan]; exact active), plan]
            simp [active]
        have condition := (settleCondition_iff w).trans (and_congr stopped phases)
        intro drained settles
        refine ⟨fun all => ?_, fun not => ?_⟩
        · have settling := enters (condition.mpr all)
          generalize setPendingSettle (drain u) = t at settling
          refine ⟨?_, ?_, settling.raised, fun l => ?_⟩
          · rw [settling.frame]
            rfl
          · rw [settling.frame]
            rfl
          · rw [settling.posed.legs]
            rfl
        · rw [waits (Bool.eq_false_iff.mpr (mt condition.mp not))]
          exact ⟨by rw [State.setSup_sup, wSup]; exact standing, rfl⟩
    · by_cases rising : s.sup.mode = .rising
      · have acts : silenceActs u = u.setSup { u.sup with silenceInRise := true } := by rw [silenceActs, sup, rising]
        rw [acts]
        exact ⟨silence, told, fun _ => ⟨by rw [State.setSup_sup, sup], plan⟩, fun yes => absurd yes standing, fun no => absurd rising no⟩
      · have acts : silenceActs u = u := by
          unfold silenceActs
          rw [sup]
          cases mode : s.sup.mode with
          | standing => exact absurd mode standing
          | rising => exact absurd mode rising
          | parked => rfl
          | settling => rfl
          | safeHold => rfl
        rw [acts]
        exact ⟨silence, told, fun yes => absurd yes rising, fun yes => absurd yes standing, fun _ _ => ⟨sup, plan⟩⟩

end

end Sys2Proof.Machine
end

section
/-! MODES UNDER WAY. What the plan, the legs and the balance can do to the mode: nothing, or what a settle that pends does (R142, R153).
`Mild` is for what changes neither phase nor plan state, `Goes` for what may leave a pending settle untested, `Tests` for what does
not. -/

namespace Sys2Proof.Machine

section
variable {s t u : State}

/-- No drive has reached its target (R97). -/
def Unreached (s : State) : Prop := ∀ l, (s.legs.get l).reached = false

/-- From `s` to `t` mode, settle, phases and plan state are kept, no flag falls, and no leg comes to have reached. -/
structure Mild (s t : State) : Prop where
  flags : ∀ e, hasEvent s.ev.pending e = true → hasEvent t.ev.pending e = true
  mode : t.sup.mode = s.sup.mode
  pendingSettle : t.sup.pendingSettle = s.sup.pendingSettle
  policy : t.sup.policy = s.sup.policy
  silenceInRise : t.sup.silenceInRise = s.sup.silenceInRise
  reached : ∀ l, (s.legs.get l).reached = false → (t.legs.get l).reached = false
  phase : ∀ l, (t.legs.get l).phase = (s.legs.get l).phase
  state : t.plan.state = s.plan.state

/-- From `s`, where a settle was pending, SETTLING has been entered with the plan stopped (R153). -/
structure Settled (s t : State) : Prop where
  pending : s.sup.pendingSettle = true
  standing : s.sup.mode = .standing
  mode : t.sup.mode = .settling
  cleared : t.sup.pendingSettle = false
  stopped : planRuns t = false
  raised : hasEvent t.ev.pending .modeChange = true
  unreached : Unreached t

/-- From `s` to `t` the mode has changed by a pending settle at most, and no stopped plan has begun to run. -/
structure Goes (s t : State) : Prop where
  flags : ∀ e, hasEvent s.ev.pending e = true → hasEvent t.ev.pending e = true
  policy : t.sup.policy = s.sup.policy
  silenceInRise : t.sup.silenceInRise = s.sup.silenceInRise
  reached : ∀ l, (s.legs.get l).reached = false → (t.legs.get l).reached = false
  stays : planRuns s = false → t.plan.state = s.plan.state
  mode : t.sup.mode = s.sup.mode ∧ t.sup.pendingSettle = s.sup.pendingSettle ∨ Settled s t

/-- `Goes`, and a pending settle has been tested where it had to be (R153). -/
structure Tests (s t : State) : Prop where
  goes : Goes s t
  waits : SettleWaits s → SettleWaits t

theorem Mild.refl (s : State) : Mild s s := ⟨fun _ => id, rfl, rfl, rfl, rfl, fun _ => id, fun _ => rfl, rfl⟩

theorem Mild.trans (h : Mild s t) (k : Mild t u) : Mild s u where
  flags e set := k.flags e (h.flags e set)
  mode := k.mode.trans h.mode
  pendingSettle := k.pendingSettle.trans h.pendingSettle
  policy := k.policy.trans h.policy
  silenceInRise := k.silenceInRise.trans h.silenceInRise
  reached l none := k.reached l (h.reached l none)
  phase l := (k.phase l).trans (h.phase l)
  state := k.state.trans h.state

theorem Mild.goes (h : Mild s t) : Goes s t :=
  ⟨h.flags, h.policy, h.silenceInRise, h.reached, fun _ => h.state, .inl ⟨h.mode, h.pendingSettle⟩⟩

theorem Mild.runs (h : Mild s t) : planRuns t = planRuns s := by rw [planRuns, planRuns, h.state]

theorem Mild.tests (h : Mild s t) : Tests s t where
  goes := h.goes
  waits held := by
    unfold SettleWaits at held ⊢
    rw [h.pendingSettle, h.mode, h.state]
    simpa only [h.phase] using held

theorem Goes.trans (h : Goes s t) (k : Goes t u) : Goes s u where
  flags e set := k.flags e (h.flags e set)
  policy := k.policy.trans h.policy
  silenceInRise := k.silenceInRise.trans h.silenceInRise
  reached l none := k.reached l (h.reached l none)
  stays stopped := by
    have same := h.stays stopped
    refine (k.stays ?_).trans same
    rw [planRuns, same]
    exact stopped
  mode := by
    rcases h.mode with ⟨mode, pending⟩ | settled
    · rcases k.mode with ⟨mode', pending'⟩ | settled
      · exact .inl ⟨mode'.trans mode, pending'.trans pending⟩
      · exact .inr ⟨pending ▸ settled.pending, mode ▸ settled.standing, settled.mode, settled.cleared, settled.stopped, settled.raised,
          settled.unreached⟩
    · rcases k.mode with ⟨mode, pending⟩ | again
      · refine .inr ⟨settled.pending, settled.standing, mode.trans settled.mode, pending.trans settled.cleared, ?_,
          k.flags _ settled.raised, fun l => k.reached l (settled.unreached l)⟩
        rw [planRuns, k.stays settled.stopped]
        exact settled.stopped
      · exact Mode.noConfusion (settled.mode.symm.trans again.standing)

theorem Tests.trans (h : Tests s t) (k : Tests t u) : Tests s u := ⟨h.goes.trans k.goes, fun held => k.waits (h.waits held)⟩

theorem Tests.refl (s : State) : Tests s s := (Mild.refl s).tests

/-- What does not look at a pending settle keeps it in STANDING. -/
theorem Goes.pending_standing (h : Goes s t) (held : SettleWaits s) (pending : t.sup.pendingSettle = true) : t.sup.mode = .standing := by
  rcases h.mode with ⟨mode, same⟩ | settled
  · exact mode.trans (held (same ▸ pending)).1
  · exact Bool.noConfusion (pending.symm.trans settled.cleared)

/-- A settled state has no settle that waits. -/
theorem SettleWaits.of_clear (clear : s.sup.pendingSettle = false) : SettleWaits s := fun pending =>
  Bool.noConfusion (pending.symm.trans clear)

/-! ## The test of a pending settle -/

theorem settleTest_waits (standing : s.sup.pendingSettle = true → s.sup.mode = .standing) : SettleWaits (settleTest s) := by
  rcases settleTest_cases s with same | ⟨-, -, -, settling⟩
  · rw [same]
    refine fun pending => ⟨standing pending, fun stopped => ?_⟩
    by_contra all
    push Not at all
    have holds : settleCondition s = true := (settleCondition_iff s).mpr ⟨stopped, all⟩
    have entered : settleTest s = enterSettling (s.setSup { s.sup with pendingSettle := false }) :=
      if_pos ⟨pending, standing pending, holds⟩
    have frame := (entersSettling (s.setSup { s.sup with pendingSettle := false })).frame
    rw [← entered, same] at frame
    have clear : s.sup.pendingSettle = false := by
      conv_lhs => rw [frame]
      rfl
    exact Bool.noConfusion (pending.symm.trans clear)
  · refine .of_clear ?_
    rw [settling.frame]
    rfl

theorem EntersSettling.unreached (h : EntersSettling s t) : Unreached t := fun l => by
  rw [h.posed.legs]
  rfl

theorem goes_settleTest (s : State) : Goes s (settleTest s) := by
  have settles := settles_settleTest s
  rcases settleTest_cases s with same | ⟨pending, standing, holds, settling⟩
  · rw [same]
    exact (Mild.refl s).goes
  · have frame := settling.frame
    refine ⟨settles.flags, ?_, ?_, fun l _ => settling.unreached l, fun _ => by rw [settles.plan],
      .inr ⟨pending, standing, ?_, ?_, ?_, settling.raised, settling.unreached⟩⟩
    · rw [frame]; rfl
    · rw [frame]; rfl
    · rw [frame]; rfl
    · rw [frame]; rfl
    · rw [planRuns, settles.plan]
      rcases ((settleCondition_iff s).mp holds).1 with h | h | h <;> rw [h] <;> rfl

/-- What ends in the test of a pending settle leaves none untested. -/
theorem Goes.test (h : Goes s t) : Tests s (settleTest t) :=
  ⟨h.trans (goes_settleTest t), fun held => settleTest_waits (h.pending_standing held)⟩

/-! ## Updates -/

theorem mild_setBal (s : State) (b : Balance) : Mild s (s.setBal b) :=
  ⟨fun _ => id, rfl, rfl, rfl, rfl, fun _ => id, fun _ => rfl, rfl⟩

theorem mild_setFeet (s : State) (q : Quad Foot) : Mild s (s.setFeet q) :=
  ⟨fun _ => id, rfl, rfl, rfl, rfl, fun _ => id, fun _ => rfl, rfl⟩

theorem mild_modFoot (l : Leg) (f : Foot → Foot) (s : State) : Mild s (modFoot l f s) := mild_setFeet ..

theorem mild_setAtt (s : State) (a : Attitude) : Mild s (s.setAtt a) :=
  ⟨fun _ => id, rfl, rfl, rfl, rfl, fun _ => id, fun _ => rfl, rfl⟩

theorem mild_setLink (s : State) (p : LinkPort) : Mild s (s.setLink p) :=
  ⟨fun _ => id, rfl, rfl, rfl, rfl, fun _ => id, fun _ => rfl, rfl⟩

theorem mild_setPlan {p : Planner} (state : p.state = s.plan.state) : Mild s (s.setPlan p) :=
  ⟨fun _ => id, rfl, rfl, rfl, rfl, fun _ => id, fun _ => rfl, state⟩

theorem mild_setBus (s : State) (b : Bus) : Mild s (s.setBus b) := ⟨fun _ => id, rfl, rfl, rfl, rfl, fun _ => id, fun _ => rfl, rfl⟩

theorem reached_modLeg {l : Leg} {f : LegSeq → LegSeq} (reached : ∀ q, q.reached = false → (f q).reached = false) (m : Leg)
    (none : (s.legs.get m).reached = false) : ((modLeg l f s).legs.get m).reached = false := by
  rw [modLeg, State.setLegs_legs, Quad.get_set]
  split
  case isTrue same => subst same; exact reached _ none
  case isFalse => exact none

theorem goes_modLeg (l : Leg) {f : LegSeq → LegSeq} (reached : ∀ q, q.reached = false → (f q).reached = false) (s : State) :
    Goes s (modLeg l f s) :=
  ⟨fun _ => id, rfl, rfl, reached_modLeg reached, fun _ => rfl, .inl ⟨rfl, rfl⟩⟩

theorem mild_modLeg (l : Leg) {f : LegSeq → LegSeq} (reached : ∀ q, q.reached = false → (f q).reached = false)
    (phase : ∀ q, (f q).phase = q.phase) (s : State) : Mild s (modLeg l f s) :=
  ⟨fun _ => id, rfl, rfl, rfl, rfl, reached_modLeg reached, (steady_modLeg l f s phase).phase, rfl⟩

theorem mild_raise (e : Event) (s : State) : Mild s (raise e s) := by
  have calm := calm_raise e s
  have moves := (linkMoves_raise e s).rest
  refine ⟨calm.quiet.flags, ?_, ?_, ?_, ?_, fun l none => ?_, fun l => ?_, ?_⟩
  all_goals rw [moves]
  all_goals first | rfl | exact none

theorem mild_raiseIf (b : Bool) (e : Event) (s : State) : Mild s (if b then raise e s else s) := by
  cases b
  · exact .refl s
  · exact mild_raise e s

theorem mild_bump (k : Counter) (s : State) : Mild s (bump k s) :=
  ⟨fun _ => id, rfl, rfl, rfl, rfl, fun _ => id, fun _ => rfl, rfl⟩

theorem mild_forLegs {f : Leg → State → State} (each : ∀ l s, Mild s (f l s)) (ls : List Leg) (s : State) : Mild s (forLegs f ls s) := by
  induction ls generalizing s with
  | nil => exact .refl s
  | cons l rest ih => exact (each l s).trans (ih (f l s))

theorem goes_forLegs {f : Leg → State → State} (each : ∀ l s, Goes s (f l s)) (ls : List Leg) (s : State) : Goes s (forLegs f ls s) := by
  induction ls generalizing s with
  | nil => exact (Mild.refl s).goes
  | cons l rest ih => exact (each l s).trans (ih (f l s))

theorem mild_handover (l : Leg) (v : Vec3) (sp : Nat) (hold : Bool) (s : State) : Mild s (handover l v sp hold s) := by
  unfold handover
  split
  · exact .refl s
  · split <;> exact mild_setBus ..

theorem mild_sendSetpoint (l : Leg) (v : Vec3) (sp : Nat) (s : State) : Mild s (sendSetpoint l v sp s) := by
  refine .trans ?_ (mild_handover ..)
  exact mild_modLeg l (fun _ _ => by rfl) (fun _ => by rfl) s

theorem mild_sendHold (l : Leg) (s : State) : Mild s (sendHold l s) := by
  refine .trans ?_ (mild_handover ..)
  exact mild_modLeg l (fun _ _ => by rfl) (fun _ => by rfl) s

theorem mild_resendSetpoint (l : Leg) (sp : Nat) (s : State) : Mild s (resendSetpoint l sp s) := by
  refine .trans ?_ (mild_handover ..)
  exact mild_modLeg l (fun _ _ => by rfl) (fun _ => by rfl) s

theorem mild_holdLegs (ls : List Leg) (s : State) : Mild s (holdLegs ls s) := mild_forLegs mild_sendHold ls s

theorem mild_modWindow (id : Nat) (f : WindowRecord → WindowRecord) (s : State) : Mild s (modWindow id f s) := mild_setPlan rfl

theorem mild_markRecord (id : Nat) (s : State) : Mild s (markRecord id s) := mild_modWindow ..

theorem mild_trigger (s : State) : Mild s (trigger s) := by
  unfold trigger
  split <;> exact mild_setBal ..

/-! ## Issue and withdrawal -/

theorem mild_startShift (id : Nat) (d : Vec3) (s : State) : Mild s (startShift id d s) := by
  have marked : Mild s (if legsInOrder.any (fun l => isClamped s.geo l (shiftedTarget s d.neg l)) then markRecord id s else s) := by
    split
    · exact mild_markRecord id s
    · exact .refl s
  have sent := marked.trans (mild_forLegs (fun l s => mild_sendSetpoint l (shiftedTarget s d.neg l) s.gait.shiftSpeed s) legsInOrder _)
  unfold startShift
  refine .trans ?_ (mild_setPlan (by rfl))
  exact sent

theorem mild_issueHead (r : PlanRecord) (rest : List PlanRecord) (s : State) : Mild s (issueHead r rest s) := by
  unfold issueHead
  dsimp only
  split
  · refine .trans ?_ (mild_startShift ..)
    exact mild_setPlan rfl
  · refine .trans ?_ (mild_setBal _ _)
    exact mild_setPlan rfl
  · refine .trans ?_ (mild_setBal _ _)
    exact mild_setPlan rfl

theorem mild_issueFrom (rs : List PlanRecord) (s : State) : Mild s (issueFrom rs s) := by
  induction rs generalizing s with
  | nil => exact .refl s
  | cons r rest ih =>
    unfold issueFrom
    split
    · exact (mild_issueHead r rest s).trans (ih _)
    · exact .refl s

theorem mild_issue (s : State) : Mild s (issue s) := mild_issueFrom _ s

theorem tests_phaseChanged (s : State) : Tests s (phaseChanged s) := (mild_issue s).goes.test

theorem Goes.phaseChanged (h : Goes s t) : Tests s (phaseChanged t) := (h.trans (mild_issue t).goes).test

theorem mild_stopPreshift (ids : List Nat) (s : State) : Mild s (stopPreshift ids s) := by
  unfold stopPreshift
  split
  · exact .refl s
  · split
    · exact (mild_setBal s _).trans (mild_holdLegs ..)
    · exact .refl s

theorem mild_withdrawWaiting (s : State) : Mild s (withdrawWaiting s) :=
  ((mild_setBal s _).trans (mild_stopPreshift _ _)).trans (mild_setPlan rfl)

/-! ## The plan's running -/

/-- A plan that runs may be stopped, or be made to drain (R82). -/
theorem goes_setPlanState {p : PlanState} (runs : planRuns s = true) : Goes s (setPlanState p s) :=
  ⟨fun _ => id, rfl, rfl, fun _ => id, fun stopped => Bool.noConfusion (runs.symm.trans stopped), .inl ⟨rfl, rfl⟩⟩

theorem runs_of_active (active : s.plan.state = .active) : planRuns s = true := decide_eq_true (.inl active)

theorem runs_of_draining (draining : s.plan.state = .draining) : planRuns s = true := decide_eq_true (.inr draining)

theorem tests_planEnds {p : PlanState} (e : Event) (runs : planRuns s = true) : Tests s (planEnds p e s) :=
  ((goes_setPlanState runs).trans (mild_raise e _).goes).test

theorem tests_idleIfEmpty (s : State) : Tests s (idleIfEmpty s) := by
  rw [idleIfEmpty_eq]
  split
  case isTrue h => exact tests_planEnds _ (runs_of_active h.1)
  case isFalse => exact .refl s

theorem tests_suspendIfEmpty (s : State) : Tests s (suspendIfEmpty s) := by
  rw [suspendIfEmpty_eq]
  split
  case isTrue h => exact tests_planEnds _ (runs_of_draining h.1)
  case isFalse => exact .refl s

/-- An ACTIVE plan that drains goes on running (R85). -/
theorem tests_setDraining (active : s.plan.state = .active) : Tests s (setPlanState .draining s) where
  goes := goes_setPlanState (runs_of_active active)
  waits held pending := ⟨(held pending).1, fun stopped => by rcases stopped with h | h | h <;> cases h⟩

theorem tests_drain (s : State) : Tests s (drain s) := by
  unfold drain
  split
  case isTrue active =>
    exact ((tests_setDraining active).trans (mild_withdrawWaiting _).tests).trans (tests_suspendIfEmpty _)
  case isFalse => exact .refl s

theorem mild_pushLog (e : LogEntry) (s : State) : Mild s (pushLog e s) := by
  unfold pushLog
  split
  · refine .trans ?_ (mild_bump ..)
    exact mild_setPlan rfl
  · exact mild_setPlan rfl

theorem mild_finishRecord (w : WindowRecord) (st : Status) (s : State) : Mild s (finishRecord w st s) := by
  unfold finishRecord
  dsimp only
  have logged : Mild s (pushLog (logEntryOf w (finalStatus w st) s.ev.time) (s.setPlan
    { s.plan with
      window := s.plan.window.filter fun v => decide (v.body.id ≠ w.body.id)
      shiftTimer := if w.body.kind = .shift then none else s.plan.shiftTimer })) := by
    refine .trans ?_ (mild_pushLog ..)
    exact mild_setPlan rfl
  have told := logged.trans (mild_raiseIf w.body.notify .stepDone _)
  split
  · exact told
  · exact told.trans (mild_bump ..)

theorem tests_completionActs (st : Status) (hold : Bool) (s : State) : Tests s (completionActs st hold s) := by
  unfold completionActs
  split
  · split
    · exact tests_drain s
    · exact (mild_issue s).tests.trans (tests_idleIfEmpty _)
  · split
    · exact tests_suspendIfEmpty s
    · exact .refl s

theorem tests_completeRecord (id : Nat) (st : Status) (s : State) : Tests s (completeRecord id st s) := by
  unfold completeRecord
  split
  · exact .refl s
  · exact (mild_finishRecord ..).tests.trans (tests_completionActs ..)

theorem tests_reportOutcome (l : Leg) (o : Outcome) (v : Option Vec3) (s : State) : Tests s (reportOutcome l o v s) := by
  unfold reportOutcome
  split
  · exact .refl s
  · split
    · exact .refl s
    · split
      · dsimp only
        split
        · exact (mild_modWindow ..).tests.trans (tests_completeRecord ..)
        · exact (mild_modWindow ..).tests
      · exact .refl s

/-! ## The legs -/

theorem goes_startPhase (l : Leg) (p : Phase) (t : Nat) (s : State) : Goes s (startPhase l p t s) :=
  goes_modLeg l (fun _ => by exact id) s

theorem mild_markIfLimit (l : Leg) (s : State) : Mild s (markIfLimit l s) := by
  unfold markIfLimit
  dsimp only
  have marked := mild_modLeg l (f := fun p => { p with clamped := true }) (fun _ => id) (fun _ => rfl) s
  split
  · split
    · exact marked
    · exact marked.trans (mild_markRecord ..)
  · exact .refl s

theorem goes_landCore (l : Leg) (s : State) : Goes s (landCore l s) := by
  have stands := (goes_modLeg l (f := fun p => { p with phase := .stance, timer := none }) (fun _ => id) s).trans
    (mild_sendSetpoint l (bodyPos (modLeg l (fun p => { p with phase := .stance, timer := none }) s) l) s.gait.reachSpeed _).goes
  unfold landCore
  dsimp only
  split
  · exact (Mild.refl s).goes
  · exact (stands.trans (tests_reportOutcome ..).goes).trans (goes_modLeg l (fun _ => by exact id) _)
  · exact goes_modLeg l (fun _ => by exact id) s
  · exact stands.trans (goes_modLeg l (fun _ => by exact id) _)

theorem goes_landIfLoaded (l : Leg) (s : State) : Goes s (landIfLoaded l s) := by
  unfold landIfLoaded
  split
  · exact goes_landCore l s
  · exact (Mild.refl s).goes

theorem tests_land (l : Leg) (s : State) : Tests s (land l s) := (goes_landCore l s).phaseChanged

theorem tests_liftEnd (l : Leg) (s : State) : Tests s (liftEnd l s) := by
  unfold liftEnd
  split
  · exact .refl s
  · exact (((mild_markIfLimit l s).goes.trans (goes_startPhase ..)).trans (mild_sendSetpoint ..).goes).phaseChanged

theorem tests_swingEnd (l : Leg) (s : State) : Tests s (swingEnd l s) := by
  unfold swingEnd
  split
  · exact .refl s
  · refine Goes.phaseChanged (Goes.trans ?_ (goes_landIfLoaded l _))
    refine (((mild_markIfLimit l s).trans (mild_setFeet _ _)).goes.trans (goes_startPhase ..)).trans (mild_sendSetpoint ..).goes

theorem tests_snagTo (l : Leg) (v : Vec3) (s : State) : Tests s (snagTo l v s) := by
  refine Goes.phaseChanged (Goes.trans ?_ (goes_landIfLoaded l _))
  refine Goes.trans ?_ (mild_sendSetpoint ..).goes
  refine Goes.trans ?_ (goes_startPhase ..)
  refine Goes.trans ?_ (goes_modLeg l (fun _ => by exact id) _)
  exact ((tests_reportOutcome ..).goes.trans (mild_raise ..).goes).trans (mild_bump ..).goes

theorem tests_snagInLift (l : Leg) (s : State) : Tests s (snagInLift l s) := by
  unfold snagInLift
  split
  · exact .refl s
  · exact tests_snagTo ..

theorem tests_snagInSwing (l : Leg) (s : State) : Tests s (snagInSwing l s) := by
  unfold snagInSwing
  split
  · exact .refl s
  · exact tests_snagTo ..

theorem tests_missFoothold (l : Leg) (s : State) : Tests s (missFoothold l s) := by
  unfold missFoothold
  split
  · exact .refl s
  · refine Goes.phaseChanged (Goes.trans ?_ (mild_sendSetpoint ..).goes)
    refine Goes.trans ?_ (goes_startPhase ..)
    refine Goes.trans ?_ (mild_setFeet _ _).goes
    refine Goes.trans ?_ (goes_modLeg l (fun _ => by exact id) _)
    exact (tests_reportOutcome ..).goes.trans (mild_raise ..).goes

theorem tests_retreatReach (l : Leg) (s : State) : Tests s (retreatReach l s) := by
  unfold retreatReach
  split
  · exact .refl s
  · refine Goes.phaseChanged (Goes.trans ?_ (goes_landIfLoaded l _))
    exact (goes_startPhase ..).trans (mild_sendSetpoint ..).goes

/-- A leg that is held enters REACH, or is in it already (R108). -/
theorem tests_failLeg (l : Leg) (s : State) : Tests s (failLeg l s) := by
  have held : Mild s (sendHold l s) := mild_sendHold l s
  have flagged := fun t : State => (mild_raise .missed t).trans (mild_setBal _ { (raise .missed t).bal with braceOut := true })
  have goes : Goes s (requestBrace (raise .missed
      (modLeg l (fun q => { q with phase := .reach, motion := some .held, timer := none }) (sendHold l s)))) :=
    (held.goes.trans (goes_modLeg l (fun _ => by exact id) _)).trans (flagged _).goes
  unfold failLeg
  dsimp only
  split
  case isTrue => exact (goes.trans (goes_landIfLoaded l _)).phaseChanged
  case isFalse there =>
    have reach : (s.legs.get l).phase = .reach := by simpa using there
    have still : modLeg l (fun q => { q with phase := .reach, motion := some .held, timer := none }) (sendHold l s) =
        modLeg l (fun q => { q with motion := some .held, timer := none }) (sendHold l s) := by
      have phase := (held.phase l).trans reach
      simp only [modLeg]
      rw [← phase]
    rw [still]
    refine (Mild.trans ?_ (flagged _)).tests
    refine held.trans ?_
    exact mild_modLeg l (fun _ => by exact id) (fun _ => by rfl) _

theorem goes_descend (l : Leg) (s : State) : Goes s (descend l s) := by
  unfold descend
  dsimp only
  split
  case h_1 =>
    have down : ∀ v, Goes s (sendSetpoint l v s.gait.reachSpeed
        (startPhase l .reach s.gait.reachTimeout (modLeg l (fun p => { p with motion := some .descent }) s))) := fun v =>
      ((goes_modLeg l (fun _ => by exact id) s).trans (goes_startPhase ..)).trans (mild_sendSetpoint ..).goes
    split
    · exact (down _).trans (goes_landIfLoaded l _)
    · exact down _
  case h_2 => exact (Mild.refl s).goes

theorem tests_timerRunsOut (l : Leg) (s : State) : Tests s (timerRunsOut l s) := by
  have stopped := (mild_modLeg l (f := fun p => { p with timer := none }) (fun _ => id) (fun _ => rfl) s).tests
  unfold timerRunsOut
  dsimp only
  split
  · exact stopped.trans (tests_snagInLift ..)
  · exact stopped.trans (tests_snagInSwing ..)
  · exact stopped.trans (tests_missFoothold ..)
  · exact stopped.trans (tests_failLeg ..)
  · exact stopped.trans (tests_failLeg ..)
  · exact stopped.trans (tests_failLeg ..)
  · exact stopped

theorem tests_seqContact (l : Leg) (c : Contact) (s : State) : Tests s (seqContact l c s) := by
  unfold seqContact
  dsimp only
  split
  · exact .refl s
  · cases (s.legs.get l).phase with
    | lift =>
      dsimp only
      split
      · exact tests_liftEnd l s
      · exact .refl s
    | reach =>
      dsimp only
      split
      · exact tests_land l s
      · exact .refl s
    | folded | posture | stance | swing => exact .refl s

theorem mild_takeDerating (l : Leg) (st : DriveState) (s : State) : Mild s (takeDerating l st s) := by
  have marked := mild_modLeg l (f := fun p => { p with derating := decide (st = .hot) }) (fun _ => id) (fun _ => rfl) s
  unfold takeDerating
  dsimp only
  split
  · exact marked
  · split
    · exact marked.trans (mild_resendSetpoint ..)
    · exact marked

theorem tests_reachedInReach (l : Leg) (s : State) : Tests s (reachedInReach l s) := by
  unfold reachedInReach
  dsimp only
  split
  · exact .refl s
  · split
    · exact (mild_markIfLimit l s).tests.trans (tests_land ..)
    · exact (mild_markIfLimit l s).tests.trans (tests_missFoothold ..)
  · split
    · exact tests_land l s
    · exact .refl s
  · split
    · exact tests_land l s
    · exact tests_failLeg l s

theorem tests_replyActs (l : Leg) (pass : Bool) (s : State) : Tests s (replyActs l pass s) := by
  unfold replyActs
  dsimp only
  split
  · exact .refl s
  · cases (s.legs.get l).phase with
    | lift =>
      dsimp only
      split
      · exact tests_liftEnd l s
      · exact .refl s
    | swing =>
      dsimp only
      split
      · split
        · exact tests_swingEnd l s
        · split
          · exact tests_retreatReach l s
          · exact .refl s
      · exact .refl s
    | reach =>
      dsimp only
      split
      · exact tests_reachedInReach l s
      · exact .refl s
    | folded | posture | stance => exact .refl s

end

end Sys2Proof.Machine
end

section
/-! MODES COMMAND BY COMMAND. The commands that change the mode by a pending settle at most: evaluations, braces, requests, timers and what
is no landing (R142, R153). -/

namespace Sys2Proof.Machine

section
variable {s t u : State}

/-! ## Tests of a reply -/

theorem mild_preshiftTest (s : State) : Mild s (preshiftTest s) := by
  unfold preshiftTest
  split
  · exact .refl s
  · split
    · exact mild_setBal ..
    · exact .refl s

/-- A leg's mark at the end of a SHIFT: set where an AT_LIMIT arrival has set its reached flag (R122). -/
def LegSeq.markedAtLimit (q : LegSeq) : LegSeq := if q.limitReached then { q with clamped := true } else q

theorem tests_shiftTest (s : State) : Tests s (shiftTest s) := by
  have marked : Mild s (s.setLegs (s.legs.map LegSeq.markedAtLimit)) := by
    have same : ∀ l, ((s.legs.map LegSeq.markedAtLimit).get l).phase = (s.legs.get l).phase ∧
        ((s.legs.map LegSeq.markedAtLimit).get l).reached = (s.legs.get l).reached := by
      intro l
      rw [Quad.get_map, LegSeq.markedAtLimit]
      split <;> exact ⟨rfl, rfl⟩
    exact ⟨fun _ => id, rfl, rfl, rfl, rfl, fun l none => (same l).2.trans none, fun l => (same l).1, rfl⟩
  unfold shiftTest
  split
  · exact .refl s
  · split
    · dsimp only
      refine .trans ?_ (tests_completeRecord ..)
      split
      · exact (marked.trans (mild_markRecord ..)).tests
      · exact marked.tests
    · exact .refl s

/-! ## Contact change reports -/

theorem Balances.mild (h : Balances s t) : Mild s t := by
  have same : t.ev = s.ev ∧ t.legs = s.legs ∧ t.plan = s.plan := ⟨h.ev, h.legs, h.plan⟩
  obtain ⟨ev, legs, plan⟩ := same
  refine ⟨fun e set => by rw [ev]; exact set, h.mode, h.pendingSettle, ?_, ?_, fun l none => by rw [legs]; exact none,
    fun l => by rw [legs], by rw [plan]⟩
  · rw [h.frame]; rfl
  · rw [h.frame]; rfl

/-- A report before its test for rise complete (R29). -/
theorem tests_report (l : Leg) (c : Contact) (s : State) : Tests s (issue (seqContact l c (balanceReport l c s))) :=
  ((balances_balanceReport l c s).1.mild.tests.trans (tests_seqContact l c _)).trans (mild_issue _).tests

theorem tests_slipPulse (l : Leg) (s : State) : Tests s (slipPulse l s) := by
  unfold slipPulse
  dsimp only
  split
  · split
    · have before : Mild s (bump .slips (raise .slip (modFoot l (fun g => { g with contact := .slipping, slip := g.slip + 1 }) s))) :=
        ((mild_setFeet s _).trans (mild_raise ..)).trans (mild_bump ..)
      have foot : ((bump .slips (raise .slip (modFoot l (fun g => { g with contact := .slipping, slip := g.slip + 1 }) s))).feet.get l).contact =
          .slipping := by
        have feet : (bump .slips (raise .slip (modFoot l (fun g => { g with contact := .slipping, slip := g.slip + 1 }) s))).feet =
            (modFoot l (fun g => { g with contact := .slipping, slip := g.slip + 1 }) s).feet := (steady_raise ..).feet
        rw [feet, modFoot, State.setFeet_feet, Quad.get_set_self]
      rw [contactReport_of_other (c := .slipping) nofun nofun foot]
      exact ((before.trans (balances_balanceReport l .slipping _).1.mild).trans (mild_issue _)).tests
    · exact (mild_setFeet ..).tests
  · exact .refl s

/-! ## Evaluations and braces -/

theorem tests_grantLeg (r : PlanRecord) (l : Leg) (s : State) : Tests s (grantLeg r l s) := by
  unfold grantLeg
  split
  · exact .refl s
  · refine Goes.phaseChanged (Goes.trans ?_ (mild_sendSetpoint ..).goes)
    refine Goes.trans ?_ (goes_startPhase ..)
    have formed := fun d mark => goes_modLeg l (f := fun q =>
      { q with step := some d, clamped := mark, motion := some .step, record := some r.id }) (fun _ => by exact id) s
    split
    · exact (formed _ _).trans (mild_markRecord ..).goes
    · exact formed _ _

theorem tests_forLegs {f : Leg → State → State} (each : ∀ l s, Tests s (f l s)) (ls : List Leg) (s : State) : Tests s (forLegs f ls s) := by
  induction ls generalizing s with
  | nil => exact .refl s
  | cons l rest ih => exact (each l s).trans (ih (f l s))

theorem mild_dropRequest (s : State) : Mild s (dropRequest s) := mild_setBal ..

theorem tests_grant (q : SwingRequest) (s : State) : Tests s (grant q s) := by
  have taken : Mild s (modWindow q.id (fun w => { w with cond := .granted }) (dropRequest s)) :=
    (mild_dropRequest s).trans (mild_modWindow ..)
  unfold grant
  dsimp only
  split
  · exact taken.tests
  · exact taken.tests.trans (tests_forLegs (fun l s => tests_grantLeg _ l s) q.legs _)

theorem mild_orderPreshift (q : SwingRequest) (o : Int × Int) (s : State) : Mild s (orderPreshift q o s) := by
  refine .trans ?_ (mild_setBal _ _)
  refine .trans ?_ (mild_forLegs (fun l s => mild_sendSetpoint l (shiftedTarget s ⟨-o.1, -o.2, 0⟩ l) s.gait.shiftSpeed s) _ _)
  exact ((mild_setBal s _).trans (mild_modWindow ..)).trans (mild_bump ..)

theorem tests_failsOnMargin (e : EvalInputs) (set : List Leg) (q : SwingRequest) (s : State) : Tests s (failsOnMargin e set q s) := by
  unfold failsOnMargin
  dsimp only
  split
  · exact (mild_orderPreshift ..).tests
  · exact (mild_dropRequest s).tests.trans (tests_completeRecord ..)

theorem tests_arbiter (e : EvalInputs) (rs : List SwingRequest) (granted : List Leg) (s : State) : Tests s (arbiter e rs granted s) := by
  induction rs generalizing granted s with
  | nil => exact .refl s
  | cons r rest ih =>
    unfold arbiter
    split
    · exact .refl s
    · split
      · split
        · exact .refl s
        · split
          · exact (tests_grant _ s).trans (ih _ _)
          · exact tests_failsOnMargin ..
      · exact .refl s

theorem tests_evaluationComplete (s : State) : Tests s (evaluationComplete s) := by
  have tested : ∀ b fig s, Mild s (braceTest b fig s) := fun b fig s => by
    unfold braceTest
    split
    · split
      · split
        · exact (mild_setBal s _).trans (mild_setBal _ _)
        · exact mild_setBal ..
      · exact mild_setBal ..
    · exact mild_setBal ..
  have considered : ∀ e s, Tests s (considerGrants e s) := fun e s => by
    unfold considerGrants
    split
    · exact tests_arbiter ..
    · exact .refl s
  have next : ∀ s, Mild s (nextEvaluation s) := fun s => by
    unfold nextEvaluation
    split
    · exact (mild_setBal s _).trans (mild_setBal _ _)
    · exact .refl s
  unfold evaluationComplete
  split
  · exact .refl s
  · exact (((mild_setBal s _).trans (tested ..)).tests.trans (considered ..)).trans (next _).tests

theorem goes_braceRecords (ws : List WindowRecord) (s : State) : Goes s (braceRecords ws s) := by
  induction ws generalizing s with
  | nil => exact (Mild.refl s).goes
  | cons w rest ih =>
    unfold braceRecords
    cases w.cond with
    | waiting => exact ih s
    | granted => exact ((mild_finishRecord ..).goes.trans (goes_forLegs goes_descend ..)).trans (ih _)
    | running => exact ((mild_finishRecord ..).trans (mild_holdLegs ..)).goes.trans (ih _)

theorem tests_takeBrace (runs : planRuns s = true) : Tests s (takeBrace s) := by
  refine Goes.phaseChanged ?_
  refine Goes.trans ?_ ((mild_raise ..).trans (mild_bump ..)).goes
  exact ((goes_setPlanState runs).trans (goes_braceRecords ..)).trans (mild_withdrawWaiting _).goes

theorem tests_braceTaken (s : State) : Tests s (braceTaken s) := by
  have cleared := mild_setBal s { s.bal with braceOut := false }
  unfold braceTaken
  split
  · dsimp only
    split
    case isTrue runs => exact cleared.tests.trans (tests_takeBrace runs)
    case isFalse => exact (cleared.trans (mild_issue _)).tests
  · exact .refl s

/-! ## Timers -/

theorem mild_preshiftTimeout (s : State) : Mild s (preshiftTimeout s) := by
  unfold preshiftTimeout
  split
  · exact .refl s
  · split
    · exact (mild_holdLegs ..).trans (mild_setBal _ _)
    · exact .refl s

theorem tests_shiftTimeout (s : State) : Tests s (shiftTimeout s) := by
  have stopped : Mild s (s.setPlan { s.plan with shiftTimer := none }) := mild_setPlan rfl
  unfold shiftTimeout
  split
  · dsimp only
    split
    · exact stopped.tests
    · exact (stopped.trans (mild_holdLegs ..)).tests.trans (tests_completeRecord ..)
  · exact .refl s

theorem tests_phaseTimerExpiry (l : Leg) (s : State) : Tests s (phaseTimerExpiry l s) := by
  unfold phaseTimerExpiry
  split
  · exact tests_timerRunsOut l s
  · exact .refl s

theorem mild_acceptSample (v : Vec3) (s : State) : Mild s (acceptSample v s) :=
  (((mild_setAtt s _).trans (mild_issue _)).trans (mild_setAtt _ _)).trans (mild_trigger _)

theorem mild_attitudeReadDone (x y z : Half) (v : Bool) (s : State) : Mild s (attitudeReadDone x y z v s) := by
  unfold attitudeReadDone
  split
  · exact .refl s
  · dsimp only
    split
    · exact (mild_setAtt s _).trans (mild_acceptSample ..)
    · exact mild_setAtt ..

theorem mild_goStale (s : State) : Mild s (goStale s) := by
  have staled := mild_setAtt s { s.att with stale := true }
  unfold goStale
  dsimp only
  refine .trans ?_ (mild_trigger _)
  refine .trans ?_ (mild_setAtt _ _)
  split
  · exact staled
  · exact (staled.trans (mild_raise ..)).trans (mild_bump ..)

theorem mild_tick (s : State) : Mild s (tick s) := by
  have legs : (tick s).legs = s.legs.map fun q : LegSeq => { q with timer := tickTimer q.timer } := rfl
  refine ⟨fun _ => id, rfl, rfl, rfl, rfl, fun l none => ?_, fun l => ?_, rfl⟩
  · rw [legs, Quad.get_map]
    exact none
  · rw [legs, Quad.get_map]

/-! ## The plan's requests -/

theorem mild_appendRecords (rs : List PlanRecord) (s : State) : Mild s (appendRecords rs s) := by
  have joined : Mild s (s.setPlan { s.plan with list := s.plan.list ++ rs }) := mild_setPlan rfl
  unfold appendRecords
  dsimp only
  split
  · exact joined.trans (mild_issue _)
  · exact joined

theorem tests_cut (kept : List PlanRecord) (s : State) : Tests s (idleIfEmpty (setPlanList kept s)) := by
  refine .trans ?_ (tests_idleIfEmpty _)
  exact Mild.tests (by exact mild_setPlan rfl)

/-- A plan that is activated waits for no settle until it stops (R83, R89). -/
theorem waits_setActive (standing : s.sup.mode = .standing) : SettleWaits (setPlanState .active s) := fun _ =>
  ⟨standing, fun stopped => by rcases stopped with h | h | h <;> cases h⟩

theorem tests_activate (s : State) : Tests (setPlanState .active s) (activate s) :=
  (mild_issue _).tests.trans (tests_idleIfEmpty _)

end

end Sys2Proof.Machine
end

section
/-! THE TABLE OF MODES. Each command with the row of R142 that it takes, if it takes one; what SAFE_HOLD is entered with, and the settle
that waits (R142 to R150, R153). -/

namespace Sys2Proof.Machine

section
variable {s t u v : State} {c : Instr}

/-! ## The rows -/

/-- A drive's reply, or a load sample. -/
def Reports (c : Instr) : Prop := (∃ bytes, c = .driveReply bytes) ∨ ∃ l period, c = .loadSample l period

/-- A command that may find a fault that acts in a mode (R147). -/
def FindsFault (c : Instr) (m : Mode) : Prop :=
  Reports c ∨ c = .driveReplyTimeout ∨ (∃ l, c = .loadStale l) ∨ c = .attitudeLost ∧ m = .standing ∨
    c = .supportLost ∧ m = .standing ∨ c = .riseSettleTimeout ∧ (m = .rising ∨ m = .settling)

/-- A row of the table of modes, with the commands that take it (R142). -/
inductive ModeRow (c : Instr) (s t : State) : Prop
  | stands (was : s.sup.mode = .parked) (now : t.sup.mode = .rising) (cause : c = .stand)
  | risen (was : s.sup.mode = .rising) (now : t.sup.mode = .standing) (cause : Reports c)
  | risenSettles (was : s.sup.mode = .rising) (now : t.sup.mode = .settling) (cause : Reports c)
      (policy : s.sup.policy = .settle ∨ s.sup.pendingSettle = true)
  | settles (was : s.sup.mode = .standing) (now : t.sup.mode = .settling)
      (cause : c = .sit ∨ s.sup.pendingSettle = true ∨ c = .silenceExpiry ∧ s.sup.policy = .settle) (stopped : planRuns t = false)
  | sits (was : s.sup.mode = .safeHold) (now : t.sup.mode = .settling) (cause : c = .sit)
  | clears (was : s.sup.mode = .safeHold) (now : t.sup.mode = .standing) (cause : c = .clearHold)
  | parks (was : s.sup.mode = .settling) (now : t.sup.mode = .parked) (cause : ∃ bytes, c = .driveReply bytes)
  | holds (was : s.sup.mode ≠ .safeHold) (now : t.sup.mode = .safeHold) (cause : FindsFault c s.sup.mode)

/-- Nothing is left to act in SAFE_HOLD: no timer of a leg, a pre-shift or the Mode Supervisor runs, no settle or silence waits. -/
def Silent (s : State) : Prop :=
  (∀ l, (s.legs.get l).timer = none) ∧ s.bal.preshift = none ∧ s.sup.riseSettle = none ∧ s.sup.supportLost = none ∧
    s.sup.pendingSettle = false ∧ s.sup.silenceInRise = false ∧ s.link.silence = none

/-- From `s` a command has taken at most one row of the table; SAFE_HOLD, where entered, is silent; and no settle waits longer than it
must. -/
structure Turned (c : Instr) (s t : State) : Prop where
  waits : SettleWaits s → SettleWaits t
  row : (s.sup.mode = .safeHold → s.sup.pendingSettle = false) →
    t.sup.mode = s.sup.mode ∨ hasEvent t.ev.pending .modeChange = true ∧ ModeRow c s t
  silent : s.sup.mode ≠ .safeHold → t.sup.mode = .safeHold → Silent t

theorem Tests.turned (h : Tests s t) : Turned c s t where
  waits := h.waits
  row _ := by
    rcases h.goes.mode with ⟨mode, -⟩ | settled
    · exact .inl mode
    · exact .inr ⟨settled.raised, .settles settled.standing settled.mode (.inr (.inl settled.pending)) settled.stopped⟩
  silent outside held := by
    rcases h.goes.mode with ⟨mode, -⟩ | settled
    · exact absurd (mode.symm.trans held) outside
    · exact Mode.noConfusion (settled.mode.symm.trans held)

/-- What comes before may look at the mode, and change what the settle and the table do not look at. -/
theorem Turned.before (h : Turned c u t) (waits : SettleWaits s → SettleWaits u) (mode : u.sup.mode = s.sup.mode)
    (policy : u.sup.policy = s.sup.policy) (pending : u.sup.pendingSettle = s.sup.pendingSettle) : Turned c s t where
  waits held := h.waits (waits held)
  row clear := by
    rcases h.row (by rw [mode, pending]; exact clear) with same | ⟨raised, row⟩
    · exact .inl (same.trans mode)
    · refine .inr ⟨raised, ?_⟩
      cases row with
      | stands was now cause => exact .stands (mode ▸ was) now cause
      | risen was now cause => exact .risen (mode ▸ was) now cause
      | risenSettles was now cause from' => exact .risenSettles (mode ▸ was) now cause (by rwa [policy, pending] at from')
      | settles was now cause stopped => exact .settles (mode ▸ was) now (by rwa [policy, pending] at cause) stopped
      | sits was now cause => exact .sits (mode ▸ was) now cause
      | clears was now cause => exact .clears (mode ▸ was) now cause
      | parks was now cause => exact .parks (mode ▸ was) now cause
      | holds was now cause => exact .holds (mode ▸ was) now (mode ▸ cause)
  silent outside := h.silent (by rw [mode]; exact outside)

theorem Mild.turned (k : Mild s u) (h : Turned c u t) : Turned c s t :=
  h.before k.tests.waits k.mode k.policy k.pendingSettle

/-- What comes after may keep mode, settle, plan and silence. -/
theorem Turned.after (h : Turned c s u) (k : Mild u t) (silent : u.sup.mode = .safeHold → Silent u → Silent t) : Turned c s t where
  waits held := k.tests.waits (h.waits held)
  row clear := by
    rcases h.row clear with same | ⟨raised, row⟩
    · exact .inl (k.mode.trans same)
    · refine .inr ⟨k.flags _ raised, ?_⟩
      have mode := k.mode
      cases row with
      | stands was now cause => exact .stands was (mode.trans now) cause
      | risen was now cause => exact .risen was (mode.trans now) cause
      | risenSettles was now cause from' => exact .risenSettles was (mode.trans now) cause from'
      | settles was now cause stopped => exact .settles was (mode.trans now) cause (k.runs.trans stopped)
      | sits was now cause => exact .sits was (mode.trans now) cause
      | clears was now cause => exact .clears was (mode.trans now) cause
      | parks was now cause => exact .parks was (mode.trans now) cause
      | holds was now cause => exact .holds was (mode.trans now) cause
  silent outside held := silent (k.mode.symm.trans held) (h.silent outside (k.mode.symm.trans held))

/-- A command that changes no mode takes no row. -/
theorem turned_of_mode (waits : SettleWaits s → SettleWaits t) (mode : t.sup.mode = s.sup.mode) : Turned c s t :=
  ⟨waits, fun _ => .inl mode, fun outside held => absurd (mode.symm.trans held) outside⟩

theorem Silent.congr (h : Silent s) (legs : t.legs = s.legs) (preshift : t.bal.preshift = s.bal.preshift) (sup : t.sup = s.sup)
    (silence : t.link.silence = s.link.silence) : Silent t := by
  rw [Silent, legs, preshift, sup, silence]
  exact h

theorem silent_raise {e : Event} (h : Silent s) : Silent (raise e s) := by
  obtain ⟨es, tx, -, shown⟩ := raise_eq e s
  rw [shown]
  exact h

theorem silent_offerFault {k : FaultKind} {leg : Option Leg} (h : Silent s) : Silent (offerFault k leg s) := by
  rw [offerFault_frame]
  exact h

theorem mild_offerFault (k : FaultKind) (leg : Option Leg) (s : State) : Mild s (offerFault k leg s) := by
  rw [offerFault_frame]
  exact ⟨fun _ => id, rfl, rfl, rfl, rfl, fun _ => id, fun _ => rfl, rfl⟩

/-! ## Faults -/

/-- A fault report does nothing where the fault does not act, offers it in SAFE_HOLD, and enters SAFE_HOLD elsewhere (R147, R148). -/
theorem reportFault_cases (k : FaultKind) (leg : Option Leg) (u : State) : reportFault k leg u = u ∨
    u.sup.mode = .safeHold ∧ reportFault k leg u = offerFault k leg u ∨
    faultActs k u.sup.mode = true ∧ u.sup.mode ≠ .safeHold ∧ HoldsStillIn (offerFault k leg u) (reportFault k leg u) := by
  by_cases acts : faultActs k u.sup.mode = true
  · by_cases held : u.sup.mode = .safeHold
    · exact .inr (.inl ⟨held, reportFault_of_safeHold (held ▸ acts) held⟩)
    · exact .inr (.inr ⟨acts, held, reportFault_enters acts held⟩)
  · exact .inl (if_neg acts)

theorem HoldsStillIn.mode (h : HoldsStillIn s t) : t.sup.mode = .safeHold := by rw [h.sup]

theorem HoldsStillIn.silent (h : HoldsStillIn s t) : Silent t := by
  refine ⟨fun l => by rw [h.legs l], by rw [h.bal], by rw [h.sup], by rw [h.sup], by rw [h.sup], by rw [h.sup], by rw [h.link]⟩

/-- A fault that is found after a command's own turn. -/
theorem Turned.fault {k : FaultKind} {leg : Option Leg} (h : Turned c s u)
    (cause : faultActs k u.sup.mode = true → FindsFault c s.sup.mode) : Turned c s (reportFault k leg u) := by
  rcases reportFault_cases k leg u with same | ⟨-, offered⟩ | ⟨acts, outside, holds⟩
  · rw [same]
    exact h
  · rw [offered]
    exact h.after (mild_offerFault ..) fun _ => silent_offerFault
  · refine ⟨fun _ => .of_clear holds.silent.2.2.2.2.1, fun _ => ?_, fun _ _ => holds.silent⟩
    by_cases held : s.sup.mode = .safeHold
    · exact .inl (holds.mode.trans held.symm)
    · exact .inr ⟨holds.raised, .holds held holds.mode (cause acts)⟩

/-! ## The rise and the settle -/

/-- From `s` the plan has been drained and a settle made pending under the SETTLE policy (R153). -/
structure Silenced (s t : State) : Prop where
  flags : ∀ e, hasEvent s.ev.pending e = true → hasEvent t.ev.pending e = true
  waits : SettleWaits s → SettleWaits t
  reached : Unreached s → Unreached t
  mode : t.sup.mode = s.sup.mode ∨ s.sup.mode = .standing ∧ t.sup.mode = .settling ∧ planRuns t = false ∧
    Unreached t ∧ hasEvent t.ev.pending .modeChange = true ∧ (s.sup.policy = .settle ∨ s.sup.pendingSettle = true)

theorem silenced_setPendingSettle (s : State) : Silenced s (setPendingSettle (drain s)) := by
  have drained := tests_drain s
  generalize drain s = w at drained
  unfold setPendingSettle
  split
  case isTrue both =>
    obtain ⟨policy, standing⟩ := both
    have same : w.sup.mode = s.sup.mode := by
      rcases drained.goes.mode with ⟨mode, -⟩ | settled
      · exact mode
      · exact Mode.noConfusion (settled.mode.symm.trans standing)
    have goes := goes_settleTest (w.setSup { w.sup with pendingSettle := true })
    refine ⟨fun e set => goes.flags e (drained.goes.flags e set), fun _ => settleTest_waits fun _ => standing,
      fun none l => goes.reached l (drained.goes.reached l (none l)), ?_⟩
    rcases goes.mode with ⟨mode, -⟩ | settled
    · exact .inl (mode.trans same)
    · exact .inr ⟨same.symm.trans standing, settled.mode, settled.stopped, settled.unreached, settled.raised,
        .inl (drained.goes.policy ▸ policy)⟩
  case isFalse =>
    refine ⟨drained.goes.flags, drained.waits, fun none l => drained.goes.reached l (none l), ?_⟩
    rcases drained.goes.mode with ⟨mode, -⟩ | settled
    · exact .inl mode
    · exact .inr ⟨settled.standing, settled.mode, settled.stopped, settled.unreached, settled.raised, .inr settled.pending⟩

/-- From `s`, in RISING, the rise has been completed, and settled where a silence or a settle waited (R144, R153). -/
structure Risen (s t : State) : Prop where
  was : s.sup.mode = .rising
  raised : hasEvent t.ev.pending .modeChange = true
  waits : s.sup.pendingSettle = false → SettleWaits t
  mode : t.sup.mode = .standing ∨
    t.sup.mode = .settling ∧ Unreached t ∧ (s.sup.policy = .settle ∨ s.sup.pendingSettle = true)

theorem mild_startSupportLost (s : State) : Mild s (startSupportLost s) := by
  unfold startSupportLost
  split
  · exact ⟨fun _ => id, rfl, rfl, rfl, rfl, fun _ => id, fun _ => rfl, rfl⟩
  · exact .refl s

theorem risen_riseTest (done : riseDone s = true) : Risen s (riseTest s) := by
  have was : s.sup.mode = .rising := by
    simp only [riseDone, Bool.and_eq_true, decide_eq_true_iff] at done
    exact done.1.1
  obtain ⟨es, tx, raised, moded⟩ := changeMode_eq .standing (s.setSup { s.sup with riseSettle := none })
  have shown : riseTest s = applySilenceInRise (startSupportLost (phaseChanged
      (setAllPhases .stance (changeMode .standing (s.setSup { s.sup with riseSettle := none }))))) := if_pos done
  rw [shown]
  have start : let v := setAllPhases .stance (changeMode .standing (s.setSup { s.sup with riseSettle := none }))
      v.sup.mode = .standing ∧ v.sup.pendingSettle = s.sup.pendingSettle ∧ v.sup.policy = s.sup.policy ∧
        hasEvent v.ev.pending .modeChange = true := by
    rw [moded]
    exact ⟨rfl, Bool.and_true _, rfl, raised⟩
  generalize setAllPhases .stance (changeMode .standing (s.setSup { s.sup with riseSettle := none })) = v at start ⊢
  obtain ⟨standing, pending, policy, told⟩ := start
  have tests : Tests v (startSupportLost (phaseChanged v)) := (tests_phaseChanged v).trans (mild_startSupportLost _).tests
  have waiting : SettleWaits (startSupportLost (phaseChanged v)) :=
    (mild_startSupportLost _).tests.waits (settleTest_waits fun pends => (mild_issue v).goes.mode.elim
      (fun same => same.1.trans standing) fun settled => Bool.noConfusion (pends.symm.trans settled.cleared))
  generalize startSupportLost (phaseChanged v) = w at tests waiting ⊢
  have here : w.sup.mode = .standing ∧ w.sup.pendingSettle = s.sup.pendingSettle ∨
      w.sup.mode = .settling ∧ Unreached w ∧ s.sup.pendingSettle = true := by
    rcases tests.goes.mode with ⟨mode, same⟩ | settled
    · exact .inl ⟨mode.trans standing, same.trans pending⟩
    · exact .inr ⟨settled.mode, settled.unreached, pending ▸ settled.pending⟩
  have flagged := tests.goes.flags _ told
  unfold applySilenceInRise
  split
  case isFalse =>
    refine ⟨was, flagged, fun _ => waiting, ?_⟩
    exact here.imp And.left fun h => ⟨h.1, h.2.1, .inr h.2.2⟩
  case isTrue =>
    have silenced := silenced_setPendingSettle (w.setSup { w.sup with silenceInRise := false })
    generalize setPendingSettle (drain (w.setSup { w.sup with silenceInRise := false })) = x at silenced
    refine ⟨was, silenced.flags _ flagged, fun _ => silenced.waits waiting, ?_⟩
    rcases silenced.mode with same | ⟨stood, settling, -, unreached, -, from'⟩
    · rcases here with ⟨stood, -⟩ | ⟨settling, unreached, pends⟩
      · exact .inl (same.trans stood)
      · exact .inr ⟨same.trans settling, silenced.reached unreached, .inr pends⟩
    · refine .inr ⟨settling, unreached, ?_⟩
      have wPolicy : w.sup.policy = s.sup.policy := tests.goes.policy.trans policy
      rcases here with ⟨-, wPending⟩ | ⟨mode, -⟩
      · exact from'.imp (fun h => wPolicy ▸ h) fun h => wPending ▸ h
      · exact Mode.noConfusion (mode.symm.trans stood)

/-- The test for rise complete, after what keeps a report's or a reply's other effects (R144). -/
theorem riseTest_cases (s : State) : riseTest s = s ∨ Risen s (riseTest s) := by
  cases done : riseDone s with
  | true => exact .inr (risen_riseTest done)
  | false => exact .inl (if_neg (by rw [done]; decide))

/-- What a report or a reply does up to the test for rise complete: with it, no leg of a settle it has begun has reached. -/
theorem Tests.rise (h : Tests s u) (reports : Reports c) :
    Turned c s (riseTest u) ∧
      ((riseTest u).sup.mode = .settling → s.sup.mode = .settling ∧ riseTest u = u ∨ Unreached (riseTest u)) := by
  rcases riseTest_cases u with same | risen
  · rw [same]
    refine ⟨h.turned, fun settling => ?_⟩
    rcases h.goes.mode with ⟨mode, -⟩ | settled
    · exact .inl ⟨mode.symm.trans settling, rfl⟩
    · exact .inr settled.unreached
  · have was : u.sup.mode = s.sup.mode ∧ u.sup.pendingSettle = s.sup.pendingSettle :=
      h.goes.mode.elim id fun settled => Mode.noConfusion (settled.mode.symm.trans risen.was)
    obtain ⟨mode, pending⟩ := was
    have rising : s.sup.mode = .rising := mode.symm.trans risen.was
    refine ⟨⟨fun held => risen.waits ?_, fun _ => .inr ⟨risen.raised, ?_⟩, fun _ held => ?_⟩, fun settling => ?_⟩
    · rw [pending]
      cases pends : s.sup.pendingSettle with
      | false => rfl
      | true => exact Mode.noConfusion ((held pends).1.symm.trans rising)
    · rcases risen.mode with standing | ⟨settling, -, from'⟩
      · exact .risen rising standing reports
      · exact .risenSettles rising settling reports (by rwa [h.goes.policy, pending] at from')
    · rcases risen.mode with standing | ⟨settling, -⟩
      · exact Mode.noConfusion (standing.symm.trans held)
      · exact Mode.noConfusion (settling.symm.trans held)
    · rcases risen.mode with standing | ⟨-, unreached, -⟩
      · exact Mode.noConfusion (standing.symm.trans settling)
      · exact .inr unreached

theorem settleCompleteTest_of_unreached (unreached : Unreached s) : settleCompleteTest s = s :=
  if_neg fun done => Bool.noConfusion ((unreached .fl).symm.trans ((Quad.all_iff _ _).mp done.2 .fl))

/-- A settle complete is PARKED with the plan IDLE (R146). -/
theorem settleCompleteTest_cases (s : State) : settleCompleteTest s = s ∨ s.sup.mode = .settling ∧
    (settleCompleteTest s).sup.mode = .parked ∧ (settleCompleteTest s).sup.pendingSettle = false ∧
    hasEvent (settleCompleteTest s).ev.pending .modeChange = true := by
  unfold settleCompleteTest
  split
  case isTrue done =>
    obtain ⟨es, tx, raised, moded⟩ := changeMode_eq .parked (s.setSup { s.sup with riseSettle := none })
    dsimp only
    rw [moded]
    exact .inr ⟨done.1, rfl, Bool.and_false _, raised⟩
  case isFalse => exact .inl rfl

/-! ## Replies and samples -/

/-- The drive state test may find a fault after all that a reply completes (R139). -/
theorem turned_driveStateTest {l : Leg} {before : Option LastReply} {now : DriveState} (h : Turned c s u)
    (cause : faultActs .driveFault u.sup.mode = true → FindsFault c s.sup.mode) : Turned c s (driveStateTest l before now u) := by
  have raised : Turned c s (reportFault .driveFault (some l) (raise .driveFault u)) :=
    (h.after (mild_raise ..) fun _ => silent_raise).fault fun acts => cause (by rwa [(mild_raise .driveFault u).mode] at acts)
  unfold driveStateTest
  cases before with
  | none =>
    dsimp only
    split
    · exact raised
    · exact h
  | some r =>
    dsimp only
    split
    · exact raised
    · exact h

theorem turned_goodReply (l : Leg) (pos : Vec3) (st : DriveState) (flag : Bool) (s : State) (bytes : List Byte) :
    Turned (.driveReply bytes) s (goodReply l pos st flag s) := by
  have reports : Reports (.driveReply bytes) := .inl ⟨bytes, rfl⟩
  unfold goodReply
  refine turned_driveStateTest ?_ fun _ => .inl reports
  unfold seqReply
  dsimp only
  have taken : Mild s (setLine .idle (modDrive l (fun d => { d with pos := pos, last := some ⟨st, flag⟩, timeouts := 0, poll := Config.pollMs }) s)) :=
    (mild_setBus s _).trans (mild_setBus _ _)
  generalize setLine .idle (modDrive l (fun d => { d with pos := pos, last := some ⟨st, flag⟩, timeouts := 0, poll := Config.pollMs }) s) = x at taken
  generalize passesReached (x.legs.get l) x.gait.tolerance pos st flag = pass
  refine taken.turned ?_
  have phase : ∀ q : LegSeq, (q.takeReply pass st).phase = q.phase := fun q => by
    unfold LegSeq.takeReply
    split <;> rfl
  have kept := (steady_modLeg l (fun q => q.takeReply pass st) x phase)
  have waits : SettleWaits x → SettleWaits (modLeg l (fun q => q.takeReply pass st) x) := fun held => by
    intro pending
    obtain ⟨standing, some⟩ := held pending
    refine ⟨standing, fun stopped => (some stopped).imp fun m off => ?_⟩
    rw [kept.phase]
    exact off
  have sup : (modLeg l (fun q => q.takeReply pass st) x).sup = x.sup := rfl
  generalize modLeg l (fun q => q.takeReply pass st) x = y at waits sup
  refine Turned.before (u := y) ?_ waits (by rw [sup]) (by rw [sup]) (by rw [sup])
  have tests : Tests y (shiftTest (preshiftTest (replyActs l pass (takeDerating l st y)))) :=
    (((mild_takeDerating l st y).tests.trans (tests_replyActs ..)).trans (mild_preshiftTest _).tests).trans (tests_shiftTest _)
  generalize shiftTest (preshiftTest (replyActs l pass (takeDerating l st y))) = u at tests
  obtain ⟨turned, settling⟩ := tests.rise reports
  rcases settleCompleteTest_cases (riseTest u) with same | ⟨mode, now, clear, raised⟩
  · rw [same]
    exact turned
  · rcases settling mode with ⟨was, -⟩ | unreached
    · exact ⟨fun _ => .of_clear clear, fun _ => .inr ⟨raised, .parks was now ⟨bytes, rfl⟩⟩,
        fun _ held => Mode.noConfusion (now.symm.trans held)⟩
    · rw [settleCompleteTest_of_unreached unreached]
      exact turned

theorem turned_closeFailed {c : Instr} (x : Txn) (s : State) (cause : FindsFault c s.sup.mode) : Turned c s (closeFailed x s) := by
  have failed : Turned c s (countFailure x.leg s) := by
    unfold countFailure
    dsimp only
    split
    · exact (Mild.refl s).tests.turned
    · have counted : Mild s (modDrive x.leg (fun d => { d with timeouts := (s.bus.drives.get x.leg).timeouts + 1 }) s) := mild_setBus ..
      split
      · exact (counted.trans (mild_raise ..)).tests.turned.fault fun _ => cause
      · exact counted.tests.turned
  unfold closeFailed
  generalize countFailure x.leg s = v at failed
  have sent : Mild v (resend x v) ∧ (Silent v → Silent (resend x v)) := by
    unfold resend
    split
    · exact ⟨mild_setBus .., fun h => h⟩
    · exact ⟨.refl v, id⟩
  exact failed.after (sent.1.trans (mild_setBus _ _)) fun _ held => sent.2 held

/-- The bytes of a reply collect, and close one transaction at most: the bus is then no longer in a reply window (R127, R135). -/
theorem driveReply_cases (bytes : List Byte) (s : State) : ∃ line,
    driveReply bytes s = setLine line s ∨ (∃ x, driveReply bytes s = badReply x (setLine line s)) ∨
      ∃ l pos st flag, driveReply bytes s = goodReply l pos st flag (setLine line s) := by
  have after : ∀ (bytes : List Byte) (s : State), (∀ x n got, s.bus.line ≠ .window x n got) → driveReply bytes s = s := by
    intro bytes
    induction bytes with
    | nil => exact fun _ _ => rfl
    | cons b rest ih =>
      intro s closed
      have same : busByte b s = s := by
        unfold busByte
        split
        case h_1 x n got line => exact absurd line (closed x n got)
        all_goals rfl
      rw [driveReply, same, ih s closed]
  induction bytes generalizing s with
  | nil => exact ⟨s.bus.line, .inl rfl⟩
  | cons b rest ih =>
    cases line : s.bus.line with
    | window x n got =>
      have taken : busByte b s = setLine (.window x n (got ++ [b])) s ∨ busByte b s = setLine (.window x n []) s ∨
          busByte b s = badReply x s ∨ ∃ pos st flag, busByte b s = goodReply x.leg pos st flag s := by
        rw [busByte, line]
        dsimp only
        split
        · exact .inl rfl
        · cases judgeReply x (got ++ [b]) with
          | bad => exact .inr (.inr (.inl rfl))
          | stray => exact .inr (.inl rfl)
          | good pos st flag => exact .inr (.inr (.inr ⟨pos, st, flag, rfl⟩))
      have here : setLine s.bus.line s = s := rfl
      rcases taken with same | same | same | ⟨pos, st, flag, same⟩
      · obtain ⟨line', h⟩ := ih (setLine (.window x n (got ++ [b])) s)
        exact ⟨line', by rw [driveReply, same]; exact h⟩
      · obtain ⟨line', h⟩ := ih (setLine (.window x n []) s)
        exact ⟨line', by rw [driveReply, same]; exact h⟩
      · refine ⟨s.bus.line, .inr (.inl ⟨x, ?_⟩)⟩
        rw [driveReply, same, here]
        exact after rest _ fun _ _ _ window => BusLine.noConfusion window
      · refine ⟨s.bus.line, .inr (.inr ⟨x.leg, pos, st, flag, ?_⟩)⟩
        rw [driveReply, same, here]
        refine after rest _ fun _ _ _ window => ?_
        have calm := (((((calm_seqReply x.leg pos st flag (setLine .idle (modDrive x.leg (fun d =>
          { d with pos := pos, last := some ⟨st, flag⟩, timeouts := 0, poll := Config.pollMs }) s))).trans (calm_preshiftTest _)).trans
            (calm_shiftTest _)).trans (calm_riseTest _)).trans (calm_settleCompleteTest _)).trans
              (calm_driveStateTest x.leg (s.bus.drives.get x.leg).last st _)
        have idle : (goodReply x.leg pos st flag s).bus.line = .idle := calm.quiet.line
        exact BusLine.noConfusion (idle.symm.trans window)
    | idle | sending | guard =>
      refine ⟨s.bus.line, .inl ?_⟩
      exact after (b :: rest) s fun _ _ _ window => BusLine.noConfusion (line.symm.trans window)

theorem turned_driveReply (bytes : List Byte) (s : State) : Turned (.driveReply bytes) s (driveReply bytes s) := by
  obtain ⟨line, same | ⟨x, same⟩ | ⟨l, pos, st, flag, same⟩⟩ := driveReply_cases bytes s
  · rw [same]
    exact (mild_setBus ..).tests.turned
  · rw [same]
    have counted : Mild s (bump .driveCrcErrors (setLine line s)) := (mild_setBus s _).trans (mild_bump ..)
    exact counted.turned (turned_closeFailed x _ (.inl (.inl ⟨bytes, rfl⟩)))
  · rw [same]
    exact (show Mild s (setLine line s) from mild_setBus ..).turned (turned_goodReply ..)

theorem turned_driveReplyTimeout (s : State) : Turned .driveReplyTimeout s (driveReplyTimeout s) := by
  unfold driveReplyTimeout
  split
  · exact (mild_bump .driveTimeouts s).turned (turned_closeFailed _ _ (.inr (.inl rfl)))
  all_goals exact (Mild.refl s).tests.turned

/-- An invalid load, found by a sample or by a stale timer (R24, R31). -/
theorem turned_takeInvalid {c : Instr} (l : Leg) (s : State) (cause : FindsFault c s.sup.mode) : Turned c s (takeInvalid l s) := by
  by_cases fault : (s.feet.get l).contact = .fault
  · rw [takeInvalid_of_fault fault]
    exact (mild_setFeet ..).tests.turned
  · rw [takeInvalid_of_entry fault]
    have mild : Mild s (entered l { s.feet.get l with lastLoad := 0 } s) :=
      (mild_setFeet s _).trans ((mild_bump ..).trans (mild_raise ..))
    have foot : ((entered l { s.feet.get l with lastLoad := 0 } s).feet.get l).contact = .fault := by
      have feet := (steady_raise .sensorFault (bump .loadSensorFaults (s.setFeet (s.feet.set l
        { s.feet.get l with lastLoad := 0, contact := .fault, qualify := 0, slip := 0 })))).feet
      have shown : (entered l { s.feet.get l with lastLoad := 0 } s).feet = s.feet.set l
        { s.feet.get l with lastLoad := 0, contact := .fault, qualify := 0, slip := 0 } := feet
      rw [shown, Quad.get_set_self]
    dsimp only
    generalize entered l { s.feet.get l with lastLoad := 0 } s = u at mild foot
    have alone : contactReport l .fault u = issue (balanceReport l .fault u) := contactReport_of_other nofun nofun foot
    have unfaulted : Turned c s (contactReport l .fault u) := by
      rw [alone]
      exact ((mild.trans (balances_balanceReport l .fault u).1.mild).trans (mild_issue _)).tests.turned
    split
    case isFalse => exact unfaulted
    case isTrue =>
      have found : Turned c s (reportFault .loadSensor (some l) u) := mild.tests.turned.fault fun _ => cause
      have inHold : ∀ v, Turned c s v → v.sup.mode = .safeHold → Turned c s (contactReport l .fault v) := fun v turned held => by
        obtain ⟨balances, -⟩ := balances_balanceReport l .fault v
        rw [contactReport_of_safeHold held]
        refine turned.after balances.mild fun _ ⟨timers, preshift, rise, lost, pending, silence, link⟩ => ?_
        refine ⟨fun m => by rw [balances.legs]; exact timers m, balances.preshift.trans preshift, balances.riseSettle.trans rise,
          balances.lost (by rw [held]; exact Mode.noConfusion) lost, balances.pendingSettle.trans pending, ?_, by rw [balances.link]; exact link⟩
        rw [balances.mild.silenceInRise]
        exact silence
      rcases reportFault_cases .loadSensor (some l) u with same | ⟨held, offered⟩ | ⟨-, -, holds⟩
      · rw [same]
        exact unfaulted
      · refine inHold _ found ?_
        rw [offered, (mild_offerFault ..).mode]
        exact held
      · exact inHold _ found holds.mode

theorem turned_loadSample (l : Leg) (period : Nat) (s : State) : Turned (.loadSample l period) s (loadSample l period s) := by
  have reports : Reports (.loadSample l period) := .inr ⟨l, period, rfl⟩
  unfold loadSample
  cases (s.feet.get l).measurement with
  | waiting => exact (mild_setFeet ..).tests.turned
  | measuring high =>
    dsimp only
    have taken : Mild s (modFoot l (fun f => { f with measurement := .measuring none, stale := some Config.loadStaleMs }) s) := mild_setFeet ..
    refine taken.turned ?_
    generalize modFoot l (fun f => { f with measurement := .measuring none, stale := some Config.loadStaleMs }) s = u
    cases classify (high.getD period) period with
    | valid load =>
      show Turned _ u (takeValid l load u)
      unfold takeValid
      dsimp only
      split
      · exact (mild_setFeet ..).tests.turned
      · generalize judgeSample (recordInForce u l) load _ = g
        exact (mild_modFoot l (fun _ => g) u).turned ((tests_report l g.contact _).rise reports).1
    | badPeriod | openCircuit | short => exact turned_takeInvalid l u (.inl reports)

theorem turned_loadStale (l : Leg) (s : State) : Turned (.loadStale l) s (loadStale l s) := by
  unfold loadStale
  split
  · exact (mild_modFoot l _ s).turned (turned_takeInvalid l _ (.inr (.inr (.inl ⟨l, rfl⟩))))
  · exact (Mild.refl s).tests.turned

end

end Sys2Proof.Machine
end

section
/-! THE TABLE OF MODES, every command: the requests and the timers that take a row, then all of them (R142 to R153). -/

namespace Sys2Proof.Machine

section
variable {s t u : State} {c : Instr}

/-! ## Timers that find a fault, and the silence -/

theorem mild_setAttLost (s : State) : Mild s (s.setAtt { s.att with lostTimer := s.balCfg.lostLimit }) := mild_setAtt ..

theorem turned_attitudeLost (s : State) : Turned .attitudeLost s (attitudeLost s) := by
  unfold attitudeLost
  split
  · refine (mild_setAttLost s).tests.turned.fault fun acts => ?_
    exact .inr (.inr (.inr (.inl ⟨rfl, of_decide_eq_true acts⟩)))
  · exact (Mild.refl s).tests.turned

theorem mild_setTimers (s : State) (rise lost : Option Nat) : Mild s (s.setSup { s.sup with riseSettle := rise, supportLost := lost }) :=
  ⟨fun _ => id, rfl, rfl, rfl, rfl, fun _ => id, fun _ => rfl, rfl⟩

theorem turned_supportLostExpiry (s : State) : Turned .supportLost s (supportLostExpiry s) := by
  have stopped : Mild s (s.setSup { s.sup with supportLost := none }) := mild_setTimers s s.sup.riseSettle none
  unfold supportLostExpiry
  split
  · refine stopped.tests.turned.fault fun acts => ?_
    exact .inr (.inr (.inr (.inr (.inl ⟨rfl, of_decide_eq_true acts⟩))))
  · exact (Mild.refl s).tests.turned

theorem turned_riseSettleTimeout (s : State) : Turned .riseSettleTimeout s (riseSettleTimeout s) := by
  have stopped : Mild s (s.setSup { s.sup with riseSettle := none }) := mild_setTimers s none s.sup.supportLost
  have found : ∀ k, s.sup.mode = .rising ∨ s.sup.mode = .settling →
      Turned .riseSettleTimeout s (reportFault k none (s.setSup { s.sup with riseSettle := none })) := fun k mode =>
    stopped.tests.turned.fault fun _ => .inr (.inr (.inr (.inr (.inr ⟨rfl, mode⟩))))
  unfold riseSettleTimeout
  split
  · dsimp only
    split
    case h_1 mode => exact found _ (.inl mode)
    case h_2 mode => exact found _ (.inr mode)
    all_goals exact stopped.tests.turned
  · exact (Mild.refl s).tests.turned

theorem Silenced.turned (h : Silenced s t) : Turned .silenceExpiry s t where
  waits := h.waits
  row _ := by
    rcases h.mode with same | ⟨was, now, stopped, -, raised, cause⟩
    · exact .inl same
    · exact .inr ⟨raised, .settles was now (.inr (cause.symm.imp id fun policy => ⟨rfl, policy⟩)) stopped⟩
  silent outside held := by
    rcases h.mode with same | ⟨-, now, -⟩
    · exact absurd (same.symm.trans held) outside
    · exact Mode.noConfusion (now.symm.trans held)

theorem turned_silenceExpiry (s : State) : Turned .silenceExpiry s (silenceExpiry s) := by
  unfold silenceExpiry
  split
  · have told : Mild s (raise .silence (stopSilence s)) := (mild_setLink s _).trans (mild_raise ..)
    refine told.turned ?_
    generalize raise .silence (stopSilence s) = u
    unfold silenceActs
    split
    · exact (silenced_setPendingSettle u).turned
    · exact turned_of_mode id rfl
    all_goals exact (Mild.refl u).tests.turned
  · exact (Mild.refl s).tests.turned

/-! ## The requests that take a row -/

theorem EntersSettling.clear (h : EntersSettling s t) :
    t.sup.mode = .settling ∧ t.sup.pendingSettle = false ∧ planRuns t = planRuns s := by
  rw [h.frame]
  exact ⟨rfl, rfl, rfl⟩

theorem turned_sit (sits : s.sup.mode = .standing ∧ planRuns s = false ∨ s.sup.mode = .safeHold) : Turned .sit s (enterSettling s) := by
  have settling := entersSettling s
  obtain ⟨now, clear, plan⟩ := settling.clear
  refine ⟨fun _ => .of_clear clear, fun _ => .inr ⟨settling.raised, ?_⟩, fun _ held => Mode.noConfusion (now.symm.trans held)⟩
  rcases sits with ⟨was, stopped⟩ | was
  · exact .settles was now (.inl rfl) (plan.trans stopped)
  · exact .sits was now rfl

theorem turned_stand (k : SurfaceClass) (parked : s.sup.mode = .parked) : Turned .stand s (standUp k s) := by
  have rises := rises_standUp k s
  have now : (standUp k s).sup.mode = .rising := by rw [rises.frame]; rfl
  have clear : (standUp k s).sup.pendingSettle = false := by rw [rises.frame]; rfl
  exact ⟨fun _ => .of_clear clear, fun _ => .inr ⟨rises.raised, .stands parked now rfl⟩, fun _ held => Mode.noConfusion (now.symm.trans held)⟩

/-- An accepted CLEAR_HOLD is a move to STANDING with what it calls for (R149). -/
theorem clearHold_tests (s : State) : ∃ v, v.sup.mode = .standing ∧ v.sup.pendingSettle = s.sup.pendingSettle ∧
    hasEvent v.ev.pending .modeChange = true ∧ Tests v (clearHold s) := by
  obtain ⟨es, tx, raised, moded⟩ := changeMode_eq .standing s
  refine ⟨setAllPhases .stance (changeMode .standing s), ?_, ?_, ?_, (tests_phaseChanged _).trans (mild_startSupportLost _).tests⟩
  · rw [moded]; rfl
  · rw [moded]; exact Bool.and_true _
  · rw [moded]; exact raised

theorem clearHold_leaves (s : State) : (clearHold s).sup.mode ≠ .safeHold := by
  obtain ⟨v, standing, -, -, tests⟩ := clearHold_tests s
  rcases tests.goes.mode with ⟨mode, -⟩ | settled
  · rw [mode, standing]
    exact Mode.noConfusion
  · rw [settled.mode]
    exact Mode.noConfusion

theorem turned_clearHold (held : s.sup.mode = .safeHold) : Turned .clearHold s (clearHold s) := by
  obtain ⟨v, standing, pending, told, tests⟩ := clearHold_tests s
  have still : s.sup.pendingSettle = false → (clearHold s).sup.mode = .standing ∧ (clearHold s).sup.pendingSettle = false := fun clear => by
    rcases tests.goes.mode with ⟨mode, same⟩ | settled
    · exact ⟨mode.trans standing, same.trans (pending.trans clear)⟩
    · exact Bool.noConfusion ((pending.trans clear).symm.trans settled.pending)
  refine ⟨fun waits => ?_, fun clear => ?_, fun outside => absurd held outside⟩
  · have clear : s.sup.pendingSettle = false := by
      cases pends : s.sup.pendingSettle with
      | false => rfl
      | true => exact Mode.noConfusion ((waits pends).1.symm.trans held)
    exact .of_clear (still clear).2
  · exact .inr ⟨tests.goes.flags _ told, .clears held (still (clear held)).1 rfl⟩

theorem LinkMoves.turned (h : LinkMoves s t) : Turned c s t := by
  refine turned_of_mode (fun held => ?_) (by rw [h.sup])
  rw [h.rest]
  exact held

theorem Served.turned (h : Served c s t) : Turned c s t := by
  cases h with
  | unchanged => exact (Mild.refl s).tests.turned
  | geometry | surface | balance | gait => exact turned_of_mode id rfl
  | supervision =>
    rw [takeSupervision_eq]
    exact turned_of_mode id rfl
  | stand parked => exact turned_stand _ parked
  | sit sits => exact turned_sit sits
  | clearHold held => exact turned_clearHold held
  | motion parked => exact turned_of_mode (fun _ => .of_clear rfl) rfl
  | append => exact (mild_appendRecords ..).tests.turned
  | activate standing => exact (tests_activate s).turned.before (fun _ => waits_setActive standing) rfl rfl rfl
  | drain => exact (tests_drain s).turned
  | cut => exact (tests_cut ..).turned
  | report => exact Mild.tests (by exact mild_setPlan rfl) |>.turned
  | mask =>
    refine turned_of_mode (fun held => ?_) ?_
    · unfold replaceMask requestNotice
      dsimp only
      split <;> try split
      all_goals exact held
    · unfold replaceMask requestNotice
      dsimp only
      split <;> try split
      all_goals rfl
  | ack | clearFault | clearCounters => exact turned_of_mode id rfl

/-! ## Every command -/

theorem turned_done (done : Done c s t) (noReset : ¬ resetsPart c s) : Turned c s t := by
  cases done with
  | untaken => exact (Mild.refl s).tests.turned
  | taken _ _ served =>
    exact (Mild.turned (mild_setLink s _) served.turned).after (mild_setLink _ _) fun _ h => h
  | powerOnReset a b i => exact absurd (.inl ⟨a, b, i, rfl⟩) noReset
  | timeBaseTick => exact (mild_tick s).tests.turned
  | linkByte => exact (linkMoves_linkByte ..).turned
  | gapTimerExpiry => exact (linkMoves_gapTimerExpiry s).turned
  | frameSendStart => exact (linkMoves_frameSendStart s).turned
  | frameSendEnd =>
    unfold frameSendEnd
    split
    case h_1 => exact (Mild.refl s).tests.turned
    case h_2 f sending =>
      split
      case isTrue full => exact absurd (.inr ⟨rfl, f, sending, full⟩) noReset
      case isFalse => exact (mild_setLink ..).tests.turned
  | silenceExpiry => exact turned_silenceExpiry s
  | loadSample => exact turned_loadSample ..
  | loadStale => exact turned_loadStale ..
  | slipPulse => exact (tests_slipPulse ..).turned
  | attitudeReadStart =>
    unfold attitudeReadStart
    split
    · exact (mild_setAtt ..).tests.turned
    · exact (Mild.refl s).tests.turned
  | attitudeReadDone => exact (mild_attitudeReadDone ..).tests.turned
  | attitudeReadTimeout =>
    unfold attitudeReadTimeout
    split
    · exact (mild_setAtt ..).tests.turned
    · exact (Mild.refl s).tests.turned
  | attitudeStaleExpiry =>
    unfold attitudeStaleExpiry
    split
    · exact (mild_goStale s).tests.turned
    · exact (Mild.refl s).tests.turned
  | attitudeLost => exact turned_attitudeLost s
  | evaluationComplete => exact (tests_evaluationComplete s).turned
  | braceTaken => exact (tests_braceTaken s).turned
  | preshiftTimeout => exact (mild_preshiftTimeout s).tests.turned
  | shiftTimeout => exact (tests_shiftTimeout s).turned
  | phaseTimerExpiry => exact (tests_phaseTimerExpiry ..).turned
  | driveTransactionSend =>
    unfold driveTransactionSend
    split
    · exact (mild_setBus ..).tests.turned
    · exact (Mild.refl s).tests.turned
  | driveRequestSent =>
    unfold driveRequestSent
    split
    · exact Mild.tests (by exact mild_setBus ..) |>.turned
    all_goals exact (Mild.refl s).tests.turned
  | driveReply => exact turned_driveReply ..
  | driveReplyTimeout => exact turned_driveReplyTimeout s
  | guardEnd =>
    unfold guardEnd
    split
    · exact Mild.tests (by exact mild_setBus ..) |>.turned
    all_goals exact (Mild.refl s).tests.turned
  | pollTimerExpiry =>
    unfold pollTimerExpiry pollDrive
    split
    · dsimp only
      split
      · exact Mild.tests (by exact mild_setBus ..) |>.turned
      · refine Mild.tests (Mild.trans ?_ (mild_setBus _ _)) |>.turned
        exact mild_setBus ..
    · exact (Mild.refl s).tests.turned
  | riseSettleTimeout => exact turned_riseSettleTimeout s
  | supportLost => exact turned_supportLostExpiry s
  | loadFallingEdge =>
    unfold loadFallingEdge
    split
    · exact (mild_modFoot ..).tests.turned
    all_goals exact (Mild.refl s).tests.turned

theorem settleWaits_done (held : SettleWaits s) (done : Done c s t) : SettleWaits t := by
  by_cases reset : resetsPart c s
  · obtain ⟨rate, flip, rfl⟩ := resetsPart_done done reset
    exact .of_clear rfl
  · exact (turned_done done reset).waits held

theorem stopped_of_not_runs (stopped : planRuns s = false) :
    s.plan.state = .idle ∨ s.plan.state = .suspended ∨ s.plan.state = .braced := by
  rw [planRuns, decide_eq_false_iff_not] at stopped
  cases state : s.plan.state with
  | active => exact absurd (.inl state) stopped
  | draining => exact absurd (.inr state) stopped
  | idle => exact .inl rfl
  | suspended => exact .inr (.inl rfl)
  | braced => exact .inr (.inr rfl)

/-- Settles O55: the settle that waits and the row each command takes, from what the command has turned. -/
theorem modeFollowsItsTable : Obligations.ModeFollowsItsTable := by
  unfold Obligations.ModeFollowsItsTable
  refine ⟨fun s t held stepped => step_keeps (P := SettleWaits) (fun _ _ h => h) (fun _ _ _ h done => settleWaits_done h done) held stepped,
    fun c s t held executed noReset moved => ?_⟩
  have silent : s.sup.mode = .safeHold → s.sup.pendingSettle = false := fun mode => by
    obtain ⟨-, -, still⟩ := held
    obtain ⟨-, -, -, -, pending, -⟩ := still mode
    exact pending
  intro replies samples
  obtain ⟨raised, row⟩ := ((turned_done (done_of_exec executed) noReset).row silent).resolve_left moved
  refine ⟨raised, ?_⟩
  cases row with
  | stands was now cause => rw [was, now]; exact cause
  | risen was now cause => rw [was, now]; exact cause
  | risenSettles was now cause policy => rw [was, now]; exact ⟨cause, policy⟩
  | settles was now cause stopped => rw [was, now]; exact ⟨cause, stopped_of_not_runs stopped⟩
  | sits was now cause => rw [was, now]; exact cause
  | clears was now cause => rw [was, now]; exact cause
  | parks was now cause => rw [was, now]; exact cause
  | holds was now cause =>
    rw [now]
    rw [FindsFault, Reports, or_assoc] at cause
    cases mode : s.sup.mode with
    | safeHold => exact absurd mode was
    | parked | rising | standing | settling => rw [mode] at cause; exact cause

end

end Sys2Proof.Machine
end

section
/-! SAFE_HOLD HOLDS STILL. With nothing left to act, no command in SAFE_HOLD but SIT, CLEAR_HOLD and a reset moves a leg or starts a
timer (R98, R147). -/

namespace Sys2Proof.Machine

section
variable {s t u : State} {c : Instr}

/-- From `s` to `t` the mode, and each leg's phase, motion and commanded target, are kept, and what is silent stays so. -/
structure Still (s t : State) : Prop where
  mode : t.sup.mode = s.sup.mode
  silent : Silent s → Silent t
  legs : ∀ l, (t.legs.get l).phase = (s.legs.get l).phase ∧ (t.legs.get l).motion = (s.legs.get l).motion ∧
    (t.legs.get l).commanded = (s.legs.get l).commanded

theorem Still.refl (s : State) : Still s s := ⟨rfl, id, fun _ => ⟨rfl, rfl, rfl⟩⟩

theorem Still.trans (h : Still s t) (k : Still t u) : Still s u where
  mode := k.mode.trans h.mode
  silent held := k.silent (h.silent held)
  legs l := by
    obtain ⟨phase, motion, commanded⟩ := h.legs l
    obtain ⟨phase', motion', commanded'⟩ := k.legs l
    exact ⟨phase'.trans phase, motion'.trans motion, commanded'.trans commanded⟩

theorem still_of_same (sup : t.sup = s.sup) (legs : t.legs = s.legs) (preshift : t.bal.preshift = s.bal.preshift)
    (silence : t.link.silence = s.link.silence) : Still s t :=
  ⟨by rw [sup], fun held => held.congr legs preshift sup silence, fun l => by rw [legs]; exact ⟨rfl, rfl, rfl⟩⟩

theorem Balances.still (h : Balances s t) (held : s.sup.mode = .safeHold) : Still s t where
  mode := h.mode
  silent := fun ⟨timers, preshift, rise, lost, pending, silence, link⟩ =>
    ⟨fun l => by rw [h.legs]; exact timers l, h.preshift.trans preshift, h.riseSettle.trans rise,
      h.lost (by rw [held]; exact Mode.noConfusion) lost, h.pendingSettle.trans pending, h.mild.silenceInRise.trans silence,
      by rw [h.link]; exact link⟩
  legs l := by rw [h.legs]; exact ⟨rfl, rfl, rfl⟩

theorem still_raise (e : Event) (s : State) : Still s (raise e s) := by
  obtain ⟨es, tx, -, shown⟩ := raise_eq e s
  rw [shown]
  exact still_of_same rfl rfl rfl rfl

theorem still_trigger (s : State) : Still s (trigger s) := by
  unfold trigger
  split <;> exact still_of_same rfl rfl rfl rfl

/-- In SAFE_HOLD a fault is offered at most (R148). -/
theorem still_reportFault (k : FaultKind) (leg : Option Leg) (held : s.sup.mode = .safeHold) : Still s (reportFault k leg s) := by
  rcases reportFault_cases k leg s with same | ⟨-, offered⟩ | ⟨-, outside, -⟩
  · rw [same]
    exact .refl s
  · rw [offered, offerFault_frame]
    exact still_of_same rfl rfl rfl rfl
  · exact absurd held outside

theorem still_contactReport (l : Leg) (k : Contact) (held : s.sup.mode = .safeHold) : Still s (contactReport l k s) := by
  rw [contactReport_of_safeHold held]
  exact (balances_balanceReport l k s).1.still held

theorem issue_of_safeHold (held : s.sup.mode = .safeHold) : issue s = s := issue_of_mode (by rw [held]; exact Mode.noConfusion)

theorem settleTest_of_safeHold (held : s.sup.mode = .safeHold) : settleTest s = s :=
  if_neg fun h => Mode.noConfusion (held.symm.trans h.2.1)

/-! ## Commands -/

theorem still_takeInvalid (l : Leg) (held : s.sup.mode = .safeHold) : Still s (takeInvalid l s) := by
  by_cases fault : (s.feet.get l).contact = .fault
  · rw [takeInvalid_of_fault fault]
    exact still_of_same rfl rfl rfl rfl
  · rw [takeInvalid_of_entry fault]
    have still : Still s (entered l { s.feet.get l with lastLoad := 0 } s) := by
      refine .trans ?_ (still_raise ..)
      exact still_of_same rfl rfl rfl rfl
    dsimp only
    generalize entered l { s.feet.get l with lastLoad := 0 } s = u at still
    have mode := still.mode.trans held
    split
    · have found := still_reportFault .loadSensor (some l) mode
      exact (still.trans found).trans (still_contactReport l .fault (found.mode.trans mode))
    · exact still.trans (still_contactReport l .fault mode)

theorem still_takeValid (l : Leg) (load : Nat) (held : s.sup.mode = .safeHold) : Still s (takeValid l load s) := by
  unfold takeValid
  dsimp only
  generalize judgeSample (recordInForce s l) load _ = g
  have judged : Still s (modFoot l (fun _ => g) s) := still_of_same rfl rfl rfl rfl
  split
  · exact judged
  · exact judged.trans (still_contactReport l g.contact held)

theorem still_loadSample (l : Leg) (period : Nat) (held : s.sup.mode = .safeHold) : Still s (loadSample l period s) := by
  unfold loadSample
  cases (s.feet.get l).measurement with
  | waiting => exact still_of_same rfl rfl rfl rfl
  | measuring high =>
    dsimp only
    have taken : Still s (modFoot l (fun f => { f with measurement := .measuring none, stale := some Config.loadStaleMs }) s) :=
      still_of_same rfl rfl rfl rfl
    refine taken.trans ?_
    have mode := taken.mode.trans held
    generalize modFoot l (fun f => { f with measurement := .measuring none, stale := some Config.loadStaleMs }) s = u at mode
    cases classify (high.getD period) period with
    | valid load => exact still_takeValid l load mode
    | badPeriod | openCircuit | short => exact still_takeInvalid l mode

theorem still_loadStale (l : Leg) (held : s.sup.mode = .safeHold) : Still s (loadStale l s) := by
  unfold loadStale
  split
  · have stopped : Still s (modFoot l (fun f => { f with stale := none, measurement := .waiting }) s) := still_of_same rfl rfl rfl rfl
    exact stopped.trans (still_takeInvalid l (stopped.mode.trans held))
  · exact .refl s

theorem still_slipPulse (l : Leg) (held : s.sup.mode = .safeHold) : Still s (slipPulse l s) := by
  unfold slipPulse
  dsimp only
  split
  · split
    · have slipped : Still s (bump .slips (raise .slip (modFoot l (fun g => { g with contact := .slipping, slip := g.slip + 1 }) s))) := by
        refine .trans (.trans ?_ (still_raise .slip (modFoot l (fun g => { g with contact := .slipping, slip := g.slip + 1 }) s)))
          (still_of_same rfl rfl rfl rfl)
        exact still_of_same rfl rfl rfl rfl
      exact slipped.trans (still_contactReport l .slipping (slipped.mode.trans held))
    · exact still_of_same rfl rfl rfl rfl
  · exact .refl s

theorem still_attitudeReadDone (x y z : Half) (v : Bool) (held : s.sup.mode = .safeHold) : Still s (attitudeReadDone x y z v s) := by
  unfold attitudeReadDone
  split
  · exact .refl s
  · dsimp only
    split
    · unfold acceptSample
      dsimp only
      rw [issue_of_safeHold (by exact held)]
      refine .trans ?_ (still_trigger _)
      exact still_of_same rfl rfl rfl rfl
    · exact still_of_same rfl rfl rfl rfl

theorem still_goStale (s : State) : Still s (goStale s) := by
  have staled : Still s (s.setAtt { s.att with stale := true }) := still_of_same rfl rfl rfl rfl
  unfold goStale
  dsimp only
  refine .trans ?_ (still_trigger _)
  split
  · exact still_of_same rfl rfl rfl rfl
  · have raised := staled.trans (still_raise .sensorFault _)
    refine raised.trans ?_
    exact still_of_same rfl rfl rfl rfl

theorem still_evaluationComplete (held : s.sup.mode = .safeHold) : Still s (evaluationComplete s) := by
  have tested : ∀ b fig s, Still s (braceTest b fig s) := fun b fig s => by
    unfold braceTest
    split
    · split
      · split
        · exact still_of_same rfl rfl rfl rfl
        · exact still_of_same rfl rfl rfl rfl
      · exact still_of_same rfl rfl rfl rfl
    · exact still_of_same rfl rfl rfl rfl
  have next : ∀ s, Still s (nextEvaluation s) := fun s => by
    unfold nextEvaluation
    split
    · exact still_of_same rfl rfl rfl rfl
    · exact .refl s
  unfold evaluationComplete
  split
  · exact .refl s
  case h_2 e _ =>
    dsimp only
    have judged : Still s (braceTest e.balCfg (figuresOf e) (s.setBal { s.bal with held := figuresOf e, eval := none })) :=
      .trans (still_of_same (t := s.setBal { s.bal with held := figuresOf e, eval := none }) rfl rfl rfl rfl) (tested ..)
    generalize braceTest e.balCfg (figuresOf e) (s.setBal { s.bal with held := figuresOf e, eval := none }) = u at judged
    have none : considerGrants e u = u := if_neg fun h => Mode.noConfusion ((judged.mode.trans held).symm.trans h.1)
    rw [none]
    exact judged.trans (next u)

/-- A reply that is good changes nothing in SAFE_HOLD but drive, derating and reached flag (R98, R121). -/
theorem still_goodReply (l : Leg) (pos : Vec3) (st : DriveState) (flag : Bool) (held : s.sup.mode = .safeHold) (silent : Silent s)
    (window : s.plan.window = []) : Still s (goodReply l pos st flag s) := by
  have modLegs : ∀ (f : LegSeq → LegSeq) (v : State), (∀ q, (f q).phase = q.phase ∧ (f q).motion = q.motion ∧
      (f q).commanded = q.commanded ∧ (f q).timer = q.timer) → Still v (modLeg l f v) := fun f v same => by
    have each : ∀ m, ((modLeg l f v).legs.get m).phase = (v.legs.get m).phase ∧
        ((modLeg l f v).legs.get m).motion = (v.legs.get m).motion ∧ ((modLeg l f v).legs.get m).commanded = (v.legs.get m).commanded ∧
        ((modLeg l f v).legs.get m).timer = (v.legs.get m).timer := fun m => by
      rw [modLeg, State.setLegs_legs, Quad.get_set]
      split
      case isTrue here => subst here; exact same _
      case isFalse => exact ⟨rfl, rfl, rfl, rfl⟩
    refine ⟨rfl, fun ⟨timers, rest⟩ => ⟨fun m => ?_, rest⟩, fun m => ?_⟩
    · obtain ⟨-, -, -, timer⟩ := each m
      exact timer.trans (timers m)
    · obtain ⟨phase, motion, commanded, -⟩ := each m
      exact ⟨phase, motion, commanded⟩
  unfold goodReply
  dsimp only
  have taken : Still s (setLine .idle (modDrive l (fun d => { d with pos := pos, last := some ⟨st, flag⟩, timeouts := 0, poll := Config.pollMs }) s)) :=
    still_of_same rfl rfl rfl rfl
  have plan : (setLine .idle (modDrive l (fun d => { d with pos := pos, last := some ⟨st, flag⟩, timeouts := 0, poll := Config.pollMs }) s)).plan.window = [] :=
    window
  generalize setLine .idle (modDrive l (fun d => { d with pos := pos, last := some ⟨st, flag⟩, timeouts := 0, poll := Config.pollMs }) s) = x at taken plan
  have replied : Still x (seqReply l pos st flag x) ∧ (seqReply l pos st flag x).plan = x.plan := by
    unfold seqReply
    dsimp only
    generalize passesReached (x.legs.get l) x.gait.tolerance pos st flag = pass
    have flagged : Still x (modLeg l (fun q => q.takeReply pass st) x) := modLegs _ x fun q => by
      unfold LegSeq.takeReply
      split <;> exact ⟨rfl, rfl, rfl, rfl⟩
    have planned : (modLeg l (fun q => q.takeReply pass st) x).plan = x.plan := rfl
    have mode := flagged.mode.trans (taken.mode.trans held)
    generalize modLeg l (fun q => q.takeReply pass st) x = y at flagged planned mode
    have derated : takeDerating l st y = modLeg l (fun p => { p with derating := decide (st = .hot) }) y := by
      unfold takeDerating
      dsimp only
      split
      · rfl
      · exact if_neg fun h => h.2.2.2 mode
    have acts : replyActs l pass (takeDerating l st y) = takeDerating l st y := if_pos (by rw [derated]; exact mode)
    rw [acts, derated]
    exact ⟨flagged.trans (modLegs _ y fun _ => ⟨rfl, rfl, rfl, rfl⟩), planned⟩
  obtain ⟨still, samePlan⟩ := replied
  generalize seqReply l pos st flag x = y at still samePlan
  have all := taken.trans still
  have mode := all.mode.trans held
  obtain ⟨-, preshift, -⟩ := all.silent silent
  have noPreshift : preshiftTest y = y := by rw [preshiftTest, preshift]
  have noShift : shiftTest y = y := by rw [shiftTest, samePlan, plan]; rfl
  rw [noPreshift, noShift, riseTest_of_mode (by rw [mode]; exact Mode.noConfusion)]
  have noSettle : settleCompleteTest y = y := if_neg fun h => Mode.noConfusion (mode.symm.trans h.1)
  rw [noSettle]
  have fault : Still y (reportFault .driveFault (some l) (raise .driveFault y)) :=
    (still_raise ..).trans (still_reportFault _ _ ((still_raise ..).mode.trans mode))
  unfold driveStateTest
  split
  · dsimp only
    split
    · exact all.trans fault
    · exact all
  · dsimp only
    split
    · exact all.trans fault
    · exact all

theorem still_closeFailed (x : Txn) (held : s.sup.mode = .safeHold) : Still s (closeFailed x s) := by
  have counted : Still s (countFailure x.leg s) := by
    unfold countFailure
    dsimp only
    split
    · exact .refl s
    · have rises : Still s (modDrive x.leg (fun d => { d with timeouts := (s.bus.drives.get x.leg).timeouts + 1 }) s) :=
        still_of_same rfl rfl rfl rfl
      split
      · have raised := rises.trans (still_raise .driveFault _)
        exact raised.trans (still_reportFault _ _ (raised.mode.trans held))
      · exact rises
  unfold closeFailed
  refine counted.trans ?_
  generalize countFailure x.leg s = v
  unfold resend
  split <;> exact still_of_same rfl rfl rfl rfl

theorem LinkMoves.still (h : LinkMoves s t) (held : s.sup.mode = .safeHold) : Still s t := by
  have silence := h.silence.resolve_right (by rw [held]; decide)
  refine still_of_same h.sup ?_ ?_ silence
  · rw [h.rest]; rfl
  · rw [h.rest]; rfl

theorem Served.still (h : Served c s t) (held : s.sup.mode = .safeHold) (stopped : planRuns s = false)
    (stays : c ≠ .sit ∧ c ≠ .clearHold ∨ t.sup.mode = .safeHold) : Still s t := by
  have inactive : s.plan.state ≠ .active := fun active => Bool.noConfusion ((runs_of_active active).symm.trans stopped)
  cases h with
  | unchanged => exact .refl s
  | geometry parked | surface parked | balance parked | gait parked | stand parked | motion parked =>
    exact Mode.noConfusion (held.symm.trans parked)
  | supervision =>
    rw [takeSupervision_eq]
    refine ⟨rfl, fun ⟨timers, preshift, rise, lost, pending, waiting, silence⟩ => ?_, fun _ => ⟨rfl, rfl, rfl⟩⟩
    refine ⟨timers, preshift, rise, lost, pending, waiting, ?_⟩
    rw [State.setLink_link, held]
    split
    · rfl
    · exact silence
  | sit =>
    obtain ⟨now, -⟩ := (entersSettling s).clear
    exact stays.elim (fun h => absurd rfl h.1) fun hold => Mode.noConfusion (now.symm.trans hold)
  | clearHold => exact stays.elim (fun h => absurd rfl h.2) fun hold => absurd hold (clearHold_leaves s)
  | append =>
    rw [appendRecords_of_kept _ (.inl inactive)]
    exact still_of_same rfl rfl rfl rfl
  | activate standing => exact Mode.noConfusion (held.symm.trans standing)
  | drain => rw [show Machine.drain s = s from if_neg inactive]; exact .refl s
  | cut =>
    rw [idleIfEmpty_eq, if_neg fun h => inactive h.1]
    exact still_of_same rfl rfl rfl rfl
  | report => exact still_of_same rfl rfl rfl rfl
  | mask =>
    unfold replaceMask requestNotice
    dsimp only
    split <;> try split
    all_goals exact still_of_same rfl rfl rfl rfl
  | ack | clearFault | clearCounters => exact still_of_same rfl rfl rfl rfl

theorem still_done (done : Done c s t) (held : s.sup.mode = .safeHold) (silent : Silent s) (stopped : planRuns s = false)
    (window : s.plan.window = []) (stays : c ≠ .sit ∧ c ≠ .clearHold ∨ t.sup.mode = .safeHold) (noReset : ¬ resetsPart c s) : Still s t := by
  have quiet := silent
  obtain ⟨timers, preshift, rise, lost, -, -, silence⟩ := quiet
  cases done with
  | untaken => exact .refl s
  | taken _ _ served =>
    refine .trans (.trans ?_ (served.still held stopped stays)) (still_of_same rfl rfl rfl rfl)
    exact still_of_same rfl rfl rfl rfl
  | powerOnReset a b i => exact absurd (.inl ⟨a, b, i, rfl⟩) noReset
  | timeBaseTick =>
    have legs : (tick s).legs = s.legs.map fun q : LegSeq => { q with timer := tickTimer q.timer } := rfl
    refine ⟨rfl, fun ⟨timers, preshift, rise, lost, pending, waiting, silence⟩ => ?_, fun l => ?_⟩
    · refine ⟨fun l => ?_, ?_, ?_, ?_, pending, waiting, ?_⟩
      · rw [legs, Quad.get_map, timers l]
        rfl
      · exact congrArg (Option.map _) preshift
      · exact congrArg tickTimer rise
      · exact congrArg tickTimer lost
      · exact congrArg tickTimer silence
    · rw [legs, Quad.get_map]
      exact ⟨rfl, rfl, rfl⟩
  | linkByte => exact (linkMoves_linkByte ..).still held
  | gapTimerExpiry => exact (linkMoves_gapTimerExpiry s).still held
  | frameSendStart => exact (linkMoves_frameSendStart s).still held
  | frameSendEnd =>
    unfold frameSendEnd
    split
    case h_1 => exact .refl s
    case h_2 f sending =>
      split
      case isTrue full => exact absurd (.inr ⟨rfl, f, sending, full⟩) noReset
      case isFalse => exact still_of_same rfl rfl rfl rfl
  | silenceExpiry => rw [silenceExpiry, silence]; exact .refl s
  | loadSample => exact still_loadSample _ _ held
  | loadStale => exact still_loadStale _ held
  | slipPulse => exact still_slipPulse _ held
  | attitudeReadStart =>
    unfold attitudeReadStart
    split
    · exact still_of_same rfl rfl rfl rfl
    · exact .refl s
  | attitudeReadDone => exact still_attitudeReadDone _ _ _ _ held
  | attitudeReadTimeout =>
    unfold attitudeReadTimeout
    split
    · exact still_of_same rfl rfl rfl rfl
    · exact .refl s
  | attitudeStaleExpiry =>
    unfold attitudeStaleExpiry
    split
    · exact still_goStale s
    · exact .refl s
  | attitudeLost =>
    unfold attitudeLost
    split
    · exact .trans (still_of_same (t := s.setAtt { s.att with lostTimer := s.balCfg.lostLimit }) rfl rfl rfl rfl) (still_reportFault _ _ held)
    · exact .refl s
  | evaluationComplete => exact still_evaluationComplete held
  | braceTaken =>
    unfold braceTaken
    split
    · dsimp only
      rw [if_neg (by rw [stopped]; decide), issue_of_safeHold (by exact held)]
      exact still_of_same rfl rfl rfl rfl
    · exact .refl s
  | preshiftTimeout => rw [preshiftTimeout, preshift]; exact .refl s
  | shiftTimeout =>
    unfold shiftTimeout
    split
    · have none : ((s.setPlan { s.plan with shiftTimer := none }).plan.window.find? fun w => decide (w.cond = .running)) = none := by
        rw [State.setPlan_plan, window]
        rfl
      dsimp only
      rw [none]
      exact still_of_same rfl rfl rfl rfl
    · exact .refl s
  | phaseTimerExpiry l => rw [phaseTimerExpiry, timers l]; exact .refl s
  | driveTransactionSend =>
    unfold driveTransactionSend
    split
    · exact still_of_same rfl rfl rfl rfl
    · exact .refl s
  | driveRequestSent =>
    unfold driveRequestSent
    split
    · exact still_of_same rfl rfl rfl rfl
    all_goals exact .refl s
  | driveReply bytes =>
    obtain ⟨line, same | ⟨x, same⟩ | ⟨l, pos, st, flag, same⟩⟩ := driveReply_cases bytes s
    · rw [same]
      exact still_of_same rfl rfl rfl rfl
    · rw [same]
      have counted : Still s (bump .driveCrcErrors (setLine line s)) := still_of_same rfl rfl rfl rfl
      exact counted.trans (still_closeFailed x held)
    · rw [same]
      have collected : Still s (setLine line s) := still_of_same rfl rfl rfl rfl
      exact collected.trans (still_goodReply l pos st flag held (collected.silent silent) window)
  | driveReplyTimeout =>
    unfold driveReplyTimeout
    split
    · have counted : Still s (bump .driveTimeouts s) := still_of_same rfl rfl rfl rfl
      exact counted.trans (still_closeFailed _ held)
    all_goals exact .refl s
  | guardEnd =>
    unfold guardEnd
    split
    · exact still_of_same rfl rfl rfl rfl
    all_goals exact .refl s
  | pollTimerExpiry =>
    unfold pollTimerExpiry pollDrive
    split
    · dsimp only
      split <;> exact still_of_same rfl rfl rfl rfl
    · exact .refl s
  | riseSettleTimeout => rw [riseSettleTimeout, rise]; exact .refl s
  | supportLost => rw [supportLostExpiry, lost]; exact .refl s
  | loadFallingEdge =>
    unfold loadFallingEdge
    split
    · exact still_of_same rfl rfl rfl rfl
    all_goals exact .refl s

/-! ## The invariant -/

theorem stands_blank (geo : Geometry) : (Board.blank geo).Stands :=
  ⟨fun runs => absurd (Board.runs_iff.mp runs) (by simp [Board.blank]), fun _ => rfl⟩

theorem holdsStill_iff (s : State) : HoldsStill s ↔ (board s).Stands ∧ (s.sup.mode = .safeHold → Silent s) := by
  have window : (board s).window = [] ↔ s.plan.window = [] := List.map_eq_nil_iff
  have runs : PlanStands s ↔ ((board s).runs = true → (board s).mode = .standing) := Iff.rfl
  constructor
  · rintro ⟨stands, empty, silent⟩
    exact ⟨⟨runs.mp stands, fun still => window.mpr (empty still)⟩, silent⟩
  · rintro ⟨⟨stands, empty⟩, silent⟩
    exact ⟨runs.mpr stands, fun still => window.mp (empty still), silent⟩

theorem holdsStill_done (held : HoldsStill s) (done : Done c s t) : HoldsStill t := by
  rw [holdsStill_iff] at held ⊢
  obtain ⟨stands, silent⟩ := held
  by_cases reset : resetsPart c s
  · obtain ⟨rate, flip, rfl⟩ := resetsPart_done done reset
    refine ⟨?_, fun hold => Mode.noConfusion hold⟩
    rw [board_powerOnValues]
    exact stands_blank _
  · have turned := turned_done done reset
    refine ⟨?_, fun hold => ?_⟩
    · rcases course_of_done done with course | ⟨geo, blank⟩
      · exact stands_course course stands
      · rw [blank]
        exact stands_blank geo
    · by_cases was : s.sup.mode = .safeHold
      · have stopped : planRuns s = false := by
          cases runs : planRuns s with
          | false => rfl
          | true => exact Mode.noConfusion ((stands.standing runs).symm.trans was)
        have window : s.plan.window = [] := List.map_eq_nil_iff.mp (stands.empty stopped)
        exact (still_done done was (silent was) stopped window (.inr hold) reset).silent (silent was)
      · exact turned.silent was hold

/-- Settles O56: the invariant command by command, and from it that a command in SAFE_HOLD moves no leg. -/
theorem safeHoldHoldsStill : Obligations.SafeHoldHoldsStill := by
  unfold Obligations.SafeHoldHoldsStill
  refine ⟨fun s t held stepped => step_keeps (P := HoldsStill) (fun _ _ h => h) (fun _ _ _ h done => holdsStill_done h done) held stepped,
    fun c s t held hold executed notSit notClear noReset => ?_⟩
  obtain ⟨stands, empty, silent⟩ := held
  have stopped : planRuns s = false := by
    cases runs : planRuns s with
    | false => rfl
    | true => exact Mode.noConfusion ((stands runs).symm.trans hold)
  have still := still_done (done_of_exec executed) hold (silent hold) stopped (empty stopped) (.inl ⟨notSit, notClear⟩) noReset
  exact ⟨still.mode.trans hold, still.legs⟩

end

end Sys2Proof.Machine
end

section
/-! EVALUATIONS. What the completion of an evaluation holds, and its brace test (R48, R50, R53, R57, R58, R61 to R63). -/

namespace Sys2Proof.Machine

section
variable {s t : State} {e : EvalInputs}

/-! ## Blocks of a completion -/

/-- The moves of the arbiter begin no evaluation. -/
theorem eval_flow {g : Prop} {x y : Option Leg} {b c : Board} (h : Flow g (x, b) (y, c)) (idle : b.eval = none) : c.eval = none := by
  have kept : ∀ p : Option Leg × Board, Flow g (x, b) p → p.2.eval = none := by
    intro p moves
    induction moves with
    | refl => exact idle
    | tail _ last ih =>
      cases last with
      | plan move =>
        cases move with
        | forget => exact Option.map_eq_none_iff.mpr ih
        | _ => exact ih
      | _ => exact ih
  exact kept _ h

theorem board_eval_eq_none : (board s).eval = none ↔ s.bal.eval = none := Option.map_eq_none_iff

/-- The state with the figures of a completed evaluation held (R50). -/
def heldFigures (e : EvalInputs) (s : State) : State := s.setBal { s.bal with held := figuresOf e, eval := none }

theorem exec_evaluationComplete (running : s.bal.eval = some e) :
    exec .evaluationComplete s = .next (nextEvaluation (considerGrants e (braceTest e.balCfg (figuresOf e) (heldFigures e s)))) := by
  show Host.Outcome.next (evaluationComplete s) = _
  unfold evaluationComplete
  rw [running]
  rfl

/-- The brace test replaces the below count and the brace-outstanding flag at most. -/
theorem braceTest_frame (b : BalanceCfg) (fig : Figures) (s : State) :
    braceTest b fig s = s.setBal { s.bal with
      below := (braceTest b fig s).bal.below, braceOut := (braceTest b fig s).bal.braceOut } := by
  unfold braceTest
  split
  · split
    · split <;> rfl
    · rfl
  · rfl

theorem braceTest_of_idle (b : BalanceCfg) (fig : Figures) (stopped : s.sup.mode ≠ .standing ∨ planRuns s = false) :
    braceTest b fig s = setBelow 0 s := by
  unfold braceTest
  rw [if_neg fun h => stopped.elim (fun other => other h.1) fun off => Bool.false_ne_true (off.symm.trans h.2)]

theorem considerGrants_of_idle (e : EvalInputs) (stopped : s.sup.mode ≠ .standing ∨ planRuns s = false) :
    considerGrants e s = s := by
  unfold considerGrants
  rw [if_neg fun h => stopped.elim (fun other => other h.1) fun off => Bool.false_ne_true (off.symm.trans h.2.1)]

theorem considerGrants_of_braceOut (e : EvalInputs) (out : s.bal.braceOut = true) : considerGrants e s = s := by
  unfold considerGrants
  rw [if_neg fun h => Bool.false_ne_true (h.2.2.1.symm.trans out)]

theorem considerGrants_of_runs (e : EvalInputs) (standing : s.sup.mode = .standing) (runs : planRuns s = true)
    (free : s.bal.braceOut = false) (still : s.bal.preshift = none) : considerGrants e s = arbiter e e.requests [] s := by
  unfold considerGrants
  rw [if_pos ⟨standing, runs, free, still⟩]

theorem eval_considerGrants (e : EvalInputs) (idle : s.bal.eval = none) : (considerGrants e s).bal.eval = none := by
  have idle' := board_eval_eq_none.mpr idle
  unfold considerGrants
  split
  · exact board_eval_eq_none.mp (eval_flow (flow_arbiter e _ _ _ idle') idle')
  · exact idle

/-- The next evaluation begins exactly where a trigger was taken meanwhile (R48). -/
theorem nextEvaluation_cases (s : State) :
    s.bal.evalPending = false ∧ nextEvaluation s = s ∨
    s.bal.evalPending = true ∧ nextEvaluation s = s.setBal { s.bal with
      evalPending := false, eval := some (readInputs (s.setBal { s.bal with evalPending := false })) } := by
  unfold nextEvaluation
  split
  case isTrue pending => exact .inr ⟨pending, rfl⟩
  case isFalse none => exact .inl ⟨Bool.not_eq_true _ ▸ none, rfl⟩

theorem nextEvaluation_of_clear (clear : s.bal.evalPending = false) : nextEvaluation s = s := by
  unfold nextEvaluation
  rw [clear]
  rfl

/-! ## The held figures -/

/-- The figures of an evaluation, from its support set taken round the body (R49, R53). -/
theorem figuresOf_eq (e : EvalInputs) :
    let loaded := ([.fl, .rl, .rr, .fr] : List Leg).filter fun l => e.support.get l
    let p := pressurePoint e
    let m := marginOf (loaded.map fun l => e.feet.get l) p.1 p.2
    figuresOf e = ⟨p.1, p.2, m.margin, loaded.length, m.degenerate, m.noSupport, requiredMargin e loaded⟩ := rfl

/-- What a completion keeps and replaces whatever it decides (R48, R50). -/
theorem evaluationComplete_spec (s : State) (e : EvalInputs) (running : s.bal.eval = some e) :
    ∃ t, exec .evaluationComplete s = .next t ∧ t.bal.held = figuresOf e ∧ t.bal.support = s.bal.support ∧
      t.att = s.att ∧ t.bus.drives = s.bus.drives ∧ t.bal.evalPending = false ∧
      (s.bal.evalPending = false → t.bal.eval = none) ∧ (s.bal.evalPending = true → t.bal.eval ≠ none) := by
  refine ⟨_, exec_evaluationComplete running, ?_⟩
  have tested := braceTest_frame e.balCfg (figuresOf e) (heldFigures e s)
  generalize braceTest e.balCfg (figuresOf e) (heldFigures e s) = x at tested ⊢
  have before : x.bal.held = figuresOf e ∧ x.bal.support = s.bal.support ∧ x.att = s.att ∧ x.bus.drives = s.bus.drives ∧
      x.bal.evalPending = s.bal.evalPending ∧ x.bal.eval = none := by
    rw [tested]
    exact ⟨rfl, rfl, rfl, rfl, rfl, rfl⟩
  obtain ⟨figures, support, att, drives, pending, idle⟩ := before
  have calm := calm_considerGrants e x
  have still := eval_considerGrants e idle
  have asked : (considerGrants e x).bal.evalPending = s.bal.evalPending := calm.evalPending.trans pending
  have held := calm.figures.trans figures
  have support' := calm.support.trans support
  have att' := calm.quiet.att.trans att
  have drives' := calm.quiet.drives.trans drives
  generalize considerGrants e x = y at still asked held support' att' drives'
  rcases nextEvaluation_cases y with ⟨clear, next⟩ | ⟨set, next⟩ <;> rw [next]
  · exact ⟨held, support', att', drives', clear, fun _ => still, fun set => absurd (set.symm.trans (asked.symm.trans clear)) nofun⟩
  · exact ⟨held, support', att', drives', rfl, fun clear => absurd (clear.symm.trans (asked.symm.trans set)) nofun, fun _ => nofun⟩

/-- Settles O33: the arbiter keeps what a completion holds, and nothing is decided where the plan does not run. -/
theorem evaluationCompletes : Obligations.EvaluationCompletes := by
  unfold Obligations.EvaluationCompletes
  refine ⟨figuresOf_eq, fun s e running => ⟨evaluationComplete_spec s e running, fun clear stopped => ?_⟩⟩
  rw [exec_evaluationComplete running, braceTest_of_idle _ _ (by exact stopped), considerGrants_of_idle e (by exact stopped),
    nextEvaluation_of_clear (by exact clear)]
  rfl

/-! ## The brace test -/

/-- A margin is low as R63 spells it out. -/
theorem belowBrace_iff (b : BalanceCfg) (fig : Figures) :
    belowBrace b fig = true ↔
      (3 ≤ fig.count ∧ fig.margin < b.brace34 ∨ fig.count = 2 ∧ fig.margin < b.brace2 ∨ fig.count < 2) := by
  unfold belowBrace
  split
  case isTrue three => rw [decide_eq_true_iff]; omega
  case isFalse few =>
    split
    case isTrue two => rw [decide_eq_true_iff]; omega
    case isFalse => exact iff_of_true rfl (by omega)

theorem braceTest_of_low {b : BalanceCfg} {fig : Figures} (standing : s.sup.mode = .standing) (runs : planRuns s = true)
    (low : belowBrace b fig = true) :
    braceTest b fig s =
      if b.braceCount ≤ s.bal.below + 1 then setBelow 0 (requestBrace s) else setBelow (s.bal.below + 1) s := by
  unfold braceTest
  rw [if_pos ⟨standing, runs⟩, if_pos low]

theorem braceTest_of_clear {b : BalanceCfg} {fig : Figures} (standing : s.sup.mode = .standing) (runs : planRuns s = true)
    (clear : belowBrace b fig = false) : braceTest b fig s = setBelow 0 s := by
  unfold braceTest
  rw [if_pos ⟨standing, runs⟩, clear]
  rfl

/-- After the brace test the below count stays, for neither grants nor the next evaluation touch it. -/
theorem below_evaluationComplete (e : EvalInputs) (s : State) :
    (nextEvaluation (considerGrants e s)).bal.below = s.bal.below := by
  refine .trans ?_ (calm_considerGrants e s).below
  rcases nextEvaluation_cases (considerGrants e s) with ⟨-, next⟩ | ⟨-, next⟩ <;> rw [next]
  rfl

/-- Settles O34, by the branches of the brace test. -/
theorem braceTest_counts : Obligations.BraceTest := by
  unfold Obligations.BraceTest
  intro s e running standing runs fig low
  have low_iff : belowBrace e.balCfg fig = true ↔ low := belowBrace_iff ..
  have runs' : planRuns (heldFigures e s) = true := runs
  refine ⟨_, exec_evaluationComplete running, fun isLow enough => ?_, fun isLow few => ?_, fun notLow => ?_⟩
  · rw [braceTest_of_low (by exact standing) runs' (low_iff.mpr isLow), if_pos (by exact enough), considerGrants_of_braceOut _ rfl]
    rcases nextEvaluation_cases (setBelow 0 (requestBrace (heldFigures e s))) with ⟨-, next⟩ | ⟨-, next⟩ <;> rw [next] <;>
      exact ⟨rfl, rfl, rfl, rfl, rfl, rfl⟩
  · rw [below_evaluationComplete, braceTest_of_low (by exact standing) runs' (low_iff.mpr isLow),
      if_neg (by exact Nat.not_le.mpr few)]
    rfl
  · rw [below_evaluationComplete, braceTest_of_clear (by exact standing) runs' (Bool.eq_false_iff.mpr (mt low_iff.mp notLow))]
    rfl

end
end Sys2Proof.Machine
end

section
/-! THE STEP PLANNER AND THE LEGS. While no settle begins, the Step Planner commands legs and keeps its books, and leaves of each leg's
sequencer all but the command (R76, R85, R87, R119); of a leg it may not command it leaves everything. -/

namespace Sys2Proof.Machine

/-- Of a leg's sequencer what no setpoint changes. -/
def LegSeq.bare (q : LegSeq) : LegSeq := { q with commanded := ⟨0, 0, 0⟩, speed := none, reached := false, limitReached := false }

/-- From `s` to `t` the Step Planner has done its work: legs may have been commanded, records, requests and the pre-shift have changed. -/
structure Planned (s t : State) : Prop where
  calm : Calm s t
  sup : t.sup = s.sup
  feet : t.feet = s.feet
  braceOut : t.bal.braceOut = s.bal.braceOut
  legs : ∀ l, (t.legs.get l).bare = (s.legs.get l).bare

/-- No settle begins while this holds: none pends, or some leg is off STANCE (R153). -/
def Unsettled (s : State) : Prop := s.sup.pendingSettle = false ∨ ∃ l, (s.legs.get l).phase ≠ .stance

/-- A leg's sequencer is kept, and what waits for its drive goes on waiting. -/
structure Spares (l : Leg) (s t : State) : Prop where
  leg : t.legs.get l = s.legs.get l
  waits : ∀ x ∈ s.bus.queue, x.leg = l → x ∈ t.bus.queue

/-- Nothing is issued: the list is empty, the plan not ACTIVE, or a brace outstanding (R76). -/
def Barren (s : State) : Prop := s.plan.list = [] ∨ s.plan.state ≠ .active ∨ s.bal.braceOut = true

/-- No running pre-shift commands the leg (R117). -/
def Untouched (l : Leg) (s : State) : Prop := ∀ p, s.bal.preshift = some p → l ∉ p.legs

section
variable {s t u : State} {l : Leg}

/-! ## The relations -/

theorem Planned.refl (s : State) : Planned s s := ⟨.refl s, rfl, rfl, rfl, fun _ => rfl⟩

theorem Planned.trans (h : Planned s t) (k : Planned t u) : Planned s u :=
  ⟨h.calm.trans k.calm, k.sup.trans h.sup, k.feet.trans h.feet, k.braceOut.trans h.braceOut, fun l => (k.legs l).trans (h.legs l)⟩

theorem Planned.phase (h : Planned s t) (l : Leg) : (t.legs.get l).phase = (s.legs.get l).phase := by
  simpa [LegSeq.bare] using congrArg LegSeq.phase (h.legs l)

theorem Planned.motion (h : Planned s t) (l : Leg) : (t.legs.get l).motion = (s.legs.get l).motion := by
  simpa [LegSeq.bare] using congrArg LegSeq.motion (h.legs l)

theorem Planned.record (h : Planned s t) (l : Leg) : (t.legs.get l).record = (s.legs.get l).record := by
  simpa [LegSeq.bare] using congrArg LegSeq.record (h.legs l)

theorem Planned.step (h : Planned s t) (l : Leg) : (t.legs.get l).step = (s.legs.get l).step := by
  simpa [LegSeq.bare] using congrArg LegSeq.step (h.legs l)

theorem Planned.timer (h : Planned s t) (l : Leg) : (t.legs.get l).timer = (s.legs.get l).timer := by
  simpa [LegSeq.bare] using congrArg LegSeq.timer (h.legs l)

theorem Planned.clamped (h : Planned s t) (l : Leg) : (t.legs.get l).clamped = (s.legs.get l).clamped := by
  simpa [LegSeq.bare] using congrArg LegSeq.clamped (h.legs l)

theorem Planned.derating (h : Planned s t) (l : Leg) : (t.legs.get l).derating = (s.legs.get l).derating := by
  simpa [LegSeq.bare] using congrArg LegSeq.derating (h.legs l)

theorem Planned.unsettled (h : Planned s t) (un : Unsettled s) : Unsettled t :=
  un.imp (fun none => by rw [h.sup]; exact none) fun ⟨l, off⟩ => ⟨l, by rw [h.phase]; exact off⟩

theorem settleTest_of_unsettled (un : Unsettled s) : settleTest s = s :=
  un.elim settleTest_of_not_pending fun ⟨_, off⟩ => settleTest_of_phase off

theorem Spares.refl (l : Leg) (s : State) : Spares l s s := ⟨rfl, fun _ mem _ => mem⟩

theorem Spares.trans (h : Spares l s t) (k : Spares l t u) : Spares l s u :=
  ⟨k.leg.trans h.leg, fun x mem mine => k.waits x (h.waits x mem mine) mine⟩

/-- What changes neither legs nor transaction queue spares every leg. -/
theorem Spares.of_eq (legs : t.legs = s.legs) (bus : t.bus = s.bus) : Spares l s t := by
  refine ⟨by rw [legs], fun x mem _ => ?_⟩
  rw [bus]
  exact mem

theorem Barren.issue (h : Barren s) : issue s = s := by
  rcases h with empty | inactive | out
  · exact issue_of_empty empty
  · exact issue_of_inactive inactive
  · cases list : s.plan.list with
    | nil => exact issue_of_empty list
    | cons r rest => exact issue_of_not_mayIssue list fun ⟨_, _, _, free, _⟩ => Bool.false_ne_true (free.symm.trans out)

theorem Commands.spares {ls : List Leg} {f : Leg → LegSeq → LegSeq} {txn : Leg → Txn} (h : Commands ls f txn s t) (away : l ∉ ls) :
    Spares l s t :=
  ⟨h.others l away, fun x mem mine => h.stays x mem fun _ named => isSetpointFor_of_ne fun same => away ((mine.symm.trans same) ▸ named)⟩

/-! ## Updates -/

theorem planned_setPlan (s : State) (p : Planner) : Planned s (s.setPlan p) := ⟨calm_setPlan s p, rfl, rfl, rfl, fun _ => rfl⟩

theorem planned_setBal (s : State) (e : Option EvalInputs) (q : List SwingRequest) (p : Option Preshift) :
    Planned s (s.setBal { s.bal with eval := e, queue := q, preshift := p }) :=
  ⟨calm_setBal s e s.bal.braceOut q p, rfl, rfl, rfl, fun _ => rfl⟩

theorem planned_raise (e : Event) (s : State) : Planned s (raise e s) := by
  have h := (books_raise e s).1
  exact ⟨calm_raise e s, h.sup, h.feet, by rw [h.bal], fun l => by rw [h.legs]⟩

theorem planned_bump (k : Counter) (s : State) : Planned s (bump k s) := ⟨calm_bump k s, rfl, rfl, rfl, fun _ => rfl⟩

theorem Commands.planned_of_sent {ls : List Leg} {body : Leg → Vec3} {speed : Leg → Option Nat} {txn : Leg → Txn}
    (h : Commands ls (fun l => LegSeq.sent (body l) (speed l)) txn s t) (calm : Calm s t) : Planned s t := by
  refine ⟨calm, h.sup, h.feet, by rw [h.bal], fun l => ?_⟩
  by_cases named : l ∈ ls
  · rw [h.told l named]
    rfl
  · rw [h.others l named]

theorem planned_sendSetpoint (l : Leg) (v : Vec3) (speed : Nat) (s : State) : Planned s (sendSetpoint l v speed s) :=
  (commands_sendSetpoint l v speed s).planned_of_sent (calm_sendSetpoint ..)

theorem planned_sendHold (l : Leg) (s : State) : Planned s (sendHold l s) :=
  (commands_sendHold l s).planned_of_sent (calm_sendHold ..)

theorem planned_forLegs {f : Leg → State → State} (each : ∀ l s, Planned s (f l s)) (ls : List Leg) (s : State) :
    Planned s (forLegs f ls s) := by
  induction ls generalizing s with
  | nil => exact .refl s
  | cons l rest ih => exact (each l s).trans (ih (f l s))

theorem planned_holdLegs (ls : List Leg) (s : State) : Planned s (holdLegs ls s) := planned_forLegs planned_sendHold ls s

theorem spares_holdLegs {ls : List Leg} (away : l ∉ ls) (s : State) : Spares l s (holdLegs ls s) := by
  induction ls generalizing s with
  | nil => exact .refl l s
  | cons m rest ih =>
    obtain ⟨other, away⟩ := not_or.mp (List.mem_cons.not.mp away)
    exact ((commands_sendHold m s).spares fun mem => other (List.mem_singleton.mp mem)).trans (ih away _)

/-! ## Issue -/

theorem planned_startShift (id : Nat) (d : Vec3) (s : State) : Planned s (startShift id d s) := by
  have h := shiftStarts_startShift id d s
  have calm := calm_startShift id d s
  generalize startShift id d s = t at h calm
  have same : t.sup = s.sup ∧ t.feet = s.feet ∧ t.bal = s.bal := by
    rw [h.frame]
    exact ⟨rfl, rfl, rfl⟩
  obtain ⟨sup, feet, bal⟩ := same
  exact ⟨calm, sup, feet, by rw [bal], fun l => by rw [h.legs]; rfl⟩

theorem planned_issueHead (r : PlanRecord) (rest : List PlanRecord) (s : State) : Planned s (issueHead r rest s) := by
  by_cases kind : r.kind = .shift
  · rw [issueHead_of_shift kind]
    exact (planned_setPlan s _).trans (planned_startShift ..)
  · rw [issueHead_of_step kind]
    refine .trans ?_ (planned_setBal _ _ _ _)
    exact planned_setPlan s _

theorem spares_issueHead {r : PlanRecord} (kind : r.kind ≠ .shift) (l : Leg) (rest : List PlanRecord) (s : State) :
    Spares l s (issueHead r rest s) := by
  rw [issueHead_of_step kind]
  exact .of_eq rfl rfl

/-- An issue leaves what `P` says of a state if the issue of each head does. -/
theorem issue_induction {P : State → State → Prop} (refl : ∀ s, P s s) (trans : ∀ s t u, P s t → P t u → P s u)
    (head : ∀ s r rest, s.plan.list = r :: rest → MayIssue s r → P s (issueHead r rest s)) (s : State) : P s (issue s) := by
  suffices h : ∀ rs s, s.plan.list = rs → P s (issue s) from h _ s rfl
  intro rs
  induction rs with
  | nil => exact fun s list => by rw [issue_of_empty list]; exact refl s
  | cons r rest ih =>
    intro s list
    by_cases may : MayIssue s r
    · rw [issue_of_mayIssue list may]
      exact trans _ _ _ (head s r rest list may) (ih _ (issueHead_list ..))
    · rw [issue_of_not_mayIssue list may]
      exact refl s

theorem planned_issue (s : State) : Planned s (issue s) :=
  issue_induction Planned.refl (fun _ _ _ => .trans) (fun s r rest _ _ => planned_issueHead r rest s) s

/-- While a leg is off STANCE no SHIFT is issued, so an issue spares every leg (R76). -/
theorem spares_issue {m : Leg} (off : (s.legs.get m).phase ≠ .stance) (l : Leg) : Spares l s (issue s) := by
  have h := issue_induction (P := fun s t => (s.legs.get m).phase ≠ .stance → Spares l s t ∧ (t.legs.get m).phase ≠ .stance)
    (fun s off => ⟨.refl l s, off⟩)
    (fun s t u first second off => ⟨(first off).1.trans (second (first off).2).1, (second (first off).2).2⟩)
    (fun s r rest _ may off => ?_) s off
  · exact h.1
  · have kind : r.kind ≠ .shift := fun shift => by
      obtain ⟨-, -, -, -, -, -, -, shifts⟩ := may
      exact off ((shifts shift).2 m)
    exact ⟨spares_issueHead kind l rest s, by rw [(planned_issueHead r rest s).phase]; exact off⟩

theorem planned_phaseChanged (un : Unsettled s) : Planned s (phaseChanged s) := by
  have issued := planned_issue s
  rw [phaseChanged, settleTest_of_unsettled (issued.unsettled un)]
  exact issued

theorem phaseChanged_of_unsettled (un : Unsettled s) : phaseChanged s = issue s := by
  rw [phaseChanged, settleTest_of_unsettled ((planned_issue s).unsettled un)]

theorem phaseChanged_of_off {m : Leg} (off : (s.legs.get m).phase ≠ .stance) : phaseChanged s = issue s :=
  phaseChanged_of_unsettled (.inr ⟨m, off⟩)

/-! ## Withdrawal and completion -/

theorem planned_stopPreshift (ids : List Nat) (s : State) : Planned s (stopPreshift ids s) := by
  unfold stopPreshift
  split
  · exact .refl s
  · split
    · refine .trans ?_ (planned_holdLegs ..)
      exact planned_setBal _ _ _ _
    · exact .refl s

theorem spares_stopPreshift (free : Untouched l s) (ids : List Nat) : Spares l s (stopPreshift ids s) := by
  unfold stopPreshift
  split
  · exact .refl l s
  case h_2 p running =>
    split
    · refine .trans ?_ (spares_holdLegs (free p running) _)
      exact .of_eq rfl rfl
    · exact .refl l s

theorem planned_withdrawWaiting (s : State) : Planned s (withdrawWaiting s) := by
  have removed : ∀ ids, Planned s (removeRequests ids s) := fun ids => planned_setBal s _ _ _
  exact ((removed _).trans (planned_stopPreshift ..)).trans (planned_setPlan _ _)

theorem spares_withdrawWaiting (free : Untouched l s) : Spares l s (withdrawWaiting s) := by
  have removed : ∀ ids, Spares l s (removeRequests ids s) := fun ids => .of_eq rfl rfl
  have stopped := fun ids => (removed ids).trans (spares_stopPreshift (s := removeRequests ids s) free ids)
  exact (stopped _).trans (.of_eq rfl rfl)

theorem planned_finishRecord (w : WindowRecord) (st : Status) (s : State) : Planned s (finishRecord w st s) := by
  have h := (finishes_finishRecord w st s).books
  exact ⟨calm_finishRecord w st s, h.sup, h.feet, by rw [h.bal], fun l => by rw [h.legs]⟩

theorem planEnds_of_unsettled (un : Unsettled s) (p : PlanState) (e : Event) : planEnds p e s = raise e (setPlanState p s) := by
  have h := (planned_setPlan s { s.plan with state := p }).trans (planned_raise e _)
  exact settleTest_of_unsettled (h.unsettled un)

theorem planned_planEnds (un : Unsettled s) (p : PlanState) (e : Event) : Planned s (planEnds p e s) := by
  rw [planEnds_of_unsettled un]
  exact (planned_setPlan s { s.plan with state := p }).trans (planned_raise e _)

theorem spares_planEnds (un : Unsettled s) (p : PlanState) (e : Event) : Spares l s (planEnds p e s) := by
  have h := (books_raise e (setPlanState p s)).1
  rw [planEnds_of_unsettled un]
  exact .of_eq h.legs h.bus

theorem planned_idleIfEmpty (un : Unsettled s) : Planned s (idleIfEmpty s) := by
  rw [idleIfEmpty_eq]
  split
  · exact planned_planEnds un ..
  · exact .refl s

theorem spares_idleIfEmpty (un : Unsettled s) : Spares l s (idleIfEmpty s) := by
  rw [idleIfEmpty_eq]
  split
  · exact spares_planEnds un ..
  · exact .refl l s

theorem planned_suspendIfEmpty (un : Unsettled s) : Planned s (suspendIfEmpty s) := by
  rw [suspendIfEmpty_eq]
  split
  · exact planned_planEnds un ..
  · exact .refl s

theorem spares_suspendIfEmpty (un : Unsettled s) : Spares l s (suspendIfEmpty s) := by
  rw [suspendIfEmpty_eq]
  split
  · exact spares_planEnds un ..
  · exact .refl l s

theorem planned_draining (s : State) : Planned s (withdrawWaiting (setPlanState .draining s)) :=
  (planned_setPlan s { s.plan with state := .draining }).trans (planned_withdrawWaiting _)

theorem planned_drain (un : Unsettled s) : Planned s (drain s) := by
  have h := planned_draining s
  unfold drain
  split
  · exact h.trans (planned_suspendIfEmpty (h.unsettled un))
  · exact .refl s

theorem spares_drain (un : Unsettled s) (free : Untouched l s) : Spares l s (drain s) := by
  unfold drain
  split
  · refine .trans (.trans ?_ (spares_withdrawWaiting (by exact free))) (spares_suspendIfEmpty ((planned_draining s).unsettled un))
    exact .of_eq rfl rfl
  · exact .refl l s

theorem planned_completionActs (un : Unsettled s) (st : Status) (hold : Bool) : Planned s (completionActs st hold s) := by
  unfold completionActs
  split
  · split
    · exact planned_drain un
    · have issued := planned_issue s
      exact issued.trans (planned_idleIfEmpty (issued.unsettled un))
  · split
    · exact planned_suspendIfEmpty un
    · exact .refl s

theorem spares_completionActs (un : Unsettled s) (free : Untouched l s) (barren : Barren s) (st : Status) (hold : Bool) :
    Spares l s (completionActs st hold s) := by
  unfold completionActs
  split
  · split
    · exact spares_drain un free
    · rw [barren.issue]
      exact spares_idleIfEmpty un
  · split
    · exact spares_suspendIfEmpty un
    · exact .refl l s

theorem planned_completeRecord (un : Unsettled s) (id : Nat) (st : Status) : Planned s (completeRecord id st s) := by
  unfold completeRecord
  split
  · exact .refl s
  case h_2 w _ =>
    have finished := planned_finishRecord w st s
    exact finished.trans (planned_completionActs (finished.unsettled un) ..)

theorem barren_finishRecord (barren : Barren s) (w : WindowRecord) (st : Status) : Barren (finishRecord w st s) := by
  have h := finishes_finishRecord w st s
  unfold Barren
  rw [h.plan, h.books.bal]
  exact barren

theorem untouched_finishRecord (free : Untouched l s) (w : WindowRecord) (st : Status) : Untouched l (finishRecord w st s) := by
  unfold Untouched
  rw [(finishes_finishRecord w st s).books.bal]
  exact free

theorem spares_completeRecord (un : Unsettled s) (free : Untouched l s) (barren : Barren s) (id : Nat) (st : Status) :
    Spares l s (completeRecord id st s) := by
  unfold completeRecord
  split
  · exact .refl l s
  case h_2 w _ =>
    have h := (finishes_finishRecord w st s).books
    have finished : Spares l s (finishRecord w st s) := .of_eq h.legs h.bus
    exact finished.trans (spares_completionActs ((planned_finishRecord w st s).unsettled un) (untouched_finishRecord free w st)
      (barren_finishRecord barren w st) ..)

theorem planned_reportOutcome (un : Unsettled s) (l : Leg) (o : Outcome) (v : Option Vec3) : Planned s (reportOutcome l o v s) := by
  unfold reportOutcome
  split
  · exact .refl s
  · split
    · exact .refl s
    · dsimp only
      split
      · split
        · refine .trans ?_ (planned_completeRecord (by exact un) ..)
          exact planned_setPlan s _
        · exact planned_setPlan s _
      · exact .refl s

theorem spares_reportOutcome (un : Unsettled s) (free : Untouched l s) (barren : Barren s) (m : Leg) (o : Outcome) (v : Option Vec3) :
    Spares l s (reportOutcome m o v s) := by
  unfold reportOutcome
  split
  · exact .refl l s
  · split
    · exact .refl l s
    · dsimp only
      split
      · split
        · refine .trans ?_ (spares_completeRecord (by exact un) (by exact free) (by exact barren) ..)
          exact .of_eq rfl rfl
        · exact .of_eq rfl rfl
      · exact .refl l s

end
end Sys2Proof.Machine
end

section
/-! COMPLETION. What the completion of a record leaves: its entry and counts, and the plan as R87 says (R78 to R80, R84 to R87). The
timers of a pre-shift and of a SHIFT, and what the arbiter does with a head that is short of margin (R113 to R117, R120). -/

namespace Sys2Proof.Machine

section
variable {s t u : State} {l : Leg} {w : WindowRecord} {st : Status}

/-! ## The completion of a record -/

/-- The window without a record. -/
def othersOf (w : WindowRecord) (window : List WindowRecord) : List WindowRecord := window.filter fun v => decide (v.body.id ≠ w.body.id)

/-- The plan after a record has been finished (R78, R79). -/
def finishedPlan (w : WindowRecord) (st : Status) (s : State) : Planner :=
  { s.plan with
    window := othersOf w s.plan.window
    shiftTimer := if w.body.kind = .shift then none else s.plan.shiftTimer
    log := pushed s.plan.log (logEntryOf w (finalStatus w st) s.ev.time) }

/-- Nothing is issued by the completion of a record: it drains, or the list is empty, or the plan is not ACTIVE (R87). -/
def Closes (w : WindowRecord) (st : Status) (s : State) : Prop :=
  s.plan.state = .active → (st.fails || w.body.hold) = true ∨ s.plan.list = []

/-- From `s` a record has completed, and nothing has been issued (R78 to R80, R84 to R87). -/
structure Completes (w : WindowRecord) (st : Status) (s t : State) : Prop where
  counters : t.ev.counters =
    countDone (completionCounter w.body.kind (finalStatus w st)) (pushCount s.plan.log.length s.ev.counters)
  notified : w.body.notify = true → hasEvent t.ev.pending .stepDone = true
  drained : s.plan.state = .active → (st.fails || w.body.hold) = true →
    t.plan = { finishedPlan w st s with
      window := servedOf (othersOf w s.plan.window)
      list := (waitingOf (othersOf w s.plan.window)).map WindowRecord.body ++ s.plan.list
      state := if servedOf (othersOf w s.plan.window) = [] then .suspended else .draining } ∧
    t.bal.queue = unrequested (waitingOf (othersOf w s.plan.window)) s.bal.queue ∧
    (servedOf (othersOf w s.plan.window) = [] → hasEvent t.ev.pending .planSuspended = true)
  goesOn : s.plan.state = .active → (st.fails || w.body.hold) = false →
    t.plan = { finishedPlan w st s with state := if othersOf w s.plan.window = [] then .idle else .active } ∧
    (othersOf w s.plan.window = [] → hasEvent t.ev.pending .planIdle = true)
  drains : s.plan.state = .draining →
    t.plan = { finishedPlan w st s with state := if othersOf w s.plan.window = [] then .suspended else .draining } ∧
    t.bal.queue = s.bal.queue ∧
    (othersOf w s.plan.window = [] → hasEvent t.ev.pending .planSuspended = true)
  stays : planRuns s = false → t.plan = finishedPlan w st s
  legs : s.sup.pendingSettle = false → (∀ p, s.bal.preshift = some p → ¬ ownedBy (waitingOf (othersOf w s.plan.window)) p) →
    t.legs = s.legs ∧ t.bus = s.bus

theorem findWindow_of_mem (nodup : (s.plan.window.map fun w => w.body.id).Nodup) (mem : w ∈ s.plan.window) :
    findWindow w.body.id s = some w := by
  unfold findWindow
  cases found : s.plan.window.find? fun v => decide (v.body.id = w.body.id) with
  | none => exact absurd (List.find?_eq_none.mp found w mem) (by simp)
  | some v =>
    have same : v.body.id = w.body.id := by simpa using List.find?_some found
    rw [List.inj_on_of_nodup_map nodup (List.mem_of_find?_eq_some found) mem same]

theorem findWindow_of_alone (alone : s.plan.window = [w]) : findWindow w.body.id s = some w := by
  rw [findWindow, alone]
  simp

theorem othersOf_alone (w : WindowRecord) : othersOf w [w] = [] := by simp [othersOf]

theorem draining_of_runs (runs : planRuns s = true) (inactive : s.plan.state ≠ .active) : s.plan.state = .draining := by
  have h : s.plan.state = .active ∨ s.plan.state = .draining := of_decide_eq_true runs
  exact h.resolve_left inactive

theorem not_runs_iff : planRuns s = false ↔ s.plan.state ≠ .active ∧ s.plan.state ≠ .draining := by
  rw [← not_or, planRuns, decide_eq_false_iff_not]

/-- A plan that goes to a state where nothing is left in it, and raises its event with that (R84, R86). -/
structure EndsIf (empty : Prop) (p : PlanState) (e : Event) (s t : State) : Prop where
  ends : empty → PlanEnds p e s t
  same : ¬ empty → t = s

theorem EndsIf.plan {empty : Prop} [Decidable empty] {p q : PlanState} {e : Event} (h : EndsIf empty p e s t) (was : s.plan.state = q) :
    t.plan = { s.plan with state := if empty then p else q } := by
  by_cases c : empty
  · rw [(h.ends c).plan, if_pos c]
  · rw [h.same c, if_neg c, ← was]

theorem EndsIf.bal {empty : Prop} {p : PlanState} {e : Event} (h : EndsIf empty p e s t) : t.bal = s.bal := by
  by_cases c : empty
  · exact (h.ends c).bal
  · rw [h.same c]

theorem EndsIf.counters {empty : Prop} {p : PlanState} {e : Event} (h : EndsIf empty p e s t) : t.ev.counters = s.ev.counters := by
  by_cases c : empty
  · exact (h.ends c).counters
  · rw [h.same c]

theorem EndsIf.stays {empty : Prop} {p : PlanState} {e : Event} (h : EndsIf empty p e s t) (no : s.sup.pendingSettle = false) :
    t.legs = s.legs ∧ t.bus = s.bus := by
  by_cases c : empty
  · exact (h.ends c).stays no
  · rw [h.same c]
    exact ⟨rfl, rfl⟩

theorem endsIf_suspendIfEmpty (draining : s.plan.state = .draining) :
    EndsIf (s.plan.window = []) .suspended .planSuspended s (suspendIfEmpty s) := by
  rw [suspendIfEmpty_eq]
  refine ⟨fun empty => ?_, fun more => if_neg fun h => more h.2⟩
  rw [if_pos ⟨draining, empty⟩]
  exact planEnds_spec ..

theorem endsIf_idleIfEmpty (active : s.plan.state = .active) (list : s.plan.list = []) :
    EndsIf (s.plan.window = []) .idle .planIdle s (idleIfEmpty s) := by
  rw [idleIfEmpty_eq]
  refine ⟨fun empty => ?_, fun more => if_neg fun h => more h.2.2⟩
  rw [if_pos ⟨active, list, empty⟩]
  exact planEnds_spec ..

theorem completes_completeRecord (found : findWindow w.body.id s = some w) (closes : Closes w st s) :
    Completes w st s (completeRecord w.body.id st s) := by
  have finished := finishes_finishRecord w st s
  have shown : completeRecord w.body.id st s = completionActs st w.body.hold (finishRecord w st s) := by
    rw [completeRecord, found]
  have flags := (calm_completionActs st w.body.hold (finishRecord w st s)).quiet.flags _ ∘ finished.notified
  rw [shown]
  generalize finishRecord w st s = x at finished flags ⊢
  have plan : x.plan = finishedPlan w st s := finished.plan
  have state : x.plan.state = s.plan.state := by rw [plan]; rfl
  have window : x.plan.window = othersOf w s.plan.window := by rw [plan]; rfl
  have pending : x.sup.pendingSettle = s.sup.pendingSettle := by rw [finished.books.sup]
  have legs := finished.books.legs
  have bus := finished.books.bus
  have bal := finished.books.bal
  have runs : planRuns s = decide (s.plan.state = .active ∨ s.plan.state = .draining) := rfl
  cases was : s.plan.state
  case active =>
    have running : planRuns s = true := by rw [runs, was]; rfl
    by_cases fails : (st.fails || w.body.hold) = true
    · have acts : completionActs st w.body.hold x = drain x := (if_pos (state.trans was)).trans (if_pos fails)
      rw [acts] at flags ⊢
      have h := drains_drain (state.trans was)
      generalize drain x = t at h flags ⊢
      refine ⟨h.counters.trans finished.counters, flags, fun _ _ => ⟨?_, ?_, ?_⟩,
        fun _ no => Bool.noConfusion (fails.symm.trans no), fun other => PlanState.noConfusion (was.symm.trans other),
        fun stopped => Bool.noConfusion (running.symm.trans stopped), fun no free => ?_⟩
      · rw [h.plan, plan]
        rfl
      · rw [h.queue, window, bal]
      · rw [← window]
        exact h.raised
      · have kept := (h.keeps fun p running => by rw [window]; exact free p (bal ▸ running)).2 (pending.trans no)
        exact ⟨kept.1.trans legs, kept.2.trans bus⟩
    · have empty : x.plan.list = [] := by rw [plan]; exact (closes was).resolve_left fails
      have acts : completionActs st w.body.hold x = idleIfEmpty x := by
        refine (if_pos (state.trans was)).trans ((if_neg fails).trans ?_)
        rw [issue_of_empty empty]
      rw [acts] at flags ⊢
      have h := endsIf_idleIfEmpty (state.trans was) empty
      rw [window] at h
      generalize idleIfEmpty x = t at h flags ⊢
      refine ⟨h.counters.trans finished.counters, flags, fun _ yes => absurd yes fails, fun _ _ => ⟨?_, fun none => (h.ends none).raised⟩,
        fun other => PlanState.noConfusion (was.symm.trans other), fun stopped => Bool.noConfusion (running.symm.trans stopped),
        fun no _ => ?_⟩
      · rw [h.plan (state.trans was), plan]
      · have kept := h.stays (pending.trans no)
        exact ⟨kept.1.trans legs, kept.2.trans bus⟩
  case draining =>
    have running : planRuns s = true := by rw [runs, was]; rfl
    have acts : completionActs st w.body.hold x = suspendIfEmpty x :=
      (if_neg (by rw [state, was]; decide)).trans (if_pos (state.trans was))
    rw [acts] at flags ⊢
    have h := endsIf_suspendIfEmpty (state.trans was)
    rw [window] at h
    generalize suspendIfEmpty x = t at h flags ⊢
    refine ⟨h.counters.trans finished.counters, flags, fun other => PlanState.noConfusion (was.symm.trans other),
      fun other => PlanState.noConfusion (was.symm.trans other), fun _ => ⟨?_, by rw [h.bal, bal], fun none => (h.ends none).raised⟩,
      fun stopped => Bool.noConfusion (running.symm.trans stopped), fun no _ => ?_⟩
    · rw [h.plan (state.trans was), plan]
    · have kept := h.stays (pending.trans no)
      exact ⟨kept.1.trans legs, kept.2.trans bus⟩
  all_goals
    have acts : completionActs st w.body.hold x = x :=
      (if_neg (by rw [state, was]; decide)).trans (if_neg (by rw [state, was]; decide))
    rw [acts] at flags ⊢
    exact ⟨finished.counters, flags, fun other => PlanState.noConfusion (was.symm.trans other),
      fun other => PlanState.noConfusion (was.symm.trans other), fun other => PlanState.noConfusion (was.symm.trans other),
      fun _ => plan, fun _ _ => ⟨legs, bus⟩⟩

/-- Of the plan after a completion: its log and shift timer whatever its state, and what is left where nothing was beside the record. -/
theorem Completes.plan (h : Completes w st s t) :
    t.plan.log = (finishedPlan w st s).log ∧ t.plan.shiftTimer = (finishedPlan w st s).shiftTimer ∧
      (othersOf w s.plan.window = [] → t.plan.window = [] ∧ t.plan.list = s.plan.list) := by
  cases was : s.plan.state
  case active =>
    cases fails : st.fails || w.body.hold with
    | true =>
      obtain ⟨plan, -, -⟩ := h.drained was fails
      rw [plan]
      exact ⟨rfl, rfl, fun none => by rw [none]; exact ⟨rfl, rfl⟩⟩
    | false =>
      obtain ⟨plan, -⟩ := h.goesOn was fails
      rw [plan]
      exact ⟨rfl, rfl, fun none => ⟨none, rfl⟩⟩
  case draining =>
    obtain ⟨plan, -, -⟩ := h.drains was
    rw [plan]
    exact ⟨rfl, rfl, fun none => ⟨none, rfl⟩⟩
  all_goals
    rw [h.stays (not_runs_iff.mpr (by rw [was]; exact ⟨nofun, nofun⟩))]
    exact ⟨rfl, rfl, fun none => ⟨none, rfl⟩⟩

theorem getLast?_pushed (log : List LogEntry) (e : LogEntry) : (pushed log e).getLast? = some e := by
  unfold pushed
  split <;> simp

/-- A failure of the only record suspends a plan that runs (R86, R87). -/
theorem Completes.suspends (h : Completes w st s t) (fails : st.fails = true) (alone : s.plan.window = [w]) (runs : planRuns s = true) :
    t.plan.state = .suspended ∧ hasEvent t.ev.pending .planSuspended = true := by
  have others : othersOf w s.plan.window = [] := by rw [alone, othersOf_alone]
  have served : servedOf (othersOf w s.plan.window) = [] := by rw [others]; rfl
  by_cases active : s.plan.state = .active
  · obtain ⟨plan, -, raised⟩ := h.drained active (by rw [fails]; rfl)
    exact ⟨by rw [plan]; exact if_pos served, raised served⟩
  · obtain ⟨plan, -, raised⟩ := h.drains (draining_of_runs runs active)
    exact ⟨by rw [plan]; exact if_pos others, raised others⟩

/-! ## The timers of a pre-shift and of a SHIFT -/

/-- Each of some legs that are held is commanded to where its drive stood, in whatever mode. -/
theorem told_holdLegs {ls : List Leg} (mem : l ∈ ls) (s : State) :
    ((holdLegs ls s).legs.get l).commanded = heldPos s l ∧ ((holdLegs ls s).legs.get l).reached = false := by
  suffices h : ∀ (ls : List Leg) (t : State), t.bus.drives = s.bus.drives →
      l ∈ ls ∨ (t.legs.get l).commanded = heldPos s l ∧ (t.legs.get l).reached = false →
      ((holdLegs ls t).legs.get l).commanded = heldPos s l ∧ ((holdLegs ls t).legs.get l).reached = false from h ls s rfl (.inl mem)
  intro ls
  induction ls with
  | nil => exact fun t _ told => told.resolve_left List.not_mem_nil
  | cons m rest ih =>
    intro t drives told
    have h := commands_sendHold m t
    refine ih (sendHold m t) (h.drives.trans drives) ?_
    by_cases same : l = m
    · subst same
      rw [h.told l (List.mem_singleton.mpr rfl)]
      exact .inr ⟨congrArg (fun q : Quad Drive => (q.get l).pos) drives, rfl⟩
    · rw [h.others l fun here => same (List.mem_singleton.mp here)]
      exact told.imp (fun there => (List.mem_cons.mp there).resolve_left same) id

/-- Settles O47: the holds of either timer, and the completion of the SHIFT with nothing left in the window. -/
theorem shiftTimersExpire : Obligations.ShiftTimersExpire := by
  unfold Obligations.ShiftTimersExpire
  refine ⟨fun s => ⟨fun runsOn => ?_, fun runsOn => ?_⟩, fun s p running out => ?_,
    fun s w out alone running kind standing unsettled => ?_⟩
  · show Host.Outcome.next (preshiftTimeout s) = _
    unfold preshiftTimeout
    split
    · rfl
    case h_2 p running => rw [if_neg fun out => runsOn p running (by simpa using out)]
  · show Host.Outcome.next (shiftTimeout s) = _
    rw [shiftTimeout, if_neg (mt (ranOut_iff _).mp runsOn)]
  · have shown : preshiftTimeout s = (holdLegs p.legs s).setBal { (holdLegs p.legs s).bal with preshift := none } := by
      rw [preshiftTimeout, running]
      exact if_pos (by simpa using out)
    have frame := holdLegs_frame p.legs s
    have told : ∀ l ∈ p.legs, _ := fun l mem => told_holdLegs mem s
    have held : ∀ l ∈ p.legs, _ := fun l mem => held_holdLegs (s := s) mem
    have spared : ∀ l, l ∉ p.legs → _ := fun l away => (spares_holdLegs away s).leg
    generalize holdLegs p.legs s = t at shown frame told held spared
    refine ⟨_, congrArg Host.Outcome.next shown, ?_, ?_, fun l mem => ⟨(told l mem).1, (told l mem).2, fun mode => (held l mem mode).2.2⟩,
      spared, ?_, ?_⟩ <;> rw [frame] <;> rfl
  · have held := commands_holdLegs nodup_legsInOrder (s.setPlan { s.plan with shiftTimer := none })
    have found : [w].find? (fun v => decide (v.cond = .running)) = some w := by simp [running]
    have shown : shiftTimeout s = completeRecord w.body.id .stalled (holdLegs legsInOrder (s.setPlan { s.plan with shiftTimer := none })) := by
      rw [shiftTimeout, if_pos ((ranOut_iff _).mpr out)]
      dsimp only
      rw [State.setPlan_plan, alone, found]
    rw [show exec .shiftTimeout s = .next (shiftTimeout s) from rfl, shown]
    generalize holdLegs legsInOrder (s.setPlan { s.plan with shiftTimer := none }) = u at held ⊢
    have plan : u.plan = { s.plan with shiftTimer := none } := held.plan
    have window : u.plan.window = [w] := by rw [plan]; exact alone
    have h := completes_completeRecord (st := .stalled) (findWindow_of_alone window) fun _ => .inl rfl
    generalize completeRecord w.body.id .stalled u = t at h
    have others : othersOf w u.plan.window = [] := by rw [window, othersOf_alone]
    obtain ⟨log, timer, left⟩ := h.plan
    obtain ⟨none, -⟩ := left others
    obtain ⟨sameLegs, sameBus⟩ := h.legs (by rw [held.sup]; exact unsettled) fun p _ ⟨v, mem, _⟩ => by
      rw [others] at mem
      exact absurd mem List.not_mem_nil
    have entry : t.plan.log.getLast? = some (logEntryOf w .stalled s.ev.time) := by
      rw [log, finishedPlan, held.ev]
      exact getLast?_pushed ..
    have uncounted : t.ev.counters.shiftsDone = s.ev.counters.shiftsDone := by
      rw [h.counters, kind, held.ev]
      show (pushCount u.plan.log.length s.ev.counters).shiftsDone = _
      unfold pushCount
      split <;> rfl
    refine ⟨t, _, rfl, none, ?_, entry, rfl, kind, rfl, rfl, ?_, fun runs => ?_, fun l => ?_, uncounted⟩
    · rw [timer]
      exact if_pos kind
    · exact if_neg fun shift => shift.1 kind
    · exact h.suspends rfl window (by rw [planRuns, plan]; exact runs)
    · rw [sameLegs, sameBus, held.told l (mem_legsInOrder l)]
      exact ⟨rfl, held.waits (fun parked => Mode.noConfusion (standing.symm.trans parked)) l (mem_legsInOrder l)⟩

end
end Sys2Proof.Machine
end

section
/-! THE ARBITER. What a completed evaluation does with the head of the grant queue: it waits, it is granted, it asks for a pre-shift, or
it fails (R60, R113 to R117). -/

namespace Sys2Proof.Machine

section
variable {s t u : State} {l : Leg} {w : WindowRecord} {e : EvalInputs} {q r : SwingRequest} {rest behind : List SwingRequest}
  {granted : List Leg}

/-! ## What the arbiter does with a head -/

/-- A request passes with so many legs granted before it (R60, R113). -/
def Passes (e : EvalInputs) (granted : List Leg) (q : SwingRequest) : Prop :=
  airborneCount e granted q.legs ≤ 2 ∧ 2 ≤ (predictedSet e granted q.legs).length ∧ passesOnMargin e granted q.legs = true

theorem arbiter_of_waits (queue : s.bal.queue = q :: behind) (same : q.id = r.id)
    (waits : 2 < airborneCount e granted q.legs ∨ (predictedSet e granted q.legs).length < 2) :
    arbiter e (r :: rest) granted s = s := by
  rw [arbiter, queue]
  exact (if_pos same).trans (if_pos waits)

theorem arbiter_of_passes (queue : s.bal.queue = q :: behind) (same : q.id = r.id) (passes : Passes e granted q) :
    arbiter e (r :: rest) granted s = arbiter e rest (granted ++ q.legs) (grant q s) := by
  obtain ⟨room, feet, margin⟩ := passes
  rw [arbiter, queue]
  exact (if_pos same).trans ((if_neg (not_or.mpr ⟨Nat.not_lt.mpr room, Nat.not_lt.mpr feet⟩)).trans (if_pos margin))

theorem arbiter_of_short (queue : s.bal.queue = q :: behind) (same : q.id = r.id) (room : airborneCount e granted q.legs ≤ 2)
    (feet : 2 ≤ (predictedSet e granted q.legs).length) (short : passesOnMargin e granted q.legs = false) :
    arbiter e (r :: rest) granted s = failsOnMargin e (predictedSet e granted q.legs) q s := by
  rw [arbiter, queue]
  refine (if_pos same).trans ((if_neg (not_or.mpr ⟨Nat.not_lt.mpr room, Nat.not_lt.mpr feet⟩)).trans (if_neg ?_))
  rw [short]
  exact Bool.false_ne_true

/-- The state that the arbiter is given by an evaluation with no low margin (R50, R62). -/
def considered (e : EvalInputs) (s : State) : State := s.setBal { s.bal with held := figuresOf e, eval := none, below := 0 }

/-- What a completed evaluation does, up to the arbiter. -/
theorem exec_evaluationComplete_of_grants (running : s.bal.eval = some e) (standing : s.sup.mode = .standing) (runs : planRuns s = true)
    (free : s.bal.braceOut = false) (clear : belowBrace e.balCfg (figuresOf e) = false) (still : s.bal.preshift = none)
    (asked : s.bal.evalPending = false) :
    exec .evaluationComplete s = .next (arbiter e e.requests [] (considered e s)) := by
  have tested : braceTest e.balCfg (figuresOf e) (heldFigures e s) = considered e s :=
    braceTest_of_clear (by exact standing) (by exact runs) clear
  have considers : considerGrants e (considered e s) = arbiter e e.requests [] (considered e s) :=
    considerGrants_of_runs e (by exact standing) (by exact runs) (by exact free) (by exact still)
  rw [exec_evaluationComplete running, tested, considers, nextEvaluation_of_clear]
  exact (calm_arbiter e e.requests [] (considered e s)).evalPending.trans asked

/-! ## The aim of a pre-shift -/

/-- The nearest whole number is one (00_scope). -/
theorem IsNearest.unique {a b p q : Int} (positive : 0 < b) (hp : IsNearest a b p) (hq : IsNearest a b q) : p = q := by
  wlog order : q ≤ p generalizing p q
  · exact (this hq hp (by omega)).symm
  obtain ⟨nearP, tieP⟩ := hp
  obtain ⟨nearQ, tieQ⟩ := hq
  by_contra other
  obtain ⟨n, rfl⟩ : ∃ n, p = q + 1 + n := ⟨p - q - 1, by ring⟩
  have further : 0 ≤ n * b := mul_nonneg (by omega) positive.le
  have product : (q + 1 + n) * b = q * b + b + n * b := by ring
  rw [product] at nearP tieP
  have sign : 0 ≤ q * b ∨ q * b + b ≤ 0 := by
    rcases lt_or_ge q 0 with neg | nonneg
    · right
      nlinarith
    · exact .inl (mul_nonneg nonneg positive.le)
  generalize q * b = Q at *
  generalize n * b = N at *
  have above := (abs_le.mp (show |Q - a| ≤ |Q - a| from le_rfl)).1
  have below := le_abs_self (Q + b + N - a)
  have tie : 2 * a = 2 * Q + b := by omega
  have farther := tieQ (by rw [abs_of_nonpos (by omega)]; omega)
  have nearer := tieP (by rw [abs_of_nonneg (by omega)]; omega)
  rcases sign with nonneg | neg
  · rw [abs_of_nonneg nonneg] at farther
    have := le_abs_self a
    omega
  · have none : N = 0 := by omega
    rw [none, add_zero, abs_of_nonpos neg] at nearer
    have := neg_le_abs a
    omega

/-- The aim of a pre-shift from the nearest millimetres of the centroid (R116). -/
theorem aimOffset_eq {set : List Leg} {ax ay : Int} (feet : 2 ≤ set.length)
    (nearX : IsNearest (set.map fun l => (e.feet.get l).x).sum set.length ax)
    (nearY : IsNearest (set.map fun l => (e.feet.get l).y).sum set.length ay) :
    aimOffset e set = (ax - (pressurePoint e).1, ay - (pressurePoint e).2) := by
  have positive : (0 : Int) < set.length := by omega
  have sums : ∀ vs : List Int, sumInts vs = vs.sum := fun _ => rfl
  rw [aimOffset, sums, sums, nearX.unique positive (isNearest_roundDiv _ positive), nearY.unique positive (isNearest_roundDiv _ positive)]

/-! ## A pre-shift is ordered -/

/-- The legs a pre-shift commands: those in STANCE (R117). -/
def standingLegs (s : State) : List Leg := legsInOrder.filter fun l => decide ((s.legs.get l).phase = .stance)

theorem mem_standingLegs : l ∈ standingLegs s ↔ (s.legs.get l).phase = .stance := by
  simp [standingLegs, mem_legsInOrder]

/-- The requests, the window and the counters after a pre-shift has been counted (R117). -/
def preshiftCounted (q : SwingRequest) (s : State) : State :=
  bump .preshifts (modWindow q.id (fun w => { w with body := { w.body with preshifts := w.body.preshifts + 1 } })
    (s.setBal { s.bal with queue := s.bal.queue.map fun r => if r.id = q.id then { r with attempts := r.attempts + 1 } else r }))

theorem orderPreshift_eq (q : SwingRequest) (o : Int × Int) (s : State) :
    orderPreshift q o s =
      let u := forLegs (sendShifted ⟨-o.1, -o.2, 0⟩) (standingLegs s) (preshiftCounted q s)
      u.setBal { u.bal with preshift := some ⟨q.id, o.1, o.2, standingLegs s, shiftTime u (standingLegs s)⟩ } := rfl

/-- From `s` a pre-shift by an offset has been ordered for a request (R117). -/
structure Preshifts (q : SwingRequest) (o : Int × Int) (s t : State) : Prop where
  preshift : t.bal.preshift = some ⟨q.id, o.1, o.2, standingLegs s,
    allowed ((standingLegs s).any fun l => (s.legs.get l).derating) s.gait.shiftTimeout⟩
  queue : t.bal.queue = (preshiftCounted q s).bal.queue
  plan : t.plan = (preshiftCounted q s).plan
  counters : t.ev.counters = { s.ev.counters with preshifts := s.ev.counters.preshifts + 1 }
  told : ∀ l, (s.legs.get l).phase = .stance → t.legs.get l =
    (s.legs.get l).sent (workspaceClamp s.geo (shiftedHip s ⟨-o.1, -o.2, 0⟩ l)) (some s.gait.shiftSpeed)
  others : ∀ l, (s.legs.get l).phase ≠ .stance → t.legs.get l = s.legs.get l
  sends : s.sup.mode ≠ .parked → ∀ l, (s.legs.get l).phase = .stance →
    setpointTo s (shiftedTarget s ⟨-o.1, -o.2, 0⟩) s.gait.shiftSpeed l ∈ t.bus.queue

theorem preshifts_orderPreshift (q : SwingRequest) (o : Int × Int) (s : State) : Preshifts q o s (orderPreshift q o s) := by
  have nodup : (standingLegs s).Nodup := nodup_legsInOrder.filter _
  have h := commands_sendShifted ⟨-o.1, -o.2, 0⟩ nodup (preshiftCounted q s)
  rw [orderPreshift_eq]
  generalize forLegs (sendShifted ⟨-o.1, -o.2, 0⟩) (standingLegs s) (preshiftCounted q s) = u at h ⊢
  have counted : u.ev.counters = { s.ev.counters with preshifts := s.ev.counters.preshifts + 1 } := by
    rw [h.ev]
    rfl
  have derating : ∀ l, (u.legs.get l).derating = (s.legs.get l).derating := fun l => by
    by_cases stands : l ∈ standingLegs s
    · rw [h.told l stands]
      rfl
    · rw [h.others l stands]
      rfl
  have time : shiftTime u (standingLegs s) =
      allowed ((standingLegs s).any fun l => (s.legs.get l).derating) s.gait.shiftTimeout := by
    rw [shiftTime, h.gait]
    simp only [derating]
    rfl
  dsimp only
  rw [time]
  have queue : u.bal.queue = (preshiftCounted q s).bal.queue := by rw [h.bal]
  exact ⟨rfl, queue, h.plan, counted, fun l stands => h.told l (mem_standingLegs.mpr stands),
    fun l off => h.others l (mt mem_standingLegs.mp off), fun running l stands => h.waits running l (mem_standingLegs.mpr stands)⟩

/-- Settles O38: a head that waits, one for which a pre-shift is ordered, and one that fails. -/
theorem shortMarginShiftsOrFails : Obligations.ShortMarginShiftsOrFails := by
  unfold Obligations.ShortMarginShiftsOrFails
  refine ⟨fun s e q behind running standing runs free clear still asked queue same waits => ?_, ?_⟩
  · rw [exec_evaluationComplete_of_grants running standing runs free clear still asked]
    cases read : e.requests with
    | nil => rw [read, queue] at same; cases same
    | cons r rest =>
      rw [read, queue] at same
      have head := (List.cons.inj same).1
      rw [arbiter_of_waits (by exact queue) head.symm waits]
      rfl
  · intro s e q w ax ay running standing runs free clear still asked queue read alone seat room short set feet
      nearX nearY ox oy length most sx sy stands shifts
    have aim : aimOffset e set = (ox, oy) := aimOffset_eq feet nearX nearY
    have limited : limitOffset s.gait.maxPreshift (ox, oy) = (sx, sy) := by
      show (if length ≤ most then (ox, oy) else ((ox * most).tdiv length, (oy * most).tdiv length)) = _
      by_cases fits : length ≤ most
      · simp only [sx, sy, if_pos fits]
      · simp only [sx, sy, if_neg fits]
    have asks : failsOnMargin e set q (considered e s) =
        if shifts then orderPreshift q (sx, sy) (considered e s) else completeRecord q.id .unstable (dropRequest (considered e s)) := by
      rw [failsOnMargin, aim, show (considered e s).gait.maxPreshift = s.gait.maxPreshift from rfl, limited]
      rfl
    rw [exec_evaluationComplete_of_grants running standing runs free clear still asked, read,
      arbiter_of_short (by exact queue) rfl room feet short]
    rw [show failsOnMargin e (predictedSet e [] q.legs) q (considered e s) = _ from asks]
    refine ⟨_, rfl, fun yes => ?_, fun no => ?_⟩
    · rw [if_pos yes]
      have h := preshifts_orderPreshift q (sx, sy) (considered e s)
      generalize orderPreshift q (sx, sy) (considered e s) = t at h
      have timer : ∀ hot, (standingLegs s).any (fun l => (s.legs.get l).derating) = hot →
          allowed ((standingLegs s).any fun l => (s.legs.get l).derating) s.gait.shiftTimeout = allowed hot s.gait.shiftTimeout :=
        fun hot derated => by rw [derated]
      have counted : (preshiftCounted q (considered e s)).plan.window =
          [{ w with body := { w.body with preshifts := w.body.preshifts + 1 } }] := by
        show s.plan.window.map _ = _
        rw [alone, List.map_singleton, if_pos seat]
      have attempted : (preshiftCounted q (considered e s)).bal.queue = [{ q with attempts := q.attempts + 1 }] := by
        show s.bal.queue.map _ = _
        rw [queue, List.map_singleton, if_pos rfl]
      have phases : ∀ l, (t.legs.get l).phase = (s.legs.get l).phase := fun l => by
        by_cases at_ : stands l
        · rw [h.told l at_]
          rfl
        · rw [h.others l at_]
          rfl
      have target : ∀ l, shiftedHip (considered e s) ⟨-sx, -sy, 0⟩ l =
          ⟨(s.legs.get l).commanded.x - sx, (s.legs.get l).commanded.y - sy, (s.legs.get l).commanded.z⟩ := fun l => by
        show (⟨_ + -sx, _ + -sy, _ + 0⟩ : Vec3) = _
        rw [Int.add_zero, ← Int.sub_eq_add_neg, ← Int.sub_eq_add_neg]
        rfl
      refine ⟨⟨_, h.preshift, rfl, fun l => mem_standingLegs, rfl, rfl, fun ⟨l, at_, hot⟩ => ?_, fun cool => ?_⟩,
        h.queue.trans attempted, (congrArg Planner.window h.plan).trans counted, h.counters, phases, h.others, fun l at_ => ?_⟩
      · exact timer true (List.any_eq_true.mpr ⟨l, mem_standingLegs.mpr at_, hot⟩)
      · exact timer false (List.any_eq_false.mpr fun l mem => by rw [cool l (mem_standingLegs.mp mem)]; exact Bool.false_ne_true)
      · have sent := h.sends (fun parked => Mode.noConfusion (standing.symm.trans parked)) l at_
        rw [setpointTo, hipTarget, toHip_shiftedTarget, target] at sent
        rw [h.told l at_, target]
        exact ⟨rfl, rfl, sent⟩
    · rw [if_neg no, ← seat]
      have window : (dropRequest (considered e s)).plan.window = [w] := alone
      have h := completes_completeRecord (st := .unstable) (findWindow_of_alone window) fun _ => .inl rfl
      generalize completeRecord w.body.id .unstable (dropRequest (considered e s)) = t at h
      obtain ⟨state, -⟩ := h.suspends rfl window (by exact runs)
      obtain ⟨log, -, left⟩ := h.plan
      have others : othersOf w (dropRequest (considered e s)).plan.window = [] := by rw [window, othersOf_alone]
      obtain ⟨none, list⟩ := left others
      have dropped : (dropRequest (considered e s)).bal.queue = [] := by
        show s.bal.queue.tail = []
        rw [queue]
        rfl
      have emptied : t.bal.queue = [] := by
        by_cases active : s.plan.state = .active
        · obtain ⟨-, left, -⟩ := h.drained active rfl
          rw [left, dropped]
          rfl
        · obtain ⟨-, left, -⟩ := h.drains (draining_of_runs runs active)
          rw [left, dropped]
      have entry := getLast?_pushed (dropRequest (considered e s)).plan.log
        (logEntryOf w (finalStatus w .unstable) (dropRequest (considered e s)).ev.time)
      exact ⟨none, state, emptied, list, _, (congrArg List.getLast? log).trans entry, rfl, rfl, rfl⟩

end
end Sys2Proof.Machine
end

section
/-! GRANTS. What the grant of a request leaves: its record GRANTED and marked, its legs lifted, and behind them what an issue appends
(R75, R76, R100, R113). -/

namespace Sys2Proof.Machine

section
variable {s t u : State} {l m : Leg} {r : PlanRecord} {c : SurfaceClass} {ls ms : List Leg}

/-! ## What an issue appends -/

/-- From `s` to `t` records that are no SHIFT have been issued: they join window and grant queue at their tails (R76). -/
structure Appends (s t : State) : Prop where
  frame : t = (s.setPlan { s.plan with list := t.plan.list, window := t.plan.window }).setBal { s.bal with queue := t.bal.queue }
  list : t.plan.list ⊆ s.plan.list
  window : ∃ new, t.plan.window = s.plan.window ++ new
  queue : ∃ new, t.bal.queue = s.bal.queue ++ new ∧ ∀ q ∈ new, q.id ∈ s.plan.list.map PlanRecord.id

theorem Appends.refl (s : State) : Appends s s := ⟨rfl, List.Subset.refl _, ⟨[], by simp⟩, ⟨[], by simp, nofun⟩⟩

theorem Appends.trans (h : Appends s t) (k : Appends t u) : Appends s u where
  frame := by
    conv_lhs => rw [k.frame, h.frame]
    rfl
  list := List.Subset.trans k.list h.list
  window := by
    obtain ⟨first, hw⟩ := h.window
    obtain ⟨second, kw⟩ := k.window
    exact ⟨first ++ second, by rw [kw, hw, List.append_assoc]⟩
  queue := by
    obtain ⟨first, hq, fromList⟩ := h.queue
    obtain ⟨second, kq, fromRest⟩ := k.queue
    refine ⟨first ++ second, by rw [kq, hq, List.append_assoc], fun q mem => (List.mem_append.mp mem).elim (fromList q) fun there => ?_⟩
    exact List.map_subset _ h.list (fromRest q there)

theorem appends_issueHead {rest : List PlanRecord} (list : s.plan.list = r :: rest) (kind : r.kind ≠ .shift) :
    Appends s (issueHead r rest s) := by
  rw [issueHead_of_step kind]
  refine ⟨rfl, ?_, ⟨_, rfl⟩, ⟨_, rfl, fun q mem => ?_⟩⟩
  · rw [list]
    exact List.subset_cons_self ..
  · rw [List.mem_singleton.mp mem, list]
    exact List.mem_cons_self

/-- While a leg is off STANCE an issue appends, and does nothing more (R76). -/
theorem appends_issue (off : (s.legs.get l).phase ≠ .stance) : Appends s (issue s) := by
  refine (issue_induction (P := fun s t => (s.legs.get l).phase ≠ .stance → Appends s t ∧ (t.legs.get l).phase ≠ .stance)
    (fun s off => ⟨.refl s, off⟩)
    (fun s t u first second off => ⟨(first off).1.trans (second (first off).2).1, (second (first off).2).2⟩)
    (fun s r rest list may off => ?_) s off).1
  have kind : r.kind ≠ .shift := fun shift => by
    obtain ⟨-, -, -, -, -, -, -, shifts⟩ := may
    exact off ((shifts shift).2 l)
  exact ⟨appends_issueHead list kind, by rw [(planned_issueHead r rest s).phase]; exact off⟩

/-! ## The lift of one leg -/

/-- A window record marked CLAMPED where it is the one meant (R10). -/
def markedIf (id : Nat) (mark : Bool) (w : WindowRecord) : WindowRecord :=
  if mark = true ∧ w.body.id = id then { w with body := { w.body with clamped := true } } else w

theorem markedIf_id (id : Nat) (mark : Bool) (w : WindowRecord) : (markedIf id mark w).body.id = w.body.id := by
  unfold markedIf
  split <;> rfl

theorem markedIf_markedIf (id : Nat) (a b : Bool) (w : WindowRecord) : markedIf id b (markedIf id a w) = markedIf id (a || b) w := by
  unfold markedIf
  cases a <;> cases b <;> by_cases same : w.body.id = id <;> simp [same]

/-- From `s` the grant of a record has lifted some of its legs, and behind them records have been issued (R76, R100). -/
structure Grants (r : PlanRecord) (c : SurfaceClass) (ls : List Leg) (s t : State) : Prop where
  calm : Calm s t
  sup : t.sup = s.sup
  feet : t.feet = s.feet
  enters : s.sup.mode ≠ .parked → ∀ l ∈ ls, EntersLift s t r c l
  spares : ∀ m, m ∉ ls → Spares m s t
  list : t.plan.list ⊆ s.plan.list
  window : ∃ new, t.plan.window =
    s.plan.window.map (markedIf r.id (ls.any fun l => grantMarks s.geo l (stepDataFor l r c s))) ++ new
  queue : ∃ new, t.bal.queue = s.bal.queue ++ new ∧ ∀ q ∈ new, q.id ∈ s.plan.list.map PlanRecord.id

theorem isClamped_iff (g : Geometry) (l : Leg) (v : Vec3) : isClamped g l v = true ↔ hipTarget g l v ≠ toHip g l v := decide_eq_true_iff

theorem stepClamped_iff (s : State) (r : PlanRecord) (c : SurfaceClass) (l : Leg) :
    stepClamped s.geo l (stepDataFor l r c s) = true ↔ SomeClamped s.geo l (stepSetpoints s r c l) := by
  rw [stepClamped, Bool.or_eq_true, Bool.or_eq_true, isClamped_iff, isClamped_iff, isClamped_iff]
  simp only [SomeClamped, stepSetpoints, List.exists_mem_cons_iff, List.not_mem_nil, false_and, exists_false, or_false]
  exact or_assoc

theorem grantMarks_iff (s : State) (r : PlanRecord) (c : SurfaceClass) (l : Leg) :
    grantMarks s.geo l (stepDataFor l r c s) = true ↔ SomeClamped s.geo l (stepTarget s r l :: stepSetpoints s r c l) := by
  rw [grantMarks, Bool.or_eq_true, isClamped_iff, stepClamped_iff]
  simp only [SomeClamped, List.exists_mem_cons_iff]
  exact Iff.rfl

/-- A leg with the data of a step of its record (R100). -/
def LegSeq.formed (s : State) (r : PlanRecord) (c : SurfaceClass) (l : Leg) (q : LegSeq) : LegSeq :=
  { q with
    step := some (stepDataFor l r c s), clamped := stepClamped s.geo l (stepDataFor l r c s), motion := some .step
    record := some r.id }

/-- A leg that is lifted for that step. -/
def LegSeq.lifted (s : State) (r : PlanRecord) (c : SurfaceClass) (l : Leg) (q : LegSeq) : LegSeq :=
  { q.formed s r c l with phase := .lift, timer := some (phaseTime q s.gait.liftTimeout) }

/-- The window with a record marked where it has to be (R10). -/
def markedPlan (id : Nat) (mark : Bool) (p : Planner) : Planner := { p with window := p.window.map (markedIf id mark) }

theorem markedIf_false (id : Nat) (w : WindowRecord) : markedIf id false w = w := if_neg fun h => Bool.false_ne_true h.1

theorem markIf_eq (mark : Bool) (id : Nat) (s : State) :
    (if mark then markRecord id s else s) = s.setPlan (markedPlan id mark s.plan) := by
  cases mark with
  | true =>
    have same : markedIf id true = fun w => if w.body.id = id then { w with body := { w.body with clamped := true } } else w :=
      funext fun w => by simp [markedIf]
    rw [markedPlan, same]
    rfl
  | false =>
    have same : s.plan.window.map (markedIf id false) = s.plan.window := by
      rw [List.map_congr_left fun w _ => markedIf_false id w, List.map_id']
    rw [markedPlan, same]
    rfl

/-- The state in which the first setpoint of a granted leg is formed (R100). -/
def liftBegun (r : PlanRecord) (c : SurfaceClass) (l : Leg) (s : State) : State :=
  (modLeg l (LegSeq.lifted s r c l) s).setPlan (markedPlan r.id (grantMarks s.geo l (stepDataFor l r c s)) s.plan)

/-- The level a leg is lifted to (R100). -/
def liftTarget (c : SurfaceClass) (l : Leg) (s : State) : Vec3 := atLevel (bodyPos s l) ((bodyPos s l).z + (s.surf.get c).lift)

theorem grantLeg_shown (cls : r.cls = some c) :
    grantLeg r l s = issue (sendSetpoint l (liftTarget c l s) s.gait.liftSpeed (liftBegun r c l s)) := by
  have begun : startPhase l .lift s.gait.liftTimeout
      ((modLeg l (LegSeq.formed s r c l) s).setPlan (markedPlan r.id (grantMarks s.geo l (stepDataFor l r c s)) s.plan)) =
        liftBegun r c l s := by
    simp only [startPhase, modLeg, liftBegun, State.setLegs, State.setPlan, Quad.set_set, Quad.get_set_self]
    rfl
  have formed : grantLeg r l s = phaseChanged (sendSetpoint l (liftTarget c l s) s.gait.liftSpeed (startPhase l .lift s.gait.liftTimeout
      (if grantMarks s.geo l (stepDataFor l r c s) then markRecord r.id (modLeg l (LegSeq.formed s r c l) s)
        else modLeg l (LegSeq.formed s r c l) s))) := by
    unfold grantLeg
    rw [cls]
    rfl
  rw [formed, markIf_eq, show (modLeg l (LegSeq.formed s r c l) s).plan = s.plan from rfl, begun]
  refine phaseChanged_of_off (m := l) ?_
  rw [(planned_sendSetpoint ..).phase]
  simp [liftBegun, modLeg, LegSeq.lifted]

theorem grants_grantLeg (cls : r.cls = some c) : Grants r c [l] s (grantLeg r l s) := by
  have calm := calm_grantLeg r l s
  rw [grantLeg_shown cls] at calm ⊢
  have sent := commands_sendSetpoint l (liftTarget c l s) s.gait.liftSpeed (liftBegun r c l s)
  generalize sendSetpoint l (liftTarget c l s) s.gait.liftSpeed (liftBegun r c l s) = u at sent calm ⊢
  have leg : u.legs.get l = (LegSeq.lifted s r c l (s.legs.get l)).sent (hipTarget s.geo l (liftTarget c l s)) (some s.gait.liftSpeed) := by
    rw [sent.told l (List.mem_singleton.mpr rfl)]
    exact congrArg (LegSeq.sent _ _) (Quad.get_set_self ..)
  have appends : Appends u (issue u) := appends_issue (l := l) (by rw [leg]; exact Phase.noConfusion)
  generalize issue u = t at appends calm ⊢
  have legs : t.legs = u.legs := by rw [appends.frame]; rfl
  have bus : t.bus = u.bus := by rw [appends.frame]; rfl
  have sup : t.sup = u.sup := by rw [appends.frame]; rfl
  have feet : t.feet = u.feet := by rw [appends.frame]; rfl
  have plan : u.plan = markedPlan r.id (grantMarks s.geo l (stepDataFor l r c s)) s.plan := sent.plan
  have bal : u.bal = s.bal := sent.bal
  refine ⟨calm, sup.trans sent.sup, feet.trans sent.feet, fun running m mem => ?_, fun m away => ?_, ?_, ?_, ?_⟩
  · obtain rfl := List.mem_singleton.mp mem
    have waits := sent.waits running m (List.mem_singleton.mpr rfl)
    rw [EntersLift, Moves, legs, bus, leg]
    refine ⟨rfl, rfl, stepClamped_iff s r c m, rfl, rfl, rfl, rfl, rfl, ?_⟩
    have derating : ((liftBegun r c m s).legs.get m).derating = (s.legs.get m).derating := by
      simp [liftBegun, modLeg, LegSeq.lifted, LegSeq.formed]
    rw [setpointTo, deratedSpeed_eq, derating] at waits
    exact waits
  · have spared := sent.spares away
    have other : m ≠ l := fun same => away (List.mem_singleton.mpr same)
    refine ⟨?_, fun x mem mine => ?_⟩
    · rw [legs, spared.leg]
      exact Quad.get_set_of_ne _ other _
    · rw [bus]
      exact spared.waits x mem mine
  · refine List.Subset.trans appends.list ?_
    rw [plan]
    exact List.Subset.refl _
  · obtain ⟨new, window⟩ := appends.window
    refine ⟨new, ?_⟩
    rw [window, plan]
    simp [markedPlan]
  · obtain ⟨new, queue, fromList⟩ := appends.queue
    rw [plan] at fromList
    exact ⟨new, by rw [queue, bal], fromList⟩

/-! ## The lift of several legs -/

/-- What a grant would fix for a leg does not change while neither geometry, surfaces, gait, drive, foot nor leg does. -/
theorem EntersLift.congr (h : EntersLift t u r c l) (quiet : Quiet s t) (feet : t.feet = s.feet)
    (leg : t.legs.get l = s.legs.get l) : EntersLift s u r c l := by
  have pos : bodyPos t l = bodyPos s l := by
    rw [bodyPos, bodyPos, heldPos, heldPos, quiet.geo, quiet.drives]
  unfold EntersLift stepTarget stepSetpoints stepTarget at h ⊢
  rwa [pos, quiet.geo, quiet.surf, quiet.gait, feet, leg] at h

/-- A leg that has been lifted is spared by what follows. -/
theorem EntersLift.spared (h : EntersLift s t r c l) (spares : Spares l t u) : EntersLift s u r c l := by
  unfold EntersLift Moves at h ⊢
  rw [spares.leg]
  obtain ⟨step, record, clamped, phase, motion, commanded, reached, timer, waits⟩ := h
  exact ⟨step, record, clamped, phase, motion, commanded, reached, timer, spares.waits _ waits rfl⟩

theorem stepDataFor_congr (quiet : Quiet s t) (feet : t.feet = s.feet) (r : PlanRecord) (c : SurfaceClass) (l : Leg) :
    stepDataFor l r c t = stepDataFor l r c s := by
  have pos : bodyPos t l = bodyPos s l := by
    rw [bodyPos, bodyPos, heldPos, heldPos, quiet.geo, quiet.drives]
  rw [stepDataFor, stepDataFor, pos, quiet.surf, feet]

theorem Grants.refl (r : PlanRecord) (c : SurfaceClass) (s : State) : Grants r c [] s s where
  calm := .refl s
  sup := rfl
  feet := rfl
  enters _ l mem := absurd mem List.not_mem_nil
  spares m _ := .refl m s
  list := List.Subset.refl _
  window := ⟨[], by simp [List.map_congr_left fun w _ => markedIf_false r.id w]⟩
  queue := ⟨[], by simp, nofun⟩

theorem Grants.trans (h : Grants r c ls s t) (k : Grants r c ms t u) (apart : ∀ l ∈ ls, l ∉ ms) : Grants r c (ls ++ ms) s u where
  calm := h.calm.trans k.calm
  sup := k.sup.trans h.sup
  feet := k.feet.trans h.feet
  enters running l mem := by
    rcases List.mem_append.mp mem with first | second
    · exact (h.enters running l first).spared (k.spares l (apart l first))
    · exact (k.enters (by rw [h.sup]; exact running) l second).congr h.calm.quiet h.feet (h.spares l fun first => apart l first second).leg
  spares m away := by
    obtain ⟨first, second⟩ := not_or.mp (List.mem_append.not.mp away)
    exact (h.spares m first).trans (k.spares m second)
  list := List.Subset.trans k.list h.list
  window := by
    obtain ⟨first, hw⟩ := h.window
    obtain ⟨second, kw⟩ := k.window
    simp only [stepDataFor_congr h.calm.quiet h.feet, h.calm.quiet.geo] at kw
    refine ⟨first.map (markedIf r.id (ms.any fun l => grantMarks s.geo l (stepDataFor l r c s))) ++ second, ?_⟩
    rw [kw, hw, List.map_append, List.map_map, List.append_assoc, List.any_append]
    refine congrArg (· ++ _) (List.map_congr_left fun w _ => ?_)
    exact markedIf_markedIf ..
  queue := by
    obtain ⟨first, hq, fromList⟩ := h.queue
    obtain ⟨second, kq, fromRest⟩ := k.queue
    refine ⟨first ++ second, by rw [kq, hq, List.append_assoc], fun q mem => (List.mem_append.mp mem).elim (fromList q) fun there => ?_⟩
    exact List.map_subset _ h.list (fromRest q there)

theorem grants_grantLegs (cls : r.cls = some c) (nodup : ls.Nodup) (s : State) : Grants r c ls s (forLegs (grantLeg r) ls s) := by
  induction ls generalizing s with
  | nil => exact .refl r c s
  | cons l rest ih =>
    obtain ⟨fresh, nodup⟩ := List.nodup_cons.mp nodup
    exact (grants_grantLeg cls).trans (ih nodup _) fun m mem => by rw [List.mem_singleton.mp mem]; exact fresh

/-! ## The grant of a request -/

/-- The state in which the legs of a granted request are lifted: the request gone, its record GRANTED (R75, R113). -/
def released (q : SwingRequest) (s : State) : State := modWindow q.id (fun w => { w with cond := .granted }) (dropRequest s)

theorem findWindow_modWindow {id : Nat} {f : WindowRecord → WindowRecord} (same : ∀ w, (f w).body.id = w.body.id) (s : State) :
    findWindow id (modWindow id f s) = (findWindow id s).map f := by
  have ids : ∀ w : WindowRecord, (if w.body.id = id then f w else w).body.id = w.body.id := fun w => by
    split
    · exact same w
    · rfl
  have tests : (fun w : WindowRecord => decide (w.body.id = id)) ∘ (fun w => if w.body.id = id then f w else w) =
      fun w => decide (w.body.id = id) := funext fun w => by simp only [Function.comp_apply, ids]
  unfold findWindow modWindow
  rw [State.setPlan_plan, List.find?_map, tests]
  cases found : s.plan.window.find? fun w => decide (w.body.id = id) with
  | none => rfl
  | some w =>
    have named : w.body.id = id := by simpa using List.find?_some found
    simp [named]

theorem grants_grant {q : SwingRequest} {w : WindowRecord} (found : findWindow q.id s = some w) (cls : w.body.cls = some c)
    (nodup : q.legs.Nodup) : Grants w.body c q.legs (released q s) (grant q s) := by
  have seat : findWindow q.id (released q s) = some { w with cond := .granted } := by
    rw [released, findWindow_modWindow (f := fun w => { w with cond := .granted }) (fun _ => rfl), show findWindow q.id (dropRequest s) = some w from found]
    rfl
  have shown : grant q s = forLegs (grantLeg w.body) q.legs (released q s) := by
    unfold grant
    dsimp only
    rw [show findWindow q.id (modWindow q.id (fun w => { w with cond := .granted }) (dropRequest s)) = _ from seat]
    rfl
  rw [shown]
  exact grants_grantLegs cls nodup _

/-- The record of a granted request in the window (R10, R75, R100). -/
theorem Grants.record {q : SwingRequest} {w : WindowRecord} (h : Grants w.body c q.legs (released q s) t) (mem : w ∈ s.plan.window)
    (named : w.body.id = q.id) : GrantedRecord s t w.body c q.legs := by
  obtain ⟨new, window⟩ := h.window
  have there : markedIf w.body.id (q.legs.any fun l => grantMarks s.geo l (stepDataFor l w.body c s)) { w with cond := .granted } ∈
      t.plan.window := by
    rw [window]
    refine List.mem_append_left _ (List.mem_map_of_mem ?_)
    exact List.mem_map.mpr ⟨w, mem, if_pos named⟩
  refine ⟨_, there, markedIf_id .., ?_, ?_⟩
  · unfold markedIf
    split <;> rfl
  · have marks : (q.legs.any fun l => grantMarks s.geo l (stepDataFor l w.body c s)) = true ↔
        ∃ l ∈ q.legs, SomeClamped s.geo l (stepTarget s w.body l :: stepSetpoints s w.body c l) := by
      rw [List.any_eq_true]
      exact exists_congr fun l => and_congr_right fun _ => grantMarks_iff s w.body c l
    rw [← marks]
    generalize (q.legs.any fun l => grantMarks s.geo l (stepDataFor l w.body c s)) = mark
    unfold markedIf
    cases mark <;> simp

/-- What stands in the window under another id is left by a grant (R75, R10). -/
theorem Grants.other {q : SwingRequest} {w v : WindowRecord} (h : Grants w.body c q.legs (released q s) t) (named : w.body.id = q.id)
    (mem : v ∈ s.plan.window) (other : v.body.id ≠ q.id) : v ∈ t.plan.window := by
  obtain ⟨new, window⟩ := h.window
  rw [window]
  refine List.mem_append_left _ (List.mem_map.mpr ⟨v, List.mem_map.mpr ⟨v, mem, if_neg other⟩, if_neg fun h => other (h.2.trans named)⟩)

theorem GrantedRecord.congr (h : GrantedRecord t u r c ls) (quiet : Quiet s t) : GrantedRecord s u r c ls := by
  have pos : ∀ l, bodyPos t l = bodyPos s l := fun l => by
    rw [bodyPos, bodyPos, heldPos, heldPos, quiet.geo, quiet.drives]
  unfold GrantedRecord stepSetpoints stepTarget at h ⊢
  simpa only [pos, quiet.geo, quiet.surf] using h

/-- Of two records in the window the second is found after the grant of the first (R75). -/
theorem Grants.findWindow_second {q r : SwingRequest} {v w : WindowRecord} (h : Grants v.body c q.legs (released q s) t)
    (both : s.plan.window = [v, w]) (seatQ : v.body.id = q.id) (seatR : w.body.id = r.id) (apart : q.id ≠ r.id) :
    findWindow r.id t = some w := by
  obtain ⟨new, window⟩ := h.window
  have first : (released q s).plan.window = [{ v with cond := .granted }, w] := by
    show s.plan.window.map _ = _
    rw [both]
    simp [seatQ, seatR, Ne.symm apart]
  have other : w.body.id ≠ v.body.id := by rw [seatR, seatQ]; exact Ne.symm apart
  have unmarked : ∀ mark, markedIf v.body.id mark w = w := fun mark => if_neg fun h => other h.2
  rw [findWindow, window, first, List.map_cons, List.map_singleton, unmarked, List.cons_append,
    List.find?_cons_of_neg (by rw [markedIf_id]; simp [seatQ, apart]), List.singleton_append,
    List.find?_cons_of_pos (by simp [seatR])]

/-- The legs of two grants, one after the other (R100, R113). -/
theorem Grants.enters_both {q r : SwingRequest} {v w : WindowRecord} {d : SurfaceClass}
    (h : Grants v.body c q.legs (released q s) t) (k : Grants w.body d r.legs (released r t) u) (unparked : s.sup.mode ≠ .parked)
    (away : ∀ l ∈ q.legs, l ∉ r.legs) :
    (∀ l ∈ q.legs, EntersLift s u v.body c l) ∧ ∀ l ∈ r.legs, EntersLift s u w.body d l := by
  have quiet : Quiet s (released r t) := (((calm_dropRequest s).trans (calm_modWindow ..)).trans
    (h.calm.trans ((calm_dropRequest t).trans (calm_modWindow ..)))).quiet
  refine ⟨fun l mem => ?_, fun l mem => ?_⟩
  · refine EntersLift.spared (h.enters unparked l mem) (.trans ?_ (k.spares l (away l mem)))
    exact .of_eq rfl rfl
  · have entered := k.enters (by show t.sup.mode ≠ _; rw [h.sup]; exact unparked) l mem
    exact entered.congr quiet h.feet (h.spares l fun mine => away l mine mem).leg

/-- Settles O35: one grant, and a second one in the state that the first has left. -/
theorem grantBeginsAStep : Obligations.GrantBeginsAStep := by
  unfold Obligations.GrantBeginsAStep
  intro s e running standing runs free clear still asked read passes
  have unparked : s.sup.mode ≠ .parked := fun parked => Mode.noConfusion (standing.symm.trans parked)
  rw [exec_evaluationComplete_of_grants running standing runs free clear still asked, read]
  have same : (considered e s).bal.queue = s.bal.queue ∧ (considered e s).plan = s.plan ∧ Quiet s (considered e s) :=
    ⟨rfl, rfl, quiet_setBal s _⟩
  have feet : (considered e s).feet = s.feet := rfl
  have legs : ∀ l, (considered e s).legs.get l = s.legs.get l := fun _ => rfl
  have unparked' : (considered e s).sup.mode ≠ .parked := unparked
  generalize considered e s = x at same feet legs unparked' ⊢
  obtain ⟨sameQueue, samePlan, quiet⟩ := same
  refine ⟨fun q w c queue nodup alone seat cls pass => ?_, fun q r v w c d queue nodup both seatQ seatR apart clsQ clsR passQ passR => ?_⟩
  · have found : findWindow q.id x = some w := by
      rw [← seat]
      exact findWindow_of_alone (by rw [samePlan]; exact alone)
    have h := grants_grant found cls nodup
    rw [queue] at sameQueue
    rw [queue, arbiter_of_passes sameQueue rfl pass]
    rw [show arbiter e [] ([] ++ q.legs) (grant q x) = grant q x from rfl]
    generalize grant q x = t at h
    obtain ⟨new, left, fromList⟩ := h.queue
    have tail : (released q x).bal.queue = [] := by
      show x.bal.queue.tail = []
      rw [sameQueue]
      rfl
    refine ⟨t, rfl, ?_, (h.record (List.mem_of_find?_eq_some found) seat).congr quiet,
      fun l mem => (EntersLift.congr (t := x) (h.enters unparked' l mem) quiet feet (legs l)), fun m away => congrArg LegSeq.phase ((h.spares m away).leg.trans (legs m))⟩
    rw [left, tail, ← samePlan]
    exact fromList
  · obtain ⟨nodupQ, nodupR, disjoint⟩ := List.nodup_append.mp nodup
    have away : ∀ l ∈ q.legs, l ∉ r.legs := fun l one other => disjoint l one l other rfl
    rw [← samePlan] at both
    have foundQ : findWindow q.id x = some v := by
      rw [findWindow, both]
      simp [seatQ]
    have h := grants_grant foundQ clsQ nodupQ
    rw [queue] at sameQueue
    rw [queue, arbiter_of_passes sameQueue rfl passQ, List.nil_append]
    generalize grant q x = t at h
    obtain ⟨granted, there, id, cond, clamped⟩ := (h.record (List.mem_of_find?_eq_some foundQ) seatQ).congr quiet
    obtain ⟨newQ, leftQ, fromListQ⟩ := h.queue
    have tail : (released q x).bal.queue = [r] := by
      show x.bal.queue.tail = [r]
      rw [sameQueue]
      rfl
    have foundR := h.findWindow_second both seatQ seatR apart
    rw [tail, List.singleton_append] at leftQ
    have k := grants_grant foundR clsR nodupR
    rw [arbiter_of_passes leftQ rfl passR, show arbiter e [] (q.legs ++ r.legs) (grant r t) = grant r t from rfl]
    generalize grant r t = u at k
    obtain ⟨newR, leftR, fromListR⟩ := k.queue
    obtain ⟨entersQ, entersR⟩ := h.enters_both k unparked' away
    have first : Quiet s t := quiet.trans (((calm_dropRequest x).trans (calm_modWindow ..)).trans h.calm).quiet
    have listed : t.plan.list.map PlanRecord.id ⊆ s.plan.list.map PlanRecord.id := by
      rw [← samePlan]
      exact List.map_subset _ h.list
    have later : (released r t).bal.queue = newQ := by
      show t.bal.queue.tail = newQ
      rw [leftQ]
      rfl
    refine ⟨u, rfl, fun y mem => ?_, ⟨granted, k.other seatR there fun same => apart ((seatQ.symm.trans id.symm).trans same), id, cond,
      clamped⟩, (k.record (List.mem_of_find?_eq_some foundR) seatR).congr first, fun l mem => (entersQ l mem).congr quiet feet (legs l),
      fun l mem => (entersR l mem).congr quiet feet (legs l)⟩
    rw [leftR, later] at mem
    rw [← samePlan] at listed ⊢
    exact (List.mem_append.mp mem).elim (fromListQ y) fun mem => listed (fromListR y mem)

end
end Sys2Proof.Machine
end

section
/-! A LEG'S STEP. What the phases of a step leave: a leg on its way, a leg that has landed, and the outcome reported for its record
(R78, R97, R101 to R109). -/

namespace Sys2Proof.Machine

section
variable {s t u : State} {l m : Leg} {w : WindowRecord} {o : Outcome} {v : Option Vec3}

/-! ## What a leg's sequencer does for itself -/

/-- From `s` to `t` legs and feet have changed, and setpoints have been handed over: nothing else. -/
def Legwork (s t : State) : Prop := t = ((s.setLegs t.legs).setFeet t.feet).setBus { s.bus with queue := t.bus.queue }

theorem Legwork.refl (s : State) : Legwork s s := rfl

theorem Legwork.trans (h : Legwork s t) (k : Legwork t u) : Legwork s u := by
  unfold Legwork at h k ⊢
  generalize t.legs = legs, t.feet = feet, t.bus.queue = queue at h
  conv_lhs => rw [k]
  rw [h]
  rfl

theorem Legwork.plan (h : Legwork s t) : t.plan = s.plan := by rw [h]; rfl
theorem Legwork.bal (h : Legwork s t) : t.bal = s.bal := by rw [h]; rfl
theorem Legwork.ev (h : Legwork s t) : t.ev = s.ev := by rw [h]; rfl
theorem Legwork.sup (h : Legwork s t) : t.sup = s.sup := by rw [h]; rfl
theorem Legwork.geo (h : Legwork s t) : t.geo = s.geo := by rw [h]; rfl
theorem Legwork.gait (h : Legwork s t) : t.gait = s.gait := by rw [h]; rfl
theorem Legwork.drives (h : Legwork s t) : t.bus.drives = s.bus.drives := by rw [h]; rfl

theorem legwork_modLeg (l : Leg) (f : LegSeq → LegSeq) (s : State) : Legwork s (modLeg l f s) := rfl

theorem legwork_modFoot (l : Leg) (f : Foot → Foot) (s : State) : Legwork s (modFoot l f s) := rfl

theorem legwork_sendSetpoint (l : Leg) (v : Vec3) (speed : Nat) (s : State) : Legwork s (sendSetpoint l v speed s) := by
  have h := commands_sendSetpoint l v speed s
  have feet := h.feet
  have frame := h.frame
  unfold Legwork
  generalize sendSetpoint l v speed s = t at feet frame
  rw [feet]
  exact frame

theorem legwork_sendHold (l : Leg) (s : State) : Legwork s (sendHold l s) := by
  have h := commands_sendHold l s
  have feet := h.feet
  have frame := h.frame
  unfold Legwork
  generalize sendHold l s = t at feet frame
  rw [feet]
  exact frame

/-! ## A leg on its way -/

/-- What spares a leg on its way leaves it on its way. -/
theorem Moves.spared {g : Geometry} {hot : Bool} {p : Phase} {a : Motion} {body : Vec3} {speed timeout : Nat}
    (h : Moves g hot l p a body speed timeout s) (spares : Spares l s t) : Moves g hot l p a body speed timeout t := by
  unfold Moves at h ⊢
  rw [spares.leg]
  obtain ⟨phase, motion, commanded, reached, timer, waits⟩ := h
  exact ⟨phase, motion, commanded, reached, timer, spares.waits _ waits rfl⟩

/-- A leg that begins a phase and is sent its setpoint is on its way (R97, R121). -/
theorem moves_startPhase {a : Motion} (p : Phase) (body : Vec3) (speed timeout : Nat) (motion : (s.legs.get l).motion = some a)
    (running : s.sup.mode ≠ .parked) :
    Moves s.geo (s.legs.get l).derating l p a body speed timeout (sendSetpoint l body speed (startPhase l p timeout s)) := by
  have h := commands_sendSetpoint l body speed (startPhase l p timeout s)
  have leg : (startPhase l p timeout s).legs.get l =
      { s.legs.get l with phase := p, timer := some (phaseTime (s.legs.get l) timeout) } := Quad.get_set_self ..
  have waits := h.waits running l (List.mem_singleton.mpr rfl)
  rw [setpointTo, leg, deratedSpeed_eq] at waits
  unfold Moves
  rw [h.told l (List.mem_singleton.mpr rfl), leg]
  exact ⟨rfl, motion, rfl, rfl, rfl, waits⟩

/-- On its way off STANCE, a leg stays so when its change of phase is reported (R96). -/
theorem Moves.phaseChanged {g : Geometry} {hot : Bool} {p : Phase} {a : Motion} {body : Vec3} {speed timeout : Nat}
    (h : Moves g hot l p a body speed timeout s) (off : p ≠ .stance) : Moves g hot l p a body speed timeout (phaseChanged s) := by
  have away : (s.legs.get l).phase ≠ .stance := by rw [h.1]; exact off
  rw [phaseChanged_of_off away]
  exact h.spared (spares_issue away l)

theorem landIfLoaded_of_unloaded (unloaded : (s.feet.get l).contact ≠ .loaded) : landIfLoaded l s = s := if_neg fun h => unloaded h.2

theorem landIfLoaded_of_loaded (reach : (s.legs.get l).phase = .reach) (loaded : (s.feet.get l).contact = .loaded) :
    landIfLoaded l s = landCore l s := if_pos ⟨reach, loaded⟩

/-! ## A leg that lands -/

theorem Lands.planned (h : Lands l s) (planned : Planned s t) : Lands l t := by
  obtain ⟨phase, timer, motion, record⟩ := h
  exact ⟨(planned.phase l).trans phase, (planned.timer l).trans timer, (planned.motion l).trans motion, (planned.record l).trans record⟩

/-- The motions that end without an outcome (R107 to R109). -/
def Motion.returns (a : Motion) : Prop := a = .retreat ∨ a = .recovery ∨ a = .descent

/-- The state in which a landing is stopped (R103). -/
def alighted (l : Leg) (s : State) : State := modLeg l (fun p => { p with phase := .stance, timer := none }) s

theorem landCore_of_returns {a : Motion} (motion : (s.legs.get l).motion = some a) (returns : a.returns) :
    landCore l s = modLeg l (fun p => { p with motion := none, record := none, step := none }) (stopDescent l (alighted l s)) := by
  unfold landCore
  dsimp only
  rw [motion]
  rcases returns with rfl | rfl | rfl <;> rfl

theorem landCore_of_held (motion : (s.legs.get l).motion = some .held) :
    landCore l s = modLeg l (fun p => { p with phase := .stance, timer := none, motion := none, record := none }) s := by
  unfold landCore
  dsimp only
  rw [motion]

/-- From `s` a leg has landed where it stood: its step's data gone, its stopping setpoint at its measured position (R103). -/
structure Stops (l : Leg) (s t : State) : Prop where
  work : Legwork s t
  lands : Lands l t
  step : (t.legs.get l).step = none
  commanded : (t.legs.get l).commanded = hipTarget s.geo l (bodyPos s l)
  waits : s.sup.mode ≠ .parked → (⟨l, .setpoint (hipTarget s.geo l (bodyPos s l))
    (spared (s.legs.get l).derating s.gait.reachSpeed) false⟩ : Txn) ∈ t.bus.queue

theorem stopDescent_spec (l : Leg) (s : State) :
    (stopDescent l (alighted l s)).legs.get l =
        ({ s.legs.get l with phase := .stance, timer := none } : LegSeq).sent (hipTarget s.geo l (bodyPos s l)) (some s.gait.reachSpeed) ∧
      Legwork s (stopDescent l (alighted l s)) ∧
      (s.sup.mode ≠ .parked → (⟨l, .setpoint (hipTarget s.geo l (bodyPos s l))
        (spared (s.legs.get l).derating s.gait.reachSpeed) false⟩ : Txn) ∈ (stopDescent l (alighted l s)).bus.queue) := by
  have h := commands_sendSetpoint l (bodyPos (alighted l s) l) (alighted l s).gait.reachSpeed (alighted l s)
  have leg : (alighted l s).legs.get l = { s.legs.get l with phase := .stance, timer := none } := Quad.get_set_self ..
  refine ⟨?_, (legwork_modLeg l _ s).trans (legwork_sendSetpoint ..), fun running => ?_⟩
  · rw [stopDescent, h.told l (List.mem_singleton.mpr rfl), leg]
    rfl
  · have waits := h.waits running l (List.mem_singleton.mpr rfl)
    rw [setpointTo, leg, deratedSpeed_eq] at waits
    exact waits

theorem stops_landCore {a : Motion} (motion : (s.legs.get l).motion = some a) (returns : a.returns) : Stops l s (landCore l s) := by
  obtain ⟨leg, work, waits⟩ := stopDescent_spec l s
  rw [landCore_of_returns motion returns]
  generalize stopDescent l (alighted l s) = t at leg work waits
  have landed : (modLeg l (fun p => { p with motion := none, record := none, step := none }) t).legs.get l =
      { t.legs.get l with motion := none, record := none, step := none } := Quad.get_set_self ..
  refine ⟨work.trans (legwork_modLeg ..), ?_, ?_, ?_, waits⟩
  · rw [Lands, landed, leg]
    exact ⟨rfl, rfl, rfl, rfl⟩
  · rw [landed]
  · rw [landed, leg]
    rfl

/-! ## An outcome reported -/

/-- The record with one more leg's report (R78). -/
def WindowRecord.reporting (w : WindowRecord) (r : LegReport) : WindowRecord := { w with reports := w.reports ++ [r] }

/-- The state in which a leg's report has joined its record (R78). -/
def reportedIn (w : WindowRecord) (r : LegReport) (s : State) : State := modWindow w.body.id (fun _ => w.reporting r) s

/-- Every leg of a record has reported. -/
def WindowRecord.complete (w : WindowRecord) : Prop := ∀ m ∈ w.body.legs, ∃ r ∈ w.reports, r.leg = m

theorem hasReported_iff (w : WindowRecord) (l : Leg) : w.hasReported l = true ↔ ∃ r ∈ w.reports, r.leg = l := by
  simp [WindowRecord.hasReported]

theorem complete_iff (w : WindowRecord) : w.body.legs.all w.hasReported = true ↔ w.complete := by
  simp only [List.all_eq_true, hasReported_iff, WindowRecord.complete]

theorem reportOutcome_of_serving (mem : w ∈ s.plan.window) (nodup : (s.plan.window.map fun w => w.body.id).Nodup)
    (record : (s.legs.get l).record = some w.body.id) (granted : w.cond = .granted) :
    ((w.reporting ⟨l, o, v⟩).complete → reportOutcome l o v s =
      completeRecord w.body.id (worstStatus (w.reporting ⟨l, o, v⟩)) (reportedIn w ⟨l, o, v⟩ s)) ∧
    (¬ (w.reporting ⟨l, o, v⟩).complete → reportOutcome l o v s = reportedIn w ⟨l, o, v⟩ s) := by
  have shown : reportOutcome l o v s =
      if (w.reporting ⟨l, o, v⟩).body.legs.all (w.reporting ⟨l, o, v⟩).hasReported then
        completeRecord w.body.id (worstStatus (w.reporting ⟨l, o, v⟩)) (reportedIn w ⟨l, o, v⟩ s)
      else reportedIn w ⟨l, o, v⟩ s := by
    unfold reportOutcome
    rw [record]
    dsimp only
    rw [findWindow_of_mem nodup mem]
    exact if_pos granted
  rw [shown]
  exact ⟨fun all => if_pos ((complete_iff _).mpr all), fun some => if_neg (mt (complete_iff _).mp some)⟩

/-- The worst of the reported outcomes, with the record's mark (R78). -/
theorem finalStatus_worstStatus (w : WindowRecord) : finalStatus w (worstStatus w) = worstOf w.reports w.body.clamped := by
  have any : ∀ o, w.anyOutcome o = true ↔ ∃ r ∈ w.reports, r.outcome = o := fun o => by simp [WindowRecord.anyOutcome]
  unfold worstStatus worstOf
  by_cases missed : ∃ r ∈ w.reports, r.outcome = .missed
  · rw [if_pos ((any _).mpr missed), if_pos missed]
    rfl
  · rw [if_neg (mt (any _).mp missed), if_neg missed]
    by_cases snagged : ∃ r ∈ w.reports, r.outcome = .snagged
    · rw [if_pos ((any _).mpr snagged), if_pos snagged]
      rfl
    · rw [if_neg (mt (any _).mp snagged), if_neg snagged]
      by_cases clamped : ∃ r ∈ w.reports, r.outcome = .clamped
      · rw [if_pos ((any _).mpr clamped), if_pos (.inr clamped)]
        rfl
      · rw [if_neg (mt (any _).mp clamped), finalStatus]
        exact if_congr ⟨fun h => .inl h.2, fun h => ⟨rfl, h.resolve_right clamped⟩⟩ rfl rfl

theorem othersOf_reportedIn (w : WindowRecord) (r : LegReport) (s : State) :
    othersOf (w.reporting r) (reportedIn w r s).plan.window = othersOf w s.plan.window := by
  show ((s.plan.window.map fun v => if v.body.id = w.body.id then w.reporting r else v).filter fun v => decide (v.body.id ≠ w.body.id)) =
    s.plan.window.filter fun v => decide (v.body.id ≠ w.body.id)
  induction s.plan.window with
  | nil => rfl
  | cons v rest ih =>
    by_cases same : v.body.id = w.body.id
    · simp [same, WindowRecord.reporting] at ih ⊢
      exact ih
    · simp [same] at ih ⊢
      exact ih

theorem mem_reportedIn (mem : w ∈ s.plan.window) (r : LegReport) : w.reporting r ∈ (reportedIn w r s).plan.window :=
  List.mem_map.mpr ⟨w, mem, if_pos rfl⟩

theorem nodup_reportedIn (nodup : (s.plan.window.map fun w => w.body.id).Nodup) (r : LegReport) :
    ((reportedIn w r s).plan.window.map fun w => w.body.id).Nodup := by
  have same : ((reportedIn w r s).plan.window.map fun w => w.body.id) = s.plan.window.map fun w => w.body.id := by
    show (List.map _ (List.map _ _)) = _
    rw [List.map_map]
    refine List.map_congr_left fun v _ => ?_
    show (if v.body.id = w.body.id then w.reporting r else v).body.id = v.body.id
    split
    case isTrue same => exact same.symm
    case isFalse => rfl
  rw [same]
  exact nodup

/-- The last report of a record completes it (R78 to R80, R87). -/
theorem completes_reportOutcome (mem : w ∈ s.plan.window) (nodup : (s.plan.window.map fun w => w.body.id).Nodup)
    (record : (s.legs.get l).record = some w.body.id) (granted : w.cond = .granted) (all : (w.reporting ⟨l, o, v⟩).complete)
    (closes : Closes w (worstStatus (w.reporting ⟨l, o, v⟩)) s) :
    Completes (w.reporting ⟨l, o, v⟩) (worstStatus (w.reporting ⟨l, o, v⟩)) (reportedIn w ⟨l, o, v⟩ s) (reportOutcome l o v s) := by
  rw [(reportOutcome_of_serving mem nodup record granted).1 all]
  exact completes_completeRecord (w := w.reporting ⟨l, o, v⟩) (findWindow_of_mem (nodup_reportedIn nodup _) (mem_reportedIn mem _)) closes

end
end Sys2Proof.Machine
end

section
/-! THE PHASE TIMER. A snag, a missed foothold, and a recovery, retreat or descent that fails (R101 to R109). -/

namespace Sys2Proof.Machine

section
variable {s t u : State} {l m : Leg} {w : WindowRecord} {o : Outcome} {v : Option Vec3} {st : Status}

/-! ## What a completion logs and counts -/

theorem logOverwrites_countDone (k : RecordKind) (st : Status) (c : Counters) :
    (countDone (completionCounter k st) c).logOverwrites = c.logOverwrites := by
  cases k <;> cases st <;> rfl

/-- The entry of a completed record is the one that joined the log (R79, R80). -/
theorem Completes.logged (h : Completes w st s t) (room : s.plan.log.length ≤ 16) :
    Logged s t [logEntryOf w (finalStatus w st) s.ev.time] := by
  have log : t.plan.log = pushed s.plan.log (logEntryOf w (finalStatus w st) s.ev.time) := h.plan.1
  have counters : t.ev.counters.logOverwrites = (pushCount s.plan.log.length s.ev.counters).logOverwrites := by
    rw [h.counters, logOverwrites_countDone]
  have before : Logged s s [] := Logged.nil room rfl rfl
  have pushes := before.push room log counters
  rwa [List.nil_append] at pushes

/-- The step counters of a completion: at most the one of its status rises (R79). -/
theorem steps_countDone {k : RecordKind} (kind : k ≠ .shift) (st : Status) (n : Nat) (c : Counters) :
    let after := countDone (completionCounter k st) (pushCount n c)
    after.stepsOk = c.stepsOk + (if st = .ok then 1 else 0) ∧
      after.stepsClamped = c.stepsClamped + (if st = .clamped then 1 else 0) ∧
      after.stepsMissed = c.stepsMissed + (if st = .missed then 1 else 0) := by
  have kept : (pushCount n c).stepsOk = c.stepsOk ∧ (pushCount n c).stepsClamped = c.stepsClamped ∧
      (pushCount n c).stepsMissed = c.stepsMissed := by
    unfold pushCount
    split <;> exact ⟨rfl, rfl, rfl⟩
  obtain ⟨ok, clamped, missed⟩ := kept
  cases k with
  | shift => exact absurd rfl kind
  | step | pair => cases st <;> simp [completionCounter, countDone, Counters.bump, ok, clamped, missed]

theorem snags_countDone (k : RecordKind) (st : Status) (n : Nat) (c : Counters) :
    (countDone (completionCounter k st) (pushCount n c)).snags = c.snags := by
  have kept : (pushCount n c).snags = c.snags := by
    unfold pushCount
    split <;> rfl
  cases k <;> cases st <;> exact kept

/-! ## No planner operation counts a snag -/

theorem snags_drain (s : State) : (drain s).ev.counters = s.ev.counters := by
  by_cases active : s.plan.state = .active
  · exact (drains_drain active).counters
  · rw [drain, if_neg active]

theorem snags_completionActs (st : Status) (hold : Bool) (s : State) : (completionActs st hold s).ev.counters = s.ev.counters := by
  unfold completionActs
  split
  · split
    · exact snags_drain s
    · rw [(idleIfEmpty_spec (issue s)).2.1, (issues_issue s).ev]
  · split
    case isTrue draining => exact (endsIf_suspendIfEmpty draining).counters
    case isFalse => rfl

theorem snags_completeRecord (id : Nat) (st : Status) (s : State) :
    (completeRecord id st s).ev.counters.snags = s.ev.counters.snags := by
  unfold completeRecord
  split
  · rfl
  · rw [snags_completionActs, (finishes_finishRecord ..).counters, snags_countDone]

theorem snags_reportOutcome (l : Leg) (o : Outcome) (v : Option Vec3) (s : State) :
    (reportOutcome l o v s).ev.counters.snags = s.ev.counters.snags := by
  unfold reportOutcome
  split
  · rfl
  · split
    · rfl
    · dsimp only
      split
      · split
        · exact snags_completeRecord ..
        · rfl
      · rfl

/-! ## What follows a report -/

/-- From `s` to `t` nothing of the plan and the grant queue has changed, and of the counters the snags at most. -/
structure Sequel (s t : State) : Prop where
  plan : t.plan = s.plan
  queue : t.bal.queue = s.bal.queue
  sup : t.sup = s.sup
  flags : ∀ e, hasEvent s.ev.pending e = true → hasEvent t.ev.pending e = true
  counters : ∃ n, t.ev.counters = { s.ev.counters with snags := n }

theorem Sequel.trans (h : Sequel s t) (k : Sequel t u) : Sequel s u where
  plan := k.plan.trans h.plan
  queue := k.queue.trans h.queue
  sup := k.sup.trans h.sup
  flags e set := k.flags e (h.flags e set)
  counters := by
    obtain ⟨_, hc⟩ := h.counters
    obtain ⟨n, kc⟩ := k.counters
    exact ⟨n, by rw [kc, hc]⟩

theorem Legwork.sequel (h : Legwork s t) : Sequel s t :=
  ⟨h.plan, by rw [h.bal], h.sup, fun e set => by rw [h.ev]; exact set, s.ev.counters.snags, by rw [h.ev]⟩

theorem sequel_raise (e : Event) (s : State) : Sequel s (raise e s) := by
  obtain ⟨books, plan, counters⟩ := books_raise e s
  exact ⟨plan, by rw [books.bal], books.sup, books.flags, s.ev.counters.snags, by rw [counters]⟩

theorem sequel_bump_snags (s : State) : Sequel s (bump .snags s) := ⟨rfl, rfl, rfl, fun _ => id, _, rfl⟩

/-- An issue that finds the window taken appends, for it issues no SHIFT (R76). -/
theorem appends_issue_of_window (taken : s.plan.window ≠ []) : Appends s (issue s) := by
  refine (issue_induction (P := fun s t => s.plan.window ≠ [] → Appends s t ∧ t.plan.window ≠ [])
    (fun s taken => ⟨.refl s, taken⟩)
    (fun s t u first second taken => ⟨(first taken).1.trans (second (first taken).2).1, (second (first taken).2).2⟩)
    (fun s r rest list may taken => ?_) s taken).1
  have kind : r.kind ≠ .shift := fun shift => by
    obtain ⟨-, -, -, -, -, -, -, shifts⟩ := may
    exact taken (shifts shift).1
  have h := appends_issueHead list kind
  obtain ⟨new, window⟩ := h.window
  exact ⟨h, by rw [window]; exact List.append_ne_nil_of_left_ne_nil taken _⟩

/-! ## A failure reported -/

/-- From `s` a leg's report of a failure has joined its record, and what follows has left `t`: with a leg still to report the record
stays; with the last it completes, and a plan that runs drains (R78 to R80, R85 to R87). -/
def FailureReported (w : WindowRecord) (r : LegReport) (s t : State) : Prop :=
  let reports := w.reports ++ [r]
  let others := s.plan.window.filter fun v => decide (v.body.id ≠ w.body.id)
  let done := worstOf reports w.body.clamped
  ((∃ m ∈ w.body.legs, ∀ r ∈ reports, r.leg ≠ m) →
    { w with reports := reports } ∈ t.plan.window ∧ t.plan.log = s.plan.log ∧ t.plan.state = s.plan.state) ∧
  ((∀ m ∈ w.body.legs, ∃ r ∈ reports, r.leg = m) →
    Logged s t [entryOf s w done []] ∧
    t.ev.counters.stepsMissed = s.ev.counters.stepsMissed + (if done = .missed then 1 else 0) ∧
    t.ev.counters.stepsOk = s.ev.counters.stepsOk ∧ t.ev.counters.stepsClamped = s.ev.counters.stepsClamped ∧
    (w.body.notify = true → hasEvent t.ev.pending .stepDone = true) ∧
    (s.plan.state = .active → Drained s t others) ∧
    (s.plan.state = .draining → t.plan.window = others ∧ t.plan.list = s.plan.list ∧
      t.plan.state = (if others = [] then .suspended else .draining) ∧
      (others = [] → hasEvent t.ev.pending .planSuspended = true)))

/-- An outcome that drains the plan (R78, R87). -/
def Outcome.bad (o : Outcome) : Prop := o = .missed ∨ o = .snagged

theorem worstStatus_of_bad (bad : o.bad) (w : WindowRecord) (l : Leg) (v : Option Vec3) :
    worstStatus (w.reporting ⟨l, o, v⟩) = .missed ∨ worstStatus (w.reporting ⟨l, o, v⟩) = .snagged := by
  have last : (w.reporting ⟨l, o, v⟩).anyOutcome o = true := by simp [WindowRecord.anyOutcome, WindowRecord.reporting]
  unfold worstStatus
  rcases bad with rfl | rfl
  · exact .inl (if_pos last)
  · by_cases missed : (w.reporting ⟨l, .snagged, v⟩).anyOutcome .missed = true
    · exact .inl (if_pos missed)
    · exact .inr ((if_neg missed).trans (if_pos last))

/-- A plan does not run on ACTIVE after a failure (R87). -/
theorem Completes.inactive (h : Completes w st s t) (fails : st.fails = true) : t.plan.state ≠ .active := by
  cases was : s.plan.state
  case active =>
    rw [(h.drained was (by rw [fails]; rfl)).1]
    dsimp only
    split <;> decide
  case draining =>
    rw [(h.drains was).1]
    dsimp only
    split <;> decide
  all_goals
    rw [h.stays (not_runs_iff.mpr (by rw [was]; exact ⟨nofun, nofun⟩))]
    exact fun active => PlanState.noConfusion (was.symm.trans active)

theorem worstOf_of_bad (bad : o.bad) (w : WindowRecord) (l : Leg) (v : Option Vec3) (mark : Bool) :
    worstOf (w.reports ++ [⟨l, o, v⟩]) mark = .missed ∨ worstOf (w.reports ++ [⟨l, o, v⟩]) mark = .snagged := by
  have last : ∃ r ∈ w.reports ++ [⟨l, o, v⟩], r.outcome = o := ⟨_, List.mem_append_right _ (List.mem_singleton.mpr rfl), rfl⟩
  unfold worstOf
  rcases bad with rfl | rfl
  · exact .inl (if_pos last)
  · by_cases missed : ∃ r ∈ w.reports ++ [⟨l, .snagged, v⟩], r.outcome = .missed
    · exact .inl (if_pos missed)
    · exact .inr ((if_neg missed).trans (if_pos last))

/-- A failure's log entry has no footholds (R79). -/
theorem logEntryOf_of_bad (w : WindowRecord) (r : LegReport) (s : State) {st : Status} (bad : st = .missed ∨ st = .snagged) :
    logEntryOf (w.reporting r) st s.ev.time = entryOf s w st [] := by
  have none : finalFootholds (w.reporting r) st = [] := if_neg fun h => by
    rcases bad with rfl | rfl <;> rcases h.2 with h | h <;> cases h
  rw [logEntryOf, none]
  rfl

theorem failureReported (mem : w ∈ s.plan.window) (nodup : (idsInPlan s).Nodup) (record : (s.legs.get l).record = some w.body.id)
    (granted : w.cond = .granted) (kind : w.body.kind ≠ .shift) (room : s.plan.log.length ≤ 16) (bad : o.bad)
    (sequel : Sequel (reportOutcome l o none s) u) (un : Unsettled u) : FailureReported w ⟨l, o, none⟩ s (phaseChanged u) := by
  have ids := nodup_window nodup
  have complete : (∀ m ∈ w.body.legs, ∃ r ∈ w.reports ++ [⟨l, o, none⟩], r.leg = m) ↔ (w.reporting ⟨l, o, none⟩).complete := Iff.rfl
  rw [phaseChanged_of_unsettled un]
  refine ⟨fun ⟨m, named, silent⟩ => ?_, fun all => ?_⟩
  · have some : ¬ (w.reporting ⟨l, o, none⟩).complete := fun all => by
      obtain ⟨r, there, same⟩ := all m named
      exact silent r there same
    have shown := (reportOutcome_of_serving mem ids record granted).2 some
    have plan : u.plan = (reportedIn w ⟨l, o, none⟩ s).plan := sequel.plan.trans (congrArg State.plan shown)
    have stays : w.reporting ⟨l, o, none⟩ ∈ u.plan.window := by
      rw [plan]
      exact mem_reportedIn mem _
    have h := appends_issue_of_window (List.ne_nil_of_mem stays)
    generalize issue u = t at h
    obtain ⟨new, window⟩ := h.window
    refine ⟨by rw [window]; exact List.mem_append_left _ stays, ?_, ?_⟩ <;> rw [h.frame] <;>
      simp only [State.setBal_plan, State.setPlan_plan, plan] <;> rfl
  · have all' : (w.reporting ⟨l, o, none⟩).complete := all
    have fails : (worstStatus (w.reporting ⟨l, o, none⟩)).fails = true := by
      rcases worstStatus_of_bad bad w l none with h | h <;> rw [h] <;> rfl
    have h := completes_reportOutcome (l := l) (o := o) (v := none) mem ids record granted all' fun _ => .inl (by rw [fails]; rfl)
    have done : finalStatus (w.reporting ⟨l, o, none⟩) (worstStatus (w.reporting ⟨l, o, none⟩)) =
      worstOf (w.reports ++ [⟨l, o, none⟩]) w.body.clamped := finalStatus_worstStatus _
    have failed := worstOf_of_bad bad w l none w.body.clamped
    have inactive : u.plan.state ≠ .active := by rw [sequel.plan]; exact h.inactive fails
    rw [issue_of_inactive inactive]
    generalize reportOutcome l o none s = x at h sequel
    have others : othersOf (w.reporting ⟨l, o, none⟩) (reportedIn w ⟨l, o, none⟩ s).plan.window = othersOf w s.plan.window :=
      othersOf_reportedIn ..
    obtain ⟨n, counters⟩ := sequel.counters
    have logged : Logged s x [entryOf s w (worstOf (w.reports ++ [⟨l, o, none⟩]) w.body.clamped) []] := by
      have entry := h.logged (by exact room)
      rw [done] at entry
      rw [← logEntryOf_of_bad w ⟨l, o, none⟩ s failed]
      exact entry
    have counted := h.counters
    rw [done] at counted
    obtain ⟨ok, clamped, missed⟩ := steps_countDone (k := w.body.kind) kind (worstOf (w.reports ++ [⟨l, o, none⟩]) w.body.clamped)
      s.plan.log.length s.ev.counters
    have counts : ∀ f : Counters → Word, f x.ev.counters = f (countDone (completionCounter w.body.kind
        (worstOf (w.reports ++ [⟨l, o, none⟩]) w.body.clamped)) (pushCount s.plan.log.length s.ev.counters)) :=
      fun f => congrArg f counted
    generalize worstOf (w.reports ++ [⟨l, o, none⟩]) w.body.clamped = status at logged failed ok clamped missed counts ⊢
    have noneOk : (if status = .ok then 1 else 0 : Word) = 0 := if_neg (by rintro rfl; rcases failed with h | h <;> cases h)
    have noneClamped : (if status = .clamped then 1 else 0 : Word) = 0 := if_neg (by rintro rfl; rcases failed with h | h <;> cases h)
    refine ⟨?_, ?_, ?_, ?_, fun notify => sequel.flags _ (h.notified notify), fun active => ?_, fun draining => ?_⟩
    · unfold Logged at logged ⊢
      rw [sequel.plan, counters]
      exact logged
    · rw [counters]
      exact (counts Counters.stepsMissed).trans missed
    · rw [counters]
      refine ((counts Counters.stepsOk).trans ok).trans ?_
      rw [noneOk, add_zero]
    · rw [counters]
      refine ((counts Counters.stepsClamped).trans clamped).trans ?_
      rw [noneClamped, add_zero]
    · obtain ⟨plan, queue, raised⟩ := h.drained active (by rw [fails]; rfl)
      rw [others] at plan queue raised
      rw [Drained, sequel.plan, plan, sequel.queue, queue]
      exact ⟨rfl, rfl, rfl, fun none => sequel.flags _ (raised none), fun q mem => (mem_unrequested.mp mem).2⟩
    · obtain ⟨plan, -, raised⟩ := h.drains draining
      rw [others] at plan raised
      rw [sequel.plan, plan]
      exact ⟨others, rfl, rfl, fun none => sequel.flags _ (raised none)⟩

end
end Sys2Proof.Machine
end

section
/-! SNAGS AND MISSES. PHASE_TIMER_EXPIRY: what each failure of a leg leaves of it, of its foot and of its record (R101 to R109). -/

namespace Sys2Proof.Machine

section
variable {s t u : State} {l : Leg} {w : WindowRecord} {a : Motion} {d : StepData}

/-- A record with which a leg's failure is reported: GRANTED, in the window, no SHIFT, and no id stands twice (R78). -/
structure Serving (l : Leg) (w : WindowRecord) (s : State) : Prop where
  mem : w ∈ s.plan.window
  record : (s.legs.get l).record = some w.body.id
  granted : w.cond = .granted
  kind : w.body.kind ≠ .shift
  nodup : (idsInPlan s).Nodup
  room : s.plan.log.length ≤ 16

/-! ## A snag -/

/-- The state in which a snagged leg is put down (R104, R105). -/
def snagged (l : Leg) (s : State) : State :=
  modLeg l (fun q => { q with motion := some .recovery, record := none }) (bump .snags (raise .snag (reportOutcome l .snagged none s)))

/-- A snagged leg on its way down. -/
def snagPut (l : Leg) (v : Vec3) (s : State) : State :=
  sendSetpoint l v s.gait.reachSpeed (startPhase l .reach s.gait.reachTimeout (snagged l s))

theorem snagTo_eq (l : Leg) (v : Vec3) (s : State) : snagTo l v s = phaseChanged (landIfLoaded l (snagPut l v s)) := rfl

/-- What a snag reports and counts before its leg is put down (R104). -/
theorem snagged_spec (un : Unsettled s) (l : Leg) :
    Sequel (reportOutcome l .snagged none s) (snagged l s) ∧ Calm s (snagged l s) ∧ (snagged l s).feet = s.feet ∧
      (snagged l s).sup = s.sup ∧ (∀ m, m ≠ l → ((snagged l s).legs.get m).phase = (s.legs.get m).phase) ∧
      ((snagged l s).legs.get l).motion = some .recovery ∧ ((snagged l s).legs.get l).record = none ∧
      ((snagged l s).legs.get l).derating = (s.legs.get l).derating ∧ hasEvent (snagged l s).ev.pending .snag = true ∧
      (snagged l s).ev.counters.snags = s.ev.counters.snags + 1 := by
  have reported := planned_reportOutcome un l .snagged none
  have counted := snags_reportOutcome l .snagged none s
  unfold snagged
  generalize reportOutcome l .snagged none s = x at reported counted ⊢
  have told : Planned x (bump .snags (raise .snag x)) := (planned_raise .snag x).trans (planned_bump ..)
  have sequel : Sequel x (bump .snags (raise .snag x)) := (sequel_raise .snag x).trans (sequel_bump_snags _)
  have raised : hasEvent (bump .snags (raise .snag x)).ev.pending .snag = true := raise_pending ..
  have snags : (bump .snags (raise .snag x)).ev.counters.snags = s.ev.counters.snags + 1 := by
    show (raise .snag x).ev.counters.snags + 1 = _
    rw [(books_raise .snag x).2.2, counted]
  generalize bump .snags (raise .snag x) = y at told sequel raised snags ⊢
  have both := reported.trans told
  refine ⟨sequel.trans (legwork_modLeg l _ y).sequel, both.calm.trans (calm_modLeg ..), both.feet, both.sup, fun m other => ?_, ?_, ?_, ?_,
    raised, snags⟩
  · rw [modLeg, State.setLegs_legs, Quad.get_set_of_ne _ other, both.phase]
  · rw [modLeg, State.setLegs_legs, Quad.get_set_self]
  · rw [modLeg, State.setLegs_legs, Quad.get_set_self]
  · rw [modLeg, State.setLegs_legs, Quad.get_set_self]
    exact both.derating l

/-- From `s` a leg off the floor has been snagged and put down at a target (R104, R105, R109). -/
structure Snags (l : Leg) (v : Vec3) (s t : State) : Prop where
  record : (t.legs.get l).record = none
  feet : t.feet = s.feet
  raised : hasEvent t.ev.pending .snag = true
  counted : t.ev.counters.snags = s.ev.counters.snags + 1
  lands : (s.feet.get l).contact = .loaded → s.sup.pendingSettle = false → Lands l t ∧ (t.legs.get l).step = none
  moves : (s.feet.get l).contact ≠ .loaded → s.sup.mode ≠ .parked →
    Moves s.geo (s.legs.get l).derating l .reach .recovery v s.gait.reachSpeed s.gait.reachTimeout t
  reported : s.sup.pendingSettle = false → ∀ w, Serving l w s → FailureReported w ⟨l, .snagged, none⟩ s t

/-- A change of phase reported keeps feet, counters and raised events, and no leg takes up a record by it (R96, R153). -/
theorem phaseChanged_keeps (s : State) :
    (phaseChanged s).feet = s.feet ∧ (phaseChanged s).ev.counters = s.ev.counters ∧
      (∀ e, hasEvent s.ev.pending e = true → hasEvent (phaseChanged s).ev.pending e = true) ∧
      (∀ l, (s.legs.get l).record = none → ((phaseChanged s).legs.get l).record = none) := by
  have issued := planned_issue s
  have settles := settles_settleTest (issue s)
  refine ⟨settles.feet.trans issued.feet, settles.counters.trans (congrArg EventUnit.counters (issues_issue s).ev),
    (calm_phaseChanged s).quiet.flags, fun l unserving => ?_⟩
  have issuedNone : ((issue s).legs.get l).record = none := (issued.record l).trans unserving
  rcases settleTest_cases (issue s) with same | ⟨-, -, -, settling⟩
  · rw [phaseChanged, same]
    exact issuedNone
  · rw [phaseChanged, settling.posed.legs]
    rfl

theorem snags_snagTo (off : (s.legs.get l).phase ≠ .stance) (v : Vec3) : Snags l v s (snagTo l v s) := by
  obtain ⟨sequel, calm, feet, sup, -, motion, record, derating, raised, counted⟩ := snagged_spec (.inr ⟨l, off⟩) l
  have work : Legwork (snagged l s) (snagPut l v s) := (legwork_modLeg l _ _).trans (legwork_sendSetpoint ..)
  have way := moves_startPhase (s := snagged l s) .reach v s.gait.reachSpeed s.gait.reachTimeout motion
  have sent := planned_sendSetpoint l v s.gait.reachSpeed (startPhase l .reach s.gait.reachTimeout (snagged l s))
  have putFeet : (snagPut l v s).feet = s.feet := sent.feet.trans feet
  have begun : (startPhase l .reach s.gait.reachTimeout (snagged l s)).legs.get l =
      { (snagged l s).legs.get l with
        phase := .reach, timer := some (phaseTime ((snagged l s).legs.get l) s.gait.reachTimeout) } := Quad.get_set_self ..
  have phase : ((snagPut l v s).legs.get l).phase = .reach := (sent.phase l).trans (by rw [begun])
  have putMotion : ((snagPut l v s).legs.get l).motion = some .recovery := (sent.motion l).trans (by rw [begun]; exact motion)
  have putRecord : ((snagPut l v s).legs.get l).record = none := (sent.record l).trans (by rw [begun]; exact record)
  rw [snagTo_eq]
  rw [derating, calm.quiet.geo, sup] at way
  change s.sup.mode ≠ .parked → Moves _ _ _ _ _ _ _ _ (snagPut l v s) at way
  generalize snagPut l v s = y at work way putFeet phase putMotion putRecord ⊢
  have down : ∀ z, Legwork (snagged l s) z → z.feet = s.feet → (z.legs.get l).record = none →
      ((s.feet.get l).contact = .loaded → s.sup.pendingSettle = false →
        Lands l (phaseChanged z) ∧ ((phaseChanged z).legs.get l).step = none) →
      ((s.feet.get l).contact ≠ .loaded → s.sup.mode ≠ .parked →
        Moves s.geo (s.legs.get l).derating l .reach .recovery v s.gait.reachSpeed s.gait.reachTimeout (phaseChanged z)) →
      Snags l v s (phaseChanged z) := by
    intro z work feet record lands moves
    obtain ⟨keptFeet, keptCounts, flags, unserving⟩ := phaseChanged_keeps z
    refine ⟨unserving l record, keptFeet.trans feet, flags _ (by rw [work.ev]; exact raised), ?_, lands, moves, fun no w serving => ?_⟩
    · rw [keptCounts, work.ev]
      exact counted
    · exact failureReported serving.mem serving.nodup serving.record serving.granted serving.kind serving.room (.inr rfl)
        (sequel.trans work.sequel) (.inl (by rw [work.sup, sup]; exact no))
  by_cases loaded : (s.feet.get l).contact = .loaded
  · rw [landIfLoaded_of_loaded phase (by rw [putFeet]; exact loaded)]
    have stops := stops_landCore putMotion (.inr (.inl rfl))
    have landedFeet : (landCore l y).feet = s.feet := (watchKept_landCore l y).feet.trans putFeet
    generalize landCore l y = z at stops landedFeet ⊢
    have work := work.trans stops.work
    have landed : s.sup.pendingSettle = false → Planned z (phaseChanged z) := fun no =>
      planned_phaseChanged (.inl (by rw [work.sup, sup]; exact no))
    exact down z work landedFeet stops.lands.2.2.2
      (fun _ no => ⟨stops.lands.planned (landed no), ((landed no).step l).trans stops.step⟩) fun no => absurd loaded no
  · rw [landIfLoaded_of_unloaded (by rw [putFeet]; exact loaded)]
    exact down y work putFeet putRecord (fun yes => absurd yes loaded)
      fun _ running => (way running).phaseChanged (by decide)

/-! ## A missed foothold -/

/-- The state in which a leg that has missed its foothold retreats (R106). -/
def missed (l : Leg) (d : StepData) (s : State) : State :=
  modFoot l (fun f => { f with cls := d.originClass })
    (modLeg l (fun q => { q with motion := some .retreat, record := none }) (raise .missed (reportOutcome l .missed none s)))

/-- A leg that has missed its foothold on its way back. -/
def retreating (l : Leg) (d : StepData) (s : State) : State :=
  sendSetpoint l (atLevel d.origin d.liftLevel) s.gait.swingSpeed (startPhase l .swing s.gait.swingTimeout (missed l d s))

theorem missFoothold_eq (step : (s.legs.get l).step = some d) : missFoothold l s = phaseChanged (retreating l d s) := by
  unfold missFoothold
  rw [step]
  rfl

/-- From `s` a leg in REACH has missed its foothold and retreats (R14, R106). -/
structure Misses (l : Leg) (d : StepData) (s t : State) : Prop where
  record : (t.legs.get l).record = none
  cls : (t.feet.get l).cls = d.originClass
  raised : hasEvent t.ev.pending .missed = true
  moves : s.sup.mode ≠ .parked → Moves s.geo (s.legs.get l).derating l .swing .retreat ⟨d.origin.x, d.origin.y, d.liftLevel⟩
    s.gait.swingSpeed s.gait.swingTimeout t
  reported : ∀ w, Serving l w s → FailureReported w ⟨l, .missed, none⟩ s t

theorem misses_missFoothold (off : (s.legs.get l).phase ≠ .stance) (step : (s.legs.get l).step = some d) :
    Misses l d s (missFoothold l s) := by
  have reported := planned_reportOutcome (.inr ⟨l, off⟩) l .missed none
  rw [missFoothold_eq step]
  have work : Legwork (raise .missed (reportOutcome l .missed none s)) (retreating l d s) :=
    (((legwork_modLeg l _ _).trans (legwork_modFoot l _ _)).trans (legwork_modLeg l _ _)).trans (legwork_sendSetpoint ..)
  have told := planned_raise .missed (reportOutcome l .missed none s)
  have both := reported.trans told
  have sequel := (sequel_raise .missed (reportOutcome l .missed none s)).trans work.sequel
  have raised : hasEvent (retreating l d s).ev.pending .missed = true := by
    rw [work.ev]
    exact raise_pending ..
  have leg : (missed l d s).legs.get l =
      { (raise .missed (reportOutcome l .missed none s)).legs.get l with motion := some .retreat, record := none } := Quad.get_set_self ..
  have cls : ((missed l d s).feet.get l).cls = d.originClass := congrArg Foot.cls (Quad.get_set_self ..)
  have sent := planned_sendSetpoint l (atLevel d.origin d.liftLevel) s.gait.swingSpeed (startPhase l .swing s.gait.swingTimeout (missed l d s))
  have begun : (startPhase l .swing s.gait.swingTimeout (missed l d s)).legs.get l =
      { (missed l d s).legs.get l with phase := .swing, timer := some (phaseTime ((missed l d s).legs.get l) s.gait.swingTimeout) } :=
    Quad.get_set_self ..
  have way := moves_startPhase (s := missed l d s) .swing (atLevel d.origin d.liftLevel) s.gait.swingSpeed s.gait.swingTimeout
    (by rw [leg])
  have geo : (missed l d s).geo = s.geo := both.calm.quiet.geo
  have sup : (missed l d s).sup = s.sup := both.sup
  have derating : ((missed l d s).legs.get l).derating = (s.legs.get l).derating := by
    rw [leg]
    exact both.derating l
  rw [derating, geo, sup] at way
  have phase : ((retreating l d s).legs.get l).phase = .swing := (sent.phase l).trans (by rw [begun])
  have record : ((retreating l d s).legs.get l).record = none := (sent.record l).trans (by rw [begun, leg])
  have feet : ((retreating l d s).feet.get l).cls = d.originClass := (congrArg (fun f => (Quad.get f l).cls) sent.feet).trans cls
  obtain ⟨keptFeet, -, flags, unserving⟩ := phaseChanged_keeps (retreating l d s)
  refine ⟨unserving l record, by rw [keptFeet]; exact feet, flags _ raised, fun running => ?_, fun w serving => ?_⟩
  · exact Moves.phaseChanged (way running) (by decide)
  · exact failureReported serving.mem serving.nodup serving.record serving.granted serving.kind serving.room (.inl rfl) sequel
      (.inr ⟨l, by rw [phase]; decide⟩)

/-! ## What fails without an outcome -/

/-- The state in which a leg that has failed is held, with a brace asked for (R108). -/
def failed (l : Leg) (s : State) : State :=
  requestBrace (raise .missed (modLeg l (fun q => { q with phase := .reach, motion := some .held, timer := none }) (sendHold l s)))

theorem failLeg_eq (l : Leg) (s : State) :
    failLeg l s = if (s.legs.get l).phase ≠ .reach then phaseChanged (landIfLoaded l (failed l s)) else failed l s := by
  unfold failLeg failed
  dsimp only
  by_cases reach : (s.legs.get l).phase = .reach
  · simp [reach]
  · simp [reach]

/-- From `s` a leg has failed: it is held where its drive stands (R108). -/
structure GivesUp (l : Leg) (s t : State) : Prop where
  commanded : (t.legs.get l).commanded = (s.bus.drives.get l).pos
  unreached : (t.legs.get l).reached = false
  waits : s.sup.mode ≠ .parked → (⟨l, .setpoint (s.bus.drives.get l).pos 0 true⟩ : Txn) ∈ t.bus.queue
  raised : hasEvent t.ev.pending .missed = true
  braces : t.bal.braceOut = true
  feet : t.feet = s.feet
  sup : t.sup = s.sup

theorem givesUp_failed (l : Leg) (s : State) :
    GivesUp l s (failed l s) ∧ ((failed l s).legs.get l).phase = .reach ∧ ((failed l s).legs.get l).motion = some .held ∧
      ((failed l s).legs.get l).timer = none := by
  have h := commands_sendHold l s
  unfold failed
  generalize sendHold l s = x at h ⊢
  have leg : (modLeg l (fun q => { q with phase := .reach, motion := some .held, timer := none }) x).legs.get l =
      { x.legs.get l with phase := .reach, motion := some .held, timer := none } := Quad.get_set_self ..
  have same : ∀ y : State, (y.legs.get l) = { x.legs.get l with phase := .reach, motion := some .held, timer := none } → y.bus = x.bus →
      y.feet = x.feet → y.sup = x.sup → hasEvent y.ev.pending .missed = true → y.bal.braceOut = true →
      GivesUp l s y ∧ (y.legs.get l).phase = .reach ∧ (y.legs.get l).motion = some .held ∧ (y.legs.get l).timer = none := by
    intro y leg bus feet sup raised braces
    refine ⟨⟨?_, ?_, fun running => ?_, raised, braces, feet.trans h.feet, sup.trans h.sup⟩, ?_, ?_, ?_⟩
    · rw [leg, h.told l (List.mem_singleton.mpr rfl)]
      rfl
    · rw [leg, h.told l (List.mem_singleton.mpr rfl)]
      rfl
    · rw [bus]
      exact h.waits running l (List.mem_singleton.mpr rfl)
    all_goals rw [leg]
  have books := (books_raise .missed (modLeg l (fun q => { q with phase := .reach, motion := some .held, timer := none }) x)).1
  refine same _ ?_ books.bus books.feet books.sup (raise_pending ..) rfl
  exact (congrArg (fun q => Quad.get q l) books.legs).trans leg

/-- With a brace asked for, a change of phase reported issues nothing (R76). -/
theorem phaseChanged_of_braceOut (out : s.bal.braceOut = true) (un : Unsettled s) : phaseChanged s = s := by
  rw [phaseChanged_of_unsettled un, Barren.issue (.inr (.inr out))]

theorem failLeg_of_held (held : (s.legs.get l).phase = .reach ∨ (s.feet.get l).contact ≠ .loaded) : failLeg l s = failed l s := by
  obtain ⟨given, phase, -, -⟩ := givesUp_failed l s
  rw [failLeg_eq]
  by_cases reach : (s.legs.get l).phase = .reach
  · rw [if_neg (not_not_intro reach)]
  · rw [if_pos reach, landIfLoaded_of_unloaded (by rw [given.feet]; exact held.resolve_left reach),
      phaseChanged_of_braceOut given.braces (.inr ⟨l, by rw [phase]; decide⟩)]

theorem failLeg_of_loaded (entering : (s.legs.get l).phase ≠ .reach) (loaded : (s.feet.get l).contact = .loaded)
    (unsettled : s.sup.pendingSettle = false) :
    failLeg l s = modLeg l (fun p => { p with phase := .stance, timer := none, motion := none, record := none }) (failed l s) := by
  obtain ⟨given, phase, motion, -⟩ := givesUp_failed l s
  rw [failLeg_eq, if_pos entering, landIfLoaded_of_loaded phase (by rw [given.feet]; exact loaded), landCore_of_held motion]
  exact phaseChanged_of_braceOut given.braces (.inl (by show (failed l s).sup.pendingSettle = false; rw [given.sup]; exact unsettled))

/-! ## The expiry -/

/-- A leg whose phase timer has stopped. -/
def untimed (l : Leg) (s : State) : State := modLeg l (fun p => { p with timer := none }) s

theorem untimed_leg (l : Leg) (s : State) : (untimed l s).legs.get l = { s.legs.get l with timer := none } := Quad.get_set_self ..

theorem exec_phaseTimerExpiry (out : (s.legs.get l).timer = some 0) : exec (.phaseTimerExpiry l) s = .next (timerRunsOut l s) :=
  congrArg Host.Outcome.next (if_pos ((ranOut_iff _).mpr out))

theorem timerRunsOut_of_step (motion : (s.legs.get l).motion = some .step) :
    ((s.legs.get l).phase = .lift → timerRunsOut l s = snagInLift l (untimed l s)) ∧
    ((s.legs.get l).phase = .swing → timerRunsOut l s = snagInSwing l (untimed l s)) ∧
    ((s.legs.get l).phase = .reach → timerRunsOut l s = missFoothold l (untimed l s)) := by
  refine ⟨fun phase => ?_, fun phase => ?_, fun phase => ?_⟩ <;>
  · unfold timerRunsOut
    dsimp only
    rw [phase, motion]
    rfl

theorem timerRunsOut_of_returns (motion : (s.legs.get l).motion = some a) (returns : a.returns) :
    timerRunsOut l s = failLeg l (untimed l s) := by
  unfold timerRunsOut
  dsimp only
  rw [motion]
  rcases returns with rfl | rfl | rfl <;> cases (s.legs.get l).phase <;> rfl

/-- Where a snagged leg is put down (R104, R105). -/
def putDown (l : Leg) (d : StepData) (s : State) : Vec3 :=
  if (s.legs.get l).phase = .lift then ⟨d.origin.x, d.origin.y, d.origin.z - d.reachDepth⟩
  else ⟨(bodyPos s l).x, (bodyPos s l).y, min d.origin.z d.target.z - d.reachDepth⟩

theorem timerRunsOut_snags (step : (s.legs.get l).step = some d) (motion : (s.legs.get l).motion = some .step)
    (phase : (s.legs.get l).phase = .lift ∨ (s.legs.get l).phase = .swing) :
    Snags l (putDown l d s) (untimed l s) (timerRunsOut l s) := by
  have leg := untimed_leg l s
  have step' : ((untimed l s).legs.get l).step = some d := by rw [leg]; exact step
  obtain ⟨lift, swing, -⟩ := timerRunsOut_of_step motion
  rcases phase with phase | phase
  · rw [lift phase, snagInLift, step', putDown, if_pos phase]
    exact snags_snagTo (by rw [leg]; dsimp only; rw [phase]; decide) _
  · rw [swing phase, snagInSwing, step', putDown, if_neg (by rw [phase]; decide)]
    exact snags_snagTo (by rw [leg]; dsimp only; rw [phase]; decide) _

theorem returns_of_motion {q : LegSeq} (h : q.motion = some .recovery ∨ q.motion = some .retreat ∨ q.motion = some .descent) :
    ∃ a, q.motion = some a ∧ a.returns := by
  rcases h with h | h | h
  · exact ⟨_, h, .inr (.inl rfl)⟩
  · exact ⟨_, h, .inl rfl⟩
  · exact ⟨_, h, .inr (.inr rfl)⟩

/-- Settles O48: a snag, a missed foothold, and a failure that is held or lands. -/
theorem phaseTimerExpires : Obligations.PhaseTimerExpires := by
  unfold Obligations.PhaseTimerExpires
  intro s l q b
  refine ⟨fun runsOn => congrArg Host.Outcome.next (if_neg (mt (ranOut_iff _).mp runsOn)), fun out => ?_⟩
  rw [exec_phaseTimerExpiry out]
  have leg := untimed_leg l s
  have derating : ((untimed l s).legs.get l).derating = q.derating := by rw [leg]
  have misses : ∀ d, q.step = some d → q.motion = some .step → q.phase = .reach →
      timerRunsOut l s = missFoothold l (untimed l s) ∧ Misses l d (untimed l s) (missFoothold l (untimed l s)) :=
    fun d step motion phase => ⟨(timerRunsOut_of_step motion).2.2 phase,
      misses_missFoothold (by rw [leg]; exact fun stance => Phase.noConfusion (phase.symm.trans stance)) (by rw [leg]; exact step)⟩
  refine ⟨fun d step motion => ⟨fun phase => ?_, fun phase running => ?_, fun w mem phase record granted kind nodup room no => ?_⟩,
    fun returns held => ?_, fun returns swing loaded no => ?_⟩
  · have h := timerRunsOut_snags step motion phase
    have moves := h.moves
    rw [derating] at moves
    exact ⟨_, rfl, h.record, congrArg (fun f => (Quad.get f l).cls) h.feet, h.raised, h.counted, h.lands, moves⟩
  · obtain ⟨shown, h⟩ := misses d step motion phase
    rw [shown]
    have moves := h.moves running
    rw [derating] at moves
    exact ⟨_, rfl, h.record, moves, h.cls, h.raised⟩
  · have serving : Serving l w (untimed l s) := ⟨mem, by rw [leg]; exact record, granted, kind, nodup, room⟩
    refine ⟨_, rfl, ?_⟩
    rcases phase with phase | phase | phase
    · rw [if_neg (by rw [phase]; decide)]
      exact (timerRunsOut_snags step motion (.inl phase)).reported no w serving
    · rw [if_neg (by rw [phase]; decide)]
      exact (timerRunsOut_snags step motion (.inr phase)).reported no w serving
    · obtain ⟨shown, h⟩ := misses d step motion phase
      rw [if_pos phase, shown]
      exact h.reported w serving
  · obtain ⟨a, motion, returns⟩ := returns_of_motion returns
    obtain ⟨given, phase, stays, timer⟩ := givesUp_failed l (untimed l s)
    have shown : timerRunsOut l s = failed l (untimed l s) :=
      (timerRunsOut_of_returns motion returns).trans (failLeg_of_held (by rw [leg]; exact held.imp id And.right))
    rw [shown]
    exact ⟨_, rfl, phase, stays, timer, given.commanded, given.raised, given.braces⟩
  · obtain ⟨a, motion, returns⟩ := returns_of_motion returns
    obtain ⟨given, -, -, -⟩ := givesUp_failed l (untimed l s)
    have shown := (timerRunsOut_of_returns motion returns).trans
      (failLeg_of_loaded (by rw [leg]; exact fun reach => Phase.noConfusion (swing.symm.trans reach)) (by exact loaded) (by exact no))
    rw [shown]
    generalize failed l (untimed l s) = x at given
    have landed : (modLeg l (fun p => { p with phase := .stance, timer := none, motion := none, record := none }) x).legs.get l =
        { x.legs.get l with phase := .stance, timer := none, motion := none, record := none } := Quad.get_set_self ..
    refine ⟨_, rfl, ?_, ?_, given.waits, given.raised, given.braces⟩
    · rw [Lands, landed]
      exact ⟨rfl, rfl, rfl, rfl⟩
    · rw [landed]
      exact given.commanded

end
end Sys2Proof.Machine
end

section
/-! LANDINGS. What the landing of a step leaves of its leg, and what its outcome leaves of its record (R78, R79, R84, R86, R87, R103). -/

namespace Sys2Proof.Machine

section
variable {s t u : State} {l : Leg} {w : WindowRecord} {o : Outcome} {v : Option Vec3} {st : Status}

/-! ## The outcome of a landing -/

theorem fails_finalStatus (w : WindowRecord) (st : Status) : (finalStatus w st).fails = st.fails := by
  unfold finalStatus
  split
  case isTrue h => rw [h.1]; rfl
  case isFalse => rfl

theorem worstOf_good_iff (reports : List LegReport) (mark : Bool) :
    (worstOf reports mark).fails = false ↔ worstOf reports mark = .ok ∨ worstOf reports mark = .clamped := by
  unfold worstOf
  split
  · exact iff_of_false nofun (by rintro (h | h) <;> cases h)
  · split
    · exact iff_of_false nofun (by rintro (h | h) <;> cases h)
    · split
      · exact iff_of_true rfl (.inr rfl)
      · exact iff_of_true rfl (.inl rfl)

/-- The log entry of a record that is no SHIFT: its footholds where it ends well (R79). -/
theorem logEntryOf_of_step (kind : w.body.kind ≠ .shift) (r : LegReport) (st : Status) (s : State) :
    logEntryOf (w.reporting r) st s.ev.time =
      entryOf s w st (if st = .ok ∨ st = .clamped then
        w.body.legs.filterMap fun m => ((w.reports ++ [r]).find? fun r => decide (r.leg = m)).bind LegReport.foothold else []) := by
  have feet : finalFootholds (w.reporting r) st = if st = .ok ∨ st = .clamped then
      w.body.legs.filterMap fun m => ((w.reports ++ [r]).find? fun r => decide (r.leg = m)).bind LegReport.foothold else [] :=
    if_congr (and_iff_right kind) rfl rfl
  rw [logEntryOf, feet]
  rfl

/-- What the landing of the only record's leg leaves, its outcome told: of the whole plan, and of counters and events (R78, R79, R84,
R86, R87). -/
structure OutcomeTold (w : WindowRecord) (r : LegReport) (s t : State) : Prop where
  stays : ¬ (w.reporting r).complete → t.plan = { s.plan with window := [w.reporting r] }
  ends : (w.reporting r).complete →
    let done := worstOf (w.reports ++ [r]) w.body.clamped
    t.plan.window = [] ∧ t.plan.list = [] ∧ Logged s t [logEntryOf (w.reporting r) done s.ev.time] ∧
    t.ev.counters = countDone (completionCounter w.body.kind done) (pushCount s.plan.log.length s.ev.counters) ∧
    (w.body.notify = true → hasEvent t.ev.pending .stepDone = true) ∧
    (s.plan.state = .active → (done.fails || w.body.hold) = false → t.plan.state = .idle ∧ hasEvent t.ev.pending .planIdle = true) ∧
    (s.plan.state = .active → (done.fails || w.body.hold) = true →
      t.plan.state = .suspended ∧ hasEvent t.ev.pending .planSuspended = true) ∧
    (s.plan.state = .draining → t.plan.state = .suspended ∧ hasEvent t.ev.pending .planSuspended = true)

theorem outcomeTold (alone : s.plan.window = [w]) (list : s.plan.list = []) (room : s.plan.log.length ≤ 16)
    (record : (s.legs.get l).record = some w.body.id) (granted : w.cond = .granted) :
    OutcomeTold w ⟨l, o, v⟩ s (reportOutcome l o v s) := by
  have mem : w ∈ s.plan.window := by rw [alone]; exact List.mem_singleton.mpr rfl
  have nodup : (s.plan.window.map fun w => w.body.id).Nodup := by rw [alone]; exact List.nodup_singleton _
  refine ⟨fun some => ?_, fun all => ?_⟩
  · rw [(reportOutcome_of_serving mem nodup record granted).2 some]
    rw [reportedIn, modWindow, State.setPlan_plan, alone, List.map_singleton, if_pos rfl]
  · have h := completes_reportOutcome (o := o) (v := v) mem nodup record granted all fun _ => .inr list
    have others : othersOf (w.reporting ⟨l, o, v⟩) (reportedIn w ⟨l, o, v⟩ s).plan.window = [] := by
      rw [othersOf_reportedIn, alone, othersOf_alone]
    generalize reportOutcome l o v s = t at h
    have final : finalStatus (w.reporting ⟨l, o, v⟩) (worstStatus (w.reporting ⟨l, o, v⟩)) =
        worstOf (w.reports ++ [⟨l, o, v⟩]) w.body.clamped := finalStatus_worstStatus _
    have fails : (worstOf (w.reports ++ [⟨l, o, v⟩]) w.body.clamped).fails = (worstStatus (w.reporting ⟨l, o, v⟩)).fails := by
      rw [← final, fails_finalStatus]
    obtain ⟨window, empty⟩ := h.plan.2.2 others
    have logged := h.logged (by exact room)
    have counted := h.counters
    rw [final] at logged counted
    intro done
    refine ⟨window, empty.trans list, logged, counted, h.notified, fun active good => ?_, fun active bad => ?_, fun draining => ?_⟩
    · obtain ⟨plan, raised⟩ := h.goesOn active (by rw [fails] at good; exact good)
      exact ⟨by rw [plan]; exact if_pos others, raised others⟩
    · obtain ⟨plan, -, raised⟩ := h.drained active (by rw [fails] at bad; exact bad)
      have served : servedOf (othersOf (w.reporting ⟨l, o, v⟩) (reportedIn w ⟨l, o, v⟩ s).plan.window) = [] := by rw [others]; rfl
      exact ⟨by rw [plan]; exact if_pos served, raised served⟩
    · obtain ⟨plan, -, raised⟩ := h.drains draining
      exact ⟨by rw [plan]; exact if_pos others, raised others⟩

/-! ## The landing of a step -/

/-- The outcome a landing reports (R103). -/
def landingReport (l : Leg) (s : State) : LegReport :=
  ⟨l, if (s.legs.get l).clamped then .clamped else .ok, some (bodyPos s l)⟩

/-- The state in which the outcome of a landing has been reported. -/
def landingTold (l : Leg) (s : State) : State :=
  reportOutcome l (if (s.legs.get l).clamped then .clamped else .ok) (some (bodyPos s l)) (stopDescent l (alighted l s))

theorem landCore_of_step (motion : (s.legs.get l).motion = some .step) : landCore l s =
    modLeg l (fun p => { p with motion := none, record := none, step := none, clamped := false }) (landingTold l s) := by
  unfold landCore
  dsimp only
  rw [motion]
  rfl

/-- From `s` the landing of a step has left its leg landed (R103). -/
structure StepLands (l : Leg) (s t : State) : Prop where
  lands : Lands l t
  step : (t.legs.get l).step = none
  unsettled : t.sup = s.sup
  feet : t.feet = s.feet
  calm : Calm s t
  commanded : Barren s → Untouched l s → (t.legs.get l).commanded = hipTarget s.geo l (bodyPos s l)

theorem stepLands_landCore (motion : (s.legs.get l).motion = some .step) (no : s.sup.pendingSettle = false) :
    StepLands l s (landCore l s) := by
  obtain ⟨leg, work, -⟩ := stopDescent_spec l s
  have calm := calm_landCore l s
  have feet := (watchKept_landCore l s).feet
  rw [landCore_of_step motion] at calm feet ⊢
  have un : Unsettled (stopDescent l (alighted l s)) := .inl (by rw [work.sup]; exact no)
  have reported := planned_reportOutcome un l (if (s.legs.get l).clamped then .clamped else .ok) (some (bodyPos s l))
  have spared : Barren s → Untouched l s → (landingTold l s).legs.get l = (stopDescent l (alighted l s)).legs.get l :=
    fun barren free => by
      refine (spares_reportOutcome un ?_ ?_ l _ _).leg
      · intro p running
        rw [work.bal] at running
        exact free p running
      · rw [Barren, work.plan, work.bal]
        exact barren
  change Planned _ (landingTold l s) at reported
  generalize landingTold l s = t at reported spared calm feet ⊢
  have cleared : (modLeg l (fun p => { p with motion := none, record := none, step := none, clamped := false }) t).legs.get l =
      { t.legs.get l with motion := none, record := none, step := none, clamped := false } := Quad.get_set_self ..
  refine ⟨?_, by rw [cleared], (reported.sup.trans work.sup), feet, calm, fun barren free => ?_⟩
  · rw [Lands, cleared]
    exact ⟨(reported.phase l).trans (by rw [leg]; rfl), (reported.timer l).trans (by rw [leg]; rfl), rfl, rfl⟩
  · rw [cleared, spared barren free, leg]
    rfl

/-! ## The landing told -/

/-- A record that a landing would complete or go on with: alone in the plan, GRANTED, no SHIFT, and the leg serves it. -/
structure ServesAlone (l : Leg) (w : WindowRecord) (s : State) : Prop where
  alone : s.plan.window = [w]
  list : s.plan.list = []
  room : s.plan.log.length ≤ 16
  record : (s.legs.get l).record = some w.body.id
  granted : w.cond = .granted
  kind : w.body.kind ≠ .shift

theorem OutcomeTold.congr {r : LegReport} (h : OutcomeTold w r t u) (plan : t.plan = s.plan) (ev : t.ev = s.ev) : OutcomeTold w r s u := by
  obtain ⟨stays, ends⟩ := h
  unfold Logged at ends
  rw [plan] at stays ends
  rw [ev] at ends
  exact ⟨stays, ends⟩

/-- What keeps plan, counters and raised events leaves what a landing has told. -/
theorem OutcomeTold.kept {r : LegReport} (h : OutcomeTold w r s t) (plan : u.plan = t.plan) (counters : u.ev.counters = t.ev.counters)
    (flags : ∀ e, hasEvent t.ev.pending e = true → hasEvent u.ev.pending e = true) : OutcomeTold w r s u := by
  obtain ⟨stays, ends⟩ := h
  refine ⟨fun some => plan.trans (stays some), fun all => ?_⟩
  obtain ⟨window, list, logged, counted, notified, idle, suspended, drained⟩ := ends all
  unfold Logged at logged ⊢
  rw [plan, counters]
  exact ⟨window, list, logged, counted, fun notify => flags _ (notified notify),
    fun active good => (idle active good).imp id (flags _), fun active bad => (suspended active bad).imp id (flags _),
    fun draining => (drained draining).imp id (flags _)⟩

/-- With nothing in the list before a landing, there is nothing to issue after it. -/
theorem OutcomeTold.barren {r : LegReport} (h : OutcomeTold w r s t) (list : s.plan.list = []) : Barren t := by
  by_cases all : (w.reporting r).complete
  · exact .inl (h.ends all).2.1
  · left
    rw [h.stays all]
    exact list

theorem outcomeTold_landCore (motion : (s.legs.get l).motion = some .step) (serves : ServesAlone l w s) :
    OutcomeTold w (landingReport l s) s (landCore l s) := by
  obtain ⟨leg, work, -⟩ := stopDescent_spec l s
  have told : OutcomeTold w (landingReport l s) (stopDescent l (alighted l s)) (landingTold l s) :=
    outcomeTold (by rw [work.plan]; exact serves.alone) (by rw [work.plan]; exact serves.list) (by rw [work.plan]; exact serves.room)
      (by rw [leg]; exact serves.record) serves.granted
  rw [landCore_of_step motion]
  exact (told.congr work.plan work.ev).kept rfl rfl fun _ => id

theorem land_of_serving (motion : (s.legs.get l).motion = some .step) (no : s.sup.pendingSettle = false) (serves : ServesAlone l w s) :
    land l s = landCore l s := by
  have lands := stepLands_landCore motion no
  have barren := (outcomeTold_landCore motion serves).barren serves.list
  rw [land, phaseChanged_of_unsettled (.inl (by rw [lands.unsettled]; exact no)), barren.issue]

theorem bodyPos_congr (quiet : Quiet s t) (l : Leg) : bodyPos t l = bodyPos s l := by
  rw [bodyPos, bodyPos, heldPos, heldPos, quiet.geo, quiet.drives]

/-- A record, marked where an AT_LIMIT arrival calls for it (R122). -/
def WindowRecord.markedBy (limit : Bool) (w : WindowRecord) : WindowRecord :=
  { w with body := { w.body with clamped := w.body.clamped || limit } }

/-- The report of a leg that lands, marked by an AT_LIMIT arrival or before (R103, R122). -/
def limitedReport (l : Leg) (limit : Bool) (s t : State) : LegReport :=
  ⟨l, if (s.legs.get l).clamped = true ∨ limit = true then .clamped else .ok, some (bodyPos t l)⟩

/-- What a landing has told, in the words of R78 and R79. -/
theorem landingReported_of_marked {limit : Bool} (told : ∀ w, ServesAlone l w s → OutcomeTold (w.markedBy limit) (limitedReport l limit s t)
    (s.setPlan { s.plan with window := [w.markedBy limit] }) t) : LandingReported s t l limit := by
  intro w alone list room record granted kind
  obtain ⟨stays, ends⟩ := told w ⟨alone, list, room, record, granted, kind⟩
  intro mine reports mark done good
  refine ⟨fun ⟨m, named, silent⟩ => ?_, fun all => ?_⟩
  · refine stays fun all => ?_
    obtain ⟨r, there, same⟩ := all m named
    exact silent r there same
  · obtain ⟨window, empty, logged, counted, notified, idle, suspended, drained⟩ := ends all
    have status : worstOf ((w.markedBy limit).reports ++ [limitedReport l limit s t]) (w.markedBy limit).body.clamped = done := rfl
    rw [status] at logged counted idle suspended
    have iff : done.fails = false ↔ good := worstOf_good_iff ..
    rw [logEntryOf_of_step (w := w.markedBy limit) kind] at logged
    obtain ⟨ok, clamped, missed⟩ := steps_countDone (k := w.body.kind) kind done s.plan.log.length s.ev.counters
    refine ⟨window, empty, logged, ?_, ?_, ?_, notified, fun active yes hold => idle active ?_, fun active bad => suspended active ?_, drained⟩
    · exact (congrArg Counters.stepsOk counted).trans ok
    · exact (congrArg Counters.stepsClamped counted).trans clamped
    · exact (congrArg Counters.stepsMissed counted).trans missed
    · rw [iff.mpr yes]
      exact hold
    · rw [Bool.or_eq_true]
      exact bad.imp (fun no => by rw [← Bool.not_eq_false, iff]; exact no) id

/-- A landing to which no AT_LIMIT arrival has led marks nothing (log 39). -/
theorem landingReported_of_told (pos : bodyPos t l = bodyPos s l)
    (told : ∀ w, ServesAlone l w s → OutcomeTold w (landingReport l s) s t) : LandingReported s t l false := by
  refine landingReported_of_marked fun w serves => ?_
  have report : limitedReport l false s t = landingReport l s := by
    rw [limitedReport, landingReport, pos]
    simp
  have unmarked : w.markedBy false = w := by rw [WindowRecord.markedBy, Bool.or_false]
  rw [report, unmarked]
  refine (told w serves).congr ?_ rfl
  rw [← serves.alone]
  rfl

end
end Sys2Proof.Machine
end

section
/-! GOOD REPLIES. What a good reply replaces, how the leg's sequencer takes it, and what is tested after it (R97, R117, R120 to R122,
R132, R144, R146). -/

namespace Sys2Proof.Machine

section
variable {s t u : State} {l : Leg} {pos : Vec3} {st : DriveState} {flag pass : Bool}

/-! ## The reached test -/

/-- A reply passes the reached test (R97, R122). -/
def PassesReached (q : LegSeq) (tol : Nat) (pos : Vec3) (st : DriveState) (flag : Bool) : Prop :=
  st = .atLimit ∨ flag = true ∧ |pos.x - q.commanded.x| ≤ tol ∧ |pos.y - q.commanded.y| ≤ tol ∧ |pos.z - q.commanded.z| ≤ tol

theorem passesReached_iff (q : LegSeq) (tol : Nat) (pos : Vec3) (st : DriveState) (flag : Bool) :
    passesReached q tol pos st flag = true ↔ PassesReached q tol pos st flag := by
  have part : ∀ a b : Int, |a - b| ≤ tol ↔ (a - b).natAbs ≤ tol := fun a b => by rw [Int.abs_eq_natAbs, Nat.cast_le]
  rw [passesReached, within, Bool.or_eq_true, Bool.and_eq_true, decide_eq_true_iff, decide_eq_true_iff, PassesReached, part, part, part]

/-! ## The sequencer takes a reply -/

/-- A leg that has taken a reply, but for a setpoint formed again (R97, R121, R122). -/
def LegSeq.answered (pass : Bool) (st : DriveState) (q : LegSeq) : LegSeq := { q.takeReply pass st with derating := decide (st = .hot) }

/-- The state in which a leg has taken a reply (R97, R121). -/
def taken (l : Leg) (pass : Bool) (st : DriveState) (s : State) : State := takeDerating l st (modLeg l (fun q => q.takeReply pass st) s)

/-- A change of the derating flag calls for a leg's setpoint to be formed again (R98, R121). -/
def Resends (q : LegSeq) (st : DriveState) (mode : Mode) : Prop :=
  q.derating ≠ decide (st = .hot) ∧ q.reached = false ∧ q.phase ≠ .folded ∧ mode ≠ .safeHold

theorem takeReply_fields (q : LegSeq) (pass : Bool) (st : DriveState) :
    q.takeReply pass st = { q with
      reached := q.reached || pass
      limitReached := if pass = true ∧ q.reached = false then decide (st = .atLimit) else q.limitReached } := by
  unfold LegSeq.takeReply
  cases pass <;> cases reached : q.reached <;> simp
  · rw [← reached]
  · rw [← reached]
  · rw [← reached]

theorem commands_resendSetpoint (l : Leg) (speed : Nat) (s : State) :
    Commands [l] (fun _ q => { q with reached := false, limitReached := false })
      (fun m => ⟨m, .setpoint (s.legs.get m).commanded (deratedSpeed (s.legs.get m) speed) false⟩) s (resendSetpoint l speed s) :=
  commands_handover l _ _ false (fun _ q => { q with reached := false, limitReached := false }) _ rfl s

/-- How a reply is taken: with a setpoint formed again, or with the flags alone (R121). -/
theorem taken_cases (l : Leg) (pass : Bool) (st : DriveState) (s : State) :
    (∃ v, (s.legs.get l).speed = some v ∧ Resends ((s.legs.get l).takeReply pass st) st s.sup.mode ∧
      taken l pass st s = resendSetpoint l v (modLeg l (LegSeq.answered pass st) s)) ∨
    ((∀ v, (s.legs.get l).speed = some v → ¬ Resends ((s.legs.get l).takeReply pass st) st s.sup.mode) ∧
      taken l pass st s = modLeg l (LegSeq.answered pass st) s) := by
  have leg : (modLeg l (fun q => q.takeReply pass st) s).legs.get l = (s.legs.get l).takeReply pass st := Quad.get_set_self ..
  have twice : modLeg l (fun q => { q with derating := decide (st = .hot) }) (modLeg l (fun q => q.takeReply pass st) s) =
      modLeg l (LegSeq.answered pass st) s := by
    simp only [modLeg, State.setLegs_legs, Quad.get_set_self, LegSeq.answered]
    simp [State.setLegs, Quad.set_set]
  have speed : ((s.legs.get l).takeReply pass st).speed = (s.legs.get l).speed := by rw [takeReply_fields]
  unfold taken takeDerating
  dsimp only
  rw [leg, twice, speed]
  cases told : (s.legs.get l).speed with
  | none => exact .inr ⟨nofun, rfl⟩
  | some v =>
    by_cases again : Resends ((s.legs.get l).takeReply pass st) st s.sup.mode
    · refine .inl ⟨v, rfl, again, ?_⟩
      obtain ⟨changed, unreached, standing, free⟩ := again
      exact if_pos ⟨changed, by rw [unreached]; exact Bool.false_ne_true, standing, free⟩
    · refine .inr ⟨fun _ _ => again, if_neg fun h => again ?_⟩
      obtain ⟨changed, unreached, standing, free⟩ := h
      exact ⟨changed, Bool.eq_false_iff.mpr unreached, standing, free⟩

/-- From `s` a leg's sequencer has taken a reply (R97, R121, R122). -/
structure Takes (l : Leg) (pass : Bool) (st : DriveState) (s t : State) : Prop where
  frame : t = (s.setLegs t.legs).setBus { s.bus with queue := t.bus.queue }
  others : ∀ m, m ≠ l → t.legs.get m = s.legs.get m
  bare : (t.legs.get l).bare = { (s.legs.get l).bare with derating := decide (st = .hot) }
  commanded : (t.legs.get l).commanded = (s.legs.get l).commanded
  reached : (t.legs.get l).reached = ((s.legs.get l).reached || pass)
  limited : ((s.legs.get l).reached || pass) = true → (t.legs.get l).limitReached =
    if pass = true ∧ (s.legs.get l).reached = false then decide (st = .atLimit) else (s.legs.get l).limitReached
  resent : ∀ v, (s.legs.get l).speed = some v → s.sup.mode ≠ .parked → s.sup.mode ≠ .safeHold → (s.legs.get l).phase ≠ .folded →
    (s.legs.get l).reached = false → pass = false → (s.legs.get l).derating ≠ decide (st = .hot) →
    (⟨l, .setpoint (s.legs.get l).commanded (spared (decide (st = .hot)) v) false⟩ : Txn) ∈ t.bus.queue
  still : s.sup.mode = .safeHold → t.bus.queue = s.bus.queue

theorem takes_taken (l : Leg) (pass : Bool) (st : DriveState) (s : State) : Takes l pass st s (taken l pass st s) := by
  have leg : (modLeg l (LegSeq.answered pass st) s).legs.get l = (s.legs.get l).answered pass st := Quad.get_set_self ..
  have away : ∀ m, m ≠ l → (modLeg l (LegSeq.answered pass st) s).legs.get m = s.legs.get m := fun m other => Quad.get_set_of_ne _ other _
  have fields := takeReply_fields (s.legs.get l) pass st
  rcases taken_cases l pass st s with ⟨v, told, ⟨changed, unreached, -, outside⟩, shown⟩ | ⟨free, shown⟩
  · have h := commands_resendSetpoint l v (modLeg l (LegSeq.answered pass st) s)
    rw [shown]
    generalize resendSetpoint l v (modLeg l (LegSeq.answered pass st) s) = t at h
    have now := h.told l (List.mem_singleton.mpr rfl)
    rw [leg, LegSeq.answered, fields] at now
    rw [fields] at unreached
    refine ⟨h.frame, fun m other => (h.others m fun mem => other (List.mem_singleton.mp mem)).trans (away m other), ?_, ?_, ?_, ?_, ?_,
      fun held => absurd held outside⟩
    · rw [now]
      rfl
    · rw [now]
    · rw [now]
      exact unreached.symm
    · exact fun reached => absurd (reached.symm.trans unreached) nofun
    · intro w speed running _ _ _ _ _
      have waits := h.waits running l (List.mem_singleton.mpr rfl)
      rw [leg, LegSeq.answered, fields] at waits
      rw [told] at speed
      obtain rfl : v = w := Option.some.inj speed
      exact waits
  · rw [shown]
    rw [LegSeq.answered, fields] at leg
    refine ⟨rfl, away, ?_, ?_, ?_, fun _ => ?_, fun v told _ free' unfolded unreached fails changed => absurd ?_ (free v told),
      fun _ => rfl⟩
    · rw [leg]
      rfl
    · rw [leg]
    · rw [leg]
    · rw [leg]
    · rw [fields]
      exact ⟨changed, by rw [unreached, fails]; rfl, unfolded, free'⟩

/-! ## What is tested after a reply -/

theorem preshiftTest_eq (s : State) : preshiftTest s = s.setBal { s.bal with preshift := (preshiftTest s).bal.preshift } := by
  unfold preshiftTest
  split
  · rfl
  · split <;> rfl

/-- What a reply completes (R117, R120, R144, R146). -/
def completed (s : State) : State := settleCompleteTest (riseTest (shiftTest (preshiftTest s)))

theorem shiftTest_of_unreached (unreached : (s.legs.get l).reached = false) : shiftTest s = s := by
  unfold shiftTest
  split
  · rfl
  · refine if_neg fun all => ?_
    rw [Quad.all_iff] at all
    exact Bool.false_ne_true (unreached.symm.trans (all l))

theorem shiftTest_of_not_running (still : ∀ w ∈ s.plan.window, w.cond ≠ .running) : shiftTest s = s := by
  unfold shiftTest
  rw [List.find?_eq_none.mpr fun w mem => by simpa using still w mem]

theorem riseTest_of_unreached (unreached : (s.legs.get l).reached = false) : riseTest s = s := by
  refine if_neg fun done => ?_
  simp only [riseDone, Bool.and_eq_true, Quad.all_iff] at done
  exact Bool.false_ne_true (unreached.symm.trans (done.1.2 l))

/-- While a leg is to reach its target a reply completes a pre-shift at most. -/
theorem completed_of_unreached (unreached : (s.legs.get l).reached = false) : completed s = preshiftTest s := by
  have same : ((preshiftTest s).legs.get l).reached = false := by
    rw [preshiftTest_eq]
    exact unreached
  have settle : settleCompleteTest (preshiftTest s) = preshiftTest s := if_neg fun h => by
    have all := h.2
    rw [Quad.all_iff] at all
    exact Bool.false_ne_true (same.symm.trans (all l))
  rw [completed, shiftTest_of_unreached same, riseTest_of_unreached same, settle]

theorem settleCompleteTest_of_mode (other : s.sup.mode ≠ .settling) : settleCompleteTest s = s := if_neg fun h => other h.1

/-- Of a leg's sequencer what no planner operation changes, its mark apart. -/
def LegSeq.core (q : LegSeq) : LegSeq := { q.bare with clamped := false }

/-- From `s` to `t` no leg has begun or ended a phase, and no settle has begun. -/
structure Rests (s t : State) : Prop where
  calm : Calm s t
  sup : t.sup = s.sup
  feet : t.feet = s.feet
  braceOut : t.bal.braceOut = s.bal.braceOut
  legs : ∀ l, (t.legs.get l).core = (s.legs.get l).core

theorem Planned.rests (h : Planned s t) : Rests s t :=
  ⟨h.calm, h.sup, h.feet, h.braceOut, fun l => congrArg (fun q : LegSeq => { q with clamped := false }) (h.legs l)⟩

theorem Rests.trans (h : Rests s t) (k : Rests t u) : Rests s u :=
  ⟨h.calm.trans k.calm, k.sup.trans h.sup, k.feet.trans h.feet, k.braceOut.trans h.braceOut, fun l => (k.legs l).trans (h.legs l)⟩

theorem Rests.phase (h : Rests s t) (l : Leg) : (t.legs.get l).phase = (s.legs.get l).phase := by
  simpa [LegSeq.core, LegSeq.bare] using congrArg LegSeq.phase (h.legs l)

theorem Rests.motion (h : Rests s t) (l : Leg) : (t.legs.get l).motion = (s.legs.get l).motion := by
  simpa [LegSeq.core, LegSeq.bare] using congrArg LegSeq.motion (h.legs l)

theorem Rests.lands (h : Rests s t) (lands : Lands l s) : Lands l t := by
  have timer : (t.legs.get l).timer = (s.legs.get l).timer := by
    simpa [LegSeq.core, LegSeq.bare] using congrArg LegSeq.timer (h.legs l)
  have record : (t.legs.get l).record = (s.legs.get l).record := by
    simpa [LegSeq.core, LegSeq.bare] using congrArg LegSeq.record (h.legs l)
  obtain ⟨phase, stopped, motion, unserving⟩ := lands
  exact ⟨(h.phase l).trans phase, timer.trans stopped, (h.motion l).trans motion, record.trans unserving⟩

theorem planned_preshiftTest (s : State) : Planned s (preshiftTest s) := by
  rw [preshiftTest_eq]
  exact planned_setBal s s.bal.eval s.bal.queue _

/-- The marks at the end of a SHIFT: every leg's, and the record's (R122). -/
def shiftLimited (w : WindowRecord) (s : State) : State :=
  (s.setLegs (s.legs.map LegSeq.markedAtLimit)).setPlan (markedPlan w.body.id (s.legs.any LegSeq.limitReached) s.plan)

theorem shiftTest_of_running {w : WindowRecord} (running : s.plan.window.find? (fun w => decide (w.cond = .running)) = some w) :
    shiftTest s = if s.legs.all LegSeq.reached then completeRecord w.body.id .ok (shiftLimited w s) else s := by
  unfold shiftTest
  rw [running]
  dsimp only
  rw [markIf_eq]
  rfl

theorem rests_shiftTest (no : s.sup.pendingSettle = false) : Rests s (shiftTest s) := by
  cases running : s.plan.window.find? fun w => decide (w.cond = .running) with
  | none =>
    rw [shiftTest, running]
    exact (Planned.refl s).rests
  | some w =>
    rw [shiftTest_of_running running]
    split
    · have marked : Rests s (shiftLimited w s) := by
        refine ⟨(calm_setLegs s _).trans (calm_setPlan ..), rfl, rfl, rfl, fun l => ?_⟩
        show ((s.legs.map LegSeq.markedAtLimit).get l).core = _
        rw [Quad.get_map, LegSeq.markedAtLimit]
        split <;> rfl
      exact marked.trans (planned_completeRecord (.inl (by exact no)) ..).rests
    · exact (Planned.refl s).rests

/-- In STANDING with no settle pending a reply completes a pre-shift or a SHIFT at most. -/
theorem completed_of_standing (standing : s.sup.mode = .standing) (no : s.sup.pendingSettle = false) :
    completed s = shiftTest (preshiftTest s) ∧ Rests s (completed s) := by
  have first := planned_preshiftTest s
  have rests := first.rests.trans (rests_shiftTest (by rw [first.sup]; exact no))
  have mode : (shiftTest (preshiftTest s)).sup.mode = .standing := by rw [rests.sup]; exact standing
  have same : completed s = shiftTest (preshiftTest s) := by
    rw [completed, riseTest_of_mode (by rw [mode]; decide), settleCompleteTest_of_mode (by rw [mode]; decide)]
  exact ⟨same, by rw [same]; exact rests⟩

/-- A good reply, taken by its drive (R132). -/
def closed (l : Leg) (pos : Vec3) (st : DriveState) (flag : Bool) (s : State) : State :=
  setLine .idle (modDrive l (fun d => { d with pos := pos, last := some ⟨st, flag⟩, timeouts := 0, poll := 5 }) s)

/-- A good reply: taken by its drive and by its leg, with what it completes, and the drive's state tested (R132, R139). -/
theorem goodReply_eq (l : Leg) (pos : Vec3) (st : DriveState) (flag : Bool) (s : State) :
    goodReply l pos st flag s =
      let pass := passesReached (s.legs.get l) s.gait.tolerance pos st flag
      driveStateTest l (s.bus.drives.get l).last st (completed (replyActs l pass (taken l pass st (closed l pos st flag s)))) := rfl

/-- A drive that reports FAULT after another state, or after no reply, is raised and reported (R139). -/
theorem driveStateTest_cases (l : Leg) (before : Option LastReply) (now : DriveState) (s : State) :
    driveStateTest l before now s = s ∨
      now = .fault ∧ driveStateTest l before now s = reportFault .driveFault (some l) (raise .driveFault s) := by
  cases before
  all_goals
    unfold driveStateTest
    dsimp only
    split
    case isTrue found => exact .inr ⟨found.1, rfl⟩
    case isFalse => exact .inl rfl

theorem driveStateTest_of_fine (fine : st ≠ .fault) (l : Leg) (before : Option LastReply) (s : State) : driveStateTest l before st s = s := by
  rcases driveStateTest_cases l before st s with same | ⟨fault, -⟩
  · exact same
  · exact absurd fault fine

theorem driveStateTest_of_found {before : Option LastReply} (other : ∀ r, before = some r → r.state ≠ .fault) (l : Leg) (s : State) :
    driveStateTest l before .fault s = reportFault .driveFault (some l) (raise .driveFault s) := by
  cases before with
  | none =>
    have found : DriveState.fault = .fault ∧ false = false := ⟨rfl, rfl⟩
    exact if_pos (e := s) found
  | some r =>
    have found : DriveState.fault = .fault ∧ decide (r.state = .fault) = false := ⟨rfl, decide_eq_false (other r rfl)⟩
    exact if_pos (e := s) found

end
end Sys2Proof.Machine
end

section
/-! LEGS FOLLOW. What a good reply and a contact change report do to a leg that is lifting, swinging or reaching (R101 to R103, R106 to
R109, R122). -/

namespace Sys2Proof.Machine

section
variable {s t u : State} {l : Leg} {d : StepData} {pos : Vec3} {st : DriveState} {flag pass : Bool} {a : Motion}

/-! ## The end of a phase -/

/-- The plan with a leg's record marked where an AT_LIMIT arrival has set the leg's reached flag (R122). -/
def markedFor (q : LegSeq) (p : Planner) : Planner := q.record.elim p fun id => markedPlan id q.limitReached p

theorem markIfLimit_eq (l : Leg) (s : State) :
    markIfLimit l s = (modLeg l LegSeq.markedAtLimit s).setPlan (markedFor (s.legs.get l) s.plan) := by
  have shown : markIfLimit l s = if (s.legs.get l).limitReached = true then
      (s.legs.get l).record.elim (modLeg l (fun p => { p with clamped := true }) s) fun id =>
        markRecord id (modLeg l (fun p => { p with clamped := true }) s) else s := by
    unfold markIfLimit
    dsimp only
    cases (s.legs.get l).record <;> rfl
  rw [shown]
  cases limit : (s.legs.get l).limitReached with
  | false =>
    have leg : (s.legs.get l).markedAtLimit = s.legs.get l := by simp [LegSeq.markedAtLimit, limit]
    have legs : modLeg l LegSeq.markedAtLimit s = s := by
      rw [modLeg, leg, Quad.set_get_self]
      rfl
    have plan : markedFor (s.legs.get l) s.plan = s.plan := by
      rw [markedFor, limit]
      cases (s.legs.get l).record with
      | none => rfl
      | some id => simp [markedPlan, List.map_congr_left fun w _ => markedIf_false id w]
    rw [legs, plan]
    rfl
  | true =>
    have leg : (s.legs.get l).markedAtLimit = { s.legs.get l with clamped := true } := by simp [LegSeq.markedAtLimit, limit]
    have legs : modLeg l LegSeq.markedAtLimit s = modLeg l (fun p => { p with clamped := true }) s := by rw [modLeg, modLeg, leg]
    rw [legs, if_pos rfl, markedFor, limit]
    generalize modLeg l (fun p => { p with clamped := true }) s = x at legs
    have plan : x.plan = s.plan := by rw [← legs]; rfl
    cases (s.legs.get l).record with
    | none =>
      show x = x.setPlan s.plan
      rw [← plan]
      rfl
    | some id =>
      have mark := markIf_eq true id x
      rw [if_pos rfl, plan] at mark
      exact mark

theorem markIfLimit_leg (l : Leg) (s : State) : (markIfLimit l s).legs.get l = (s.legs.get l).markedAtLimit := by
  rw [markIfLimit_eq]
  exact Quad.get_set_self ..

theorem markedAtLimit_fields (q : LegSeq) : q.markedAtLimit = { q with clamped := q.clamped || q.limitReached } := by
  unfold LegSeq.markedAtLimit
  cases limit : q.limitReached with
  | false =>
    rw [Bool.or_false]
    obtain ⟨⟩ := q
    cases limit
    rfl
  | true =>
    rw [Bool.or_true]
    obtain ⟨⟩ := q
    cases limit
    rfl

theorem rests_markIfLimit (l : Leg) (s : State) : Rests s (markIfLimit l s) := by
  have calm := calm_markIfLimit l s
  have steady := steady_markIfLimit l s
  refine ⟨calm, steady.sup, steady.feet, by rw [markIfLimit_eq]; rfl, fun m => ?_⟩
  by_cases same : m = l
  · subst same
    rw [markIfLimit_leg, markedAtLimit_fields]
    rfl
  · rw [markIfLimit_eq]
    exact congrArg LegSeq.core (Quad.get_set_of_ne _ same _)

/-- LIFT ends: the leg is on its way to its target at the lift level (R101). -/
theorem moves_liftEnd (step : (s.legs.get l).step = some d) (motion : (s.legs.get l).motion = some .step) (running : s.sup.mode ≠ .parked) :
    Moves s.geo (s.legs.get l).derating l .swing .step ⟨d.target.x, d.target.y, d.liftLevel⟩ s.gait.swingSpeed s.gait.swingTimeout
      (liftEnd l s) := by
  have rests := rests_markIfLimit l s
  have leg := markIfLimit_leg l s
  rw [markedAtLimit_fields] at leg
  have way := moves_startPhase (s := markIfLimit l s) (l := l) .swing (atLevel d.target d.liftLevel) s.gait.swingSpeed
    s.gait.swingTimeout (by rw [leg]; exact motion) (by rw [rests.sup]; exact running)
  rw [leg, rests.calm.quiet.geo] at way
  unfold liftEnd
  rw [step]
  exact way.phaseChanged (by decide)

/-! ## A landing, by whatever motion -/

theorem lands_landCore (moving : (s.legs.get l).motion ≠ none) (no : s.sup.pendingSettle = false) :
    Lands l (landCore l s) ∧ (landCore l s).sup = s.sup := by
  obtain ⟨a, motion⟩ := Option.ne_none_iff_exists'.mp moving
  have returning : a.returns → Lands l (landCore l s) ∧ (landCore l s).sup = s.sup := fun returns => by
    have h := stops_landCore motion returns
    exact ⟨h.lands, h.work.sup⟩
  cases a
  case step =>
    have h := stepLands_landCore motion no
    exact ⟨h.lands, h.unsettled⟩
  case held =>
    rw [landCore_of_held motion]
    refine ⟨?_, rfl⟩
    have leg : (modLeg l (fun p => { p with phase := .stance, timer := none, motion := none, record := none }) s).legs.get l =
        { s.legs.get l with phase := .stance, timer := none, motion := none, record := none } := Quad.get_set_self ..
    rw [Lands, leg]
    exact ⟨rfl, rfl, rfl, rfl⟩
  case recovery => exact returning (.inr (.inl rfl))
  case retreat => exact returning (.inl rfl)
  case descent => exact returning (.inr (.inr rfl))

/-- A landing reported (R96): the leg lands, and nothing settles by it where nothing pends. -/
theorem lands_land (moving : (s.legs.get l).motion ≠ none) (no : s.sup.pendingSettle = false) :
    Lands l (land l s) ∧ (land l s).sup = s.sup ∧ (land l s).feet = s.feet := by
  obtain ⟨lands, sup⟩ := lands_landCore moving no
  have feet := (watchKept_landCore l s).feet
  have planned := planned_phaseChanged (s := landCore l s) (.inl (by rw [sup]; exact no))
  exact ⟨lands.planned planned, planned.sup.trans sup, planned.feet.trans feet⟩

/-! ## REACH is entered -/

/-- From `s` a leg has entered REACH: it is on its way down, or lands where its foot is LOADED (R102, R103, R107). -/
structure EntersReach (l : Leg) (a : Motion) (body : Vec3) (s t : State) : Prop where
  feet : t.feet = s.feet
  sup : t.sup = s.sup
  lands : (s.feet.get l).contact = .loaded → Lands l t
  moves : (s.feet.get l).contact ≠ .loaded →
    Moves s.geo (s.legs.get l).derating l .reach a body s.gait.reachSpeed s.gait.reachTimeout t

theorem entersReach (motion : (s.legs.get l).motion = some a) (body : Vec3) (running : s.sup.mode ≠ .parked)
    (no : s.sup.pendingSettle = false) :
    EntersReach l a body s (phaseChanged (landIfLoaded l (sendSetpoint l body s.gait.reachSpeed
      (startPhase l .reach s.gait.reachTimeout s)))) := by
  have way := moves_startPhase .reach body s.gait.reachSpeed s.gait.reachTimeout motion running
  have sent := planned_sendSetpoint l body s.gait.reachSpeed (startPhase l .reach s.gait.reachTimeout s)
  have feet : (sendSetpoint l body s.gait.reachSpeed (startPhase l .reach s.gait.reachTimeout s)).feet = s.feet := sent.feet
  have sup : (sendSetpoint l body s.gait.reachSpeed (startPhase l .reach s.gait.reachTimeout s)).sup = s.sup := sent.sup
  generalize sendSetpoint l body s.gait.reachSpeed (startPhase l .reach s.gait.reachTimeout s) = x at way feet sup ⊢
  obtain ⟨phase, moving, -⟩ := id way
  by_cases loaded : (s.feet.get l).contact = .loaded
  · rw [landIfLoaded_of_loaded phase (by rw [feet]; exact loaded)]
    obtain ⟨lands, landSup, landFeet⟩ := lands_land (s := x) (l := l) (by rw [moving]; exact Option.some_ne_none _) (by rw [sup]; exact no)
    exact ⟨landFeet.trans feet, landSup.trans sup, fun _ => lands, fun no => absurd loaded no⟩
  · rw [landIfLoaded_of_unloaded (by rw [feet]; exact loaded)]
    have planned := planned_phaseChanged (s := x) (.inl (by rw [sup]; exact no))
    exact ⟨planned.feet.trans feet, planned.sup.trans sup, fun yes => absurd yes loaded, fun _ => way.phaseChanged (by decide)⟩

/-- SWING ends: the foot takes the target class and the leg enters REACH (R14, R102). -/
def swung (l : Leg) (d : StepData) (s : State) : State := modFoot l (fun f => { f with cls := d.targetClass }) (markIfLimit l s)

theorem swingEnd_eq (step : (s.legs.get l).step = some d) :
    swingEnd l s = phaseChanged (landIfLoaded l (sendSetpoint l (atLevel d.target (d.target.z - d.reachDepth))
      (swung l d s).gait.reachSpeed (startPhase l .reach (swung l d s).gait.reachTimeout (swung l d s)))) := by
  have gait : (swung l d s).gait = s.gait := (rests_markIfLimit l s).calm.quiet.gait
  unfold swingEnd
  rw [step, gait]
  rfl

/-- From `s` SWING has ended by a reply (R102, R103). -/
structure Swings (l : Leg) (d : StepData) (s t : State) : Prop where
  cls : (t.feet.get l).cls = d.targetClass
  contact : (t.feet.get l).contact = (s.feet.get l).contact
  sup : t.sup = s.sup
  lands : (s.feet.get l).contact = .loaded → Lands l t
  moves : (s.feet.get l).contact ≠ .loaded → Moves s.geo (s.legs.get l).derating l .reach .step
    ⟨d.target.x, d.target.y, d.target.z - d.reachDepth⟩ s.gait.reachSpeed s.gait.reachTimeout t

theorem swings_swingEnd (step : (s.legs.get l).step = some d) (motion : (s.legs.get l).motion = some .step)
    (running : s.sup.mode ≠ .parked) (no : s.sup.pendingSettle = false) : Swings l d s (swingEnd l s) := by
  have rests := rests_markIfLimit l s
  have leg : (swung l d s).legs.get l = (s.legs.get l).markedAtLimit := markIfLimit_leg l s
  rw [markedAtLimit_fields] at leg
  have feet : (swung l d s).feet = s.feet.set l { s.feet.get l with cls := d.targetClass } := by
    show (markIfLimit l s).feet.set l _ = _
    rw [rests.feet]
  have sup : (swung l d s).sup = s.sup := rests.sup
  have gait : (swung l d s).gait = s.gait := rests.calm.quiet.gait
  have geo : (swung l d s).geo = s.geo := rests.calm.quiet.geo
  have h := entersReach (s := swung l d s) (l := l) (a := .step) (by rw [leg]; exact motion)
    (atLevel d.target (d.target.z - d.reachDepth)) (by rw [sup]; exact running) (by rw [sup]; exact no)
  rw [swingEnd_eq step]
  generalize phaseChanged _ = t at h ⊢
  obtain ⟨tFeet, tSup, lands, moves⟩ := h
  rw [feet, Quad.get_set_self] at lands moves
  rw [leg, geo, gait] at moves
  refine ⟨?_, ?_, tSup.trans sup, lands, moves⟩ <;> rw [tFeet, feet, Quad.get_set_self]

/-- A retreat reaches its origin, and descends (R107). -/
theorem retreatReach_eq (step : (s.legs.get l).step = some d) :
    retreatReach l s = phaseChanged (landIfLoaded l (sendSetpoint l (atLevel d.origin (d.origin.z - d.reachDepth)) s.gait.reachSpeed
      (startPhase l .reach s.gait.reachTimeout s))) := by
  unfold retreatReach
  rw [step]

/-- A leg in REACH lands by a reply or a report where its foot is LOADED, whatever its motion (R103, R107 to R109). -/
theorem lands_reachedInReach (moving : (s.legs.get l).motion ≠ none) (loaded : (s.feet.get l).contact = .loaded)
    (no : s.sup.pendingSettle = false) :
    Lands l (reachedInReach l s) ∧ (reachedInReach l s).sup = s.sup := by
  obtain ⟨a, motion⟩ := Option.ne_none_iff_exists'.mp moving
  have rests := rests_markIfLimit l s
  have shown : reachedInReach l s = land l s ∨ reachedInReach l s = land l (markIfLimit l s) := by
    unfold reachedInReach
    dsimp only
    rw [motion, loaded]
    cases a
    case step => exact .inr rfl
    all_goals exact .inl rfl
  rcases shown with shown | shown <;> rw [shown]
  · obtain ⟨lands, sup, -⟩ := lands_land moving no
    exact ⟨lands, sup⟩
  · obtain ⟨lands, sup, -⟩ := lands_land (s := markIfLimit l s) (by rw [rests.motion]; exact moving) (by rw [rests.sup]; exact no)
    exact ⟨lands, sup.trans rests.sup⟩

theorem reachedInReach_of_step (motion : (s.legs.get l).motion = some .step) :
    ((s.feet.get l).contact = .loaded → reachedInReach l s = land l (markIfLimit l s)) ∧
    ((s.feet.get l).contact ≠ .loaded → reachedInReach l s = missFoothold l (markIfLimit l s)) := by
  unfold reachedInReach
  dsimp only
  rw [motion]
  exact ⟨fun loaded => if_pos (decide_eq_true loaded), fun unloaded => if_neg (by simpa using unloaded)⟩

theorem reachedInReach_of_returns (motion : (s.legs.get l).motion = some a) (returns : a.returns)
    (unloaded : (s.feet.get l).contact ≠ .loaded) : reachedInReach l s = failLeg l s := by
  unfold reachedInReach
  dsimp only
  rw [motion]
  rcases returns with rfl | rfl | rfl <;> exact if_neg (by simpa using unloaded)

/-! ## What a reply does to a leg -/

theorem replyActs_of_stands (stands : (s.legs.get l).phase = .folded ∨ (s.legs.get l).phase = .posture ∨ (s.legs.get l).phase = .stance) :
    replyActs l pass s = s := by
  unfold replyActs
  dsimp only
  split
  · rfl
  · rcases stands with h | h | h <;> rw [h]

theorem replyActs_of_lift (lift : (s.legs.get l).phase = .lift) (free : s.sup.mode ≠ .safeHold) :
    replyActs l pass s = if (s.legs.get l).motion = some .step ∧ (s.legs.get l).reached ∧ (s.feet.get l).contact = .air then liftEnd l s
      else s := by
  unfold replyActs
  dsimp only
  rw [if_neg free, lift]

theorem replyActs_of_fails (off : (s.legs.get l).phase ≠ .lift) : replyActs l false s = s := by
  unfold replyActs
  dsimp only
  split
  · rfl
  · cases phase : (s.legs.get l).phase
    case lift => exact absurd phase off
    all_goals rfl

theorem replyActs_of_swing (swing : (s.legs.get l).phase = .swing) (free : s.sup.mode ≠ .safeHold) :
    ((s.legs.get l).motion = some .step → replyActs l true s = swingEnd l s) ∧
    ((s.legs.get l).motion = some .retreat → replyActs l true s = retreatReach l s) := by
  unfold replyActs
  dsimp only
  rw [if_neg free, swing]
  exact ⟨fun motion => by rw [motion]; rfl, fun motion => by rw [motion]; rfl⟩

theorem replyActs_of_reach (reach : (s.legs.get l).phase = .reach) (free : s.sup.mode ≠ .safeHold) :
    replyActs l true s = reachedInReach l s := by
  unfold replyActs
  dsimp only
  rw [if_neg free, reach]
  rfl

end
end Sys2Proof.Machine
end

section
/-! REPORTS. The legs in STANDING by a good reply and by a contact change report (R101 to R103, R106 to R109). -/

namespace Sys2Proof.Machine

section
variable {s t u : State} {l : Leg} {d : StepData} {x : Txn} {n : Nat} {pos : Vec3} {st : DriveState} {flags : Byte} {flag pass : Bool}
  {a : Motion}

/-! ## The state in which a reply has been taken -/

/-- From `s` a good reply has been taken by its drive and its leg's sequencer, and nothing yet done about it (R97, R121, R132). -/
structure Replied (l : Leg) (pos : Vec3) (st : DriveState) (flag pass : Bool) (s t : State) : Prop where
  frame : t = (s.setLegs t.legs).setBus t.bus
  drives : t.bus.drives = s.bus.drives.set l ⟨pos, some ⟨st, flag⟩, 0, 5⟩
  line : t.bus.line = .idle
  takes : ∃ base, base = s.setBus base.bus ∧ base.bus.queue = s.bus.queue ∧ Takes l pass st base t

theorem replied_taken (l : Leg) (pos : Vec3) (st : DriveState) (flag pass : Bool) (s : State) (x : Txn) (n : Nat) (bytes : List Byte) :
    Replied l pos st flag pass s (taken l pass st (closed l pos st flag (collecting s x n bytes))) := by
  have h := takes_taken l pass st (closed l pos st flag (collecting s x n bytes))
  have base : closed l pos st flag (collecting s x n bytes) = s.setBus
      { s.bus with drives := s.bus.drives.set l ⟨pos, some ⟨st, flag⟩, 0, 5⟩, line := .idle } := rfl
  rw [base] at h ⊢
  generalize taken l pass st _ = t at h
  have frame := h.frame
  have bus : t.bus = { s.bus with drives := s.bus.drives.set l ⟨pos, some ⟨st, flag⟩, 0, 5⟩, line := .idle, queue := t.bus.queue } := by
    conv_lhs => rw [frame]
    rfl
  refine ⟨?_, by rw [bus], by rw [bus],
    s.setBus { s.bus with drives := s.bus.drives.set l ⟨pos, some ⟨st, flag⟩, 0, 5⟩, line := .idle }, rfl, rfl, h⟩
  conv_lhs => rw [frame]
  rw [bus]
  rfl

theorem Replied.sup (h : Replied l pos st flag pass s t) : t.sup = s.sup := by rw [h.frame]; rfl
theorem Replied.plan (h : Replied l pos st flag pass s t) : t.plan = s.plan := by rw [h.frame]; rfl
theorem Replied.bal (h : Replied l pos st flag pass s t) : t.bal = s.bal := by rw [h.frame]; rfl
theorem Replied.ev (h : Replied l pos st flag pass s t) : t.ev = s.ev := by rw [h.frame]; rfl
theorem Replied.feet (h : Replied l pos st flag pass s t) : t.feet = s.feet := by rw [h.frame]; rfl
theorem Replied.geo (h : Replied l pos st flag pass s t) : t.geo = s.geo := by rw [h.frame]; rfl
theorem Replied.gait (h : Replied l pos st flag pass s t) : t.gait = s.gait := by rw [h.frame]; rfl
theorem Replied.surf (h : Replied l pos st flag pass s t) : t.surf = s.surf := by rw [h.frame]; rfl
theorem Replied.balCfg (h : Replied l pos st flag pass s t) : t.balCfg = s.balCfg := by rw [h.frame]; rfl

/-- The leg that has answered. -/
structure Answered (l : Leg) (st : DriveState) (pass : Bool) (s t : State) : Prop where
  others : ∀ m, m ≠ l → t.legs.get m = s.legs.get m
  bare : (t.legs.get l).bare = { (s.legs.get l).bare with derating := decide (st = .hot) }
  commanded : (t.legs.get l).commanded = (s.legs.get l).commanded
  reached : (t.legs.get l).reached = ((s.legs.get l).reached || pass)
  limited : ((s.legs.get l).reached || pass) = true → (t.legs.get l).limitReached =
    if pass = true ∧ (s.legs.get l).reached = false then decide (st = .atLimit) else (s.legs.get l).limitReached

theorem Replied.answered (h : Replied l pos st flag pass s t) : Answered l st pass s t := by
  obtain ⟨base, same, -, takes⟩ := h.takes
  have legs : base.legs = s.legs := by rw [same]; rfl
  obtain ⟨-, others, bare, commanded, reached, limited, -⟩ := takes
  rw [legs] at others bare commanded reached limited
  exact ⟨others, bare, commanded, reached, limited⟩

theorem Answered.phase (h : Answered l st pass s t) : (t.legs.get l).phase = (s.legs.get l).phase := by
  simpa [LegSeq.bare] using congrArg LegSeq.phase h.bare

theorem Answered.motion (h : Answered l st pass s t) : (t.legs.get l).motion = (s.legs.get l).motion := by
  simpa [LegSeq.bare] using congrArg LegSeq.motion h.bare

theorem Answered.record (h : Answered l st pass s t) : (t.legs.get l).record = (s.legs.get l).record := by
  simpa [LegSeq.bare] using congrArg LegSeq.record h.bare

theorem Answered.step (h : Answered l st pass s t) : (t.legs.get l).step = (s.legs.get l).step := by
  simpa [LegSeq.bare] using congrArg LegSeq.step h.bare

theorem Answered.timer (h : Answered l st pass s t) : (t.legs.get l).timer = (s.legs.get l).timer := by
  simpa [LegSeq.bare] using congrArg LegSeq.timer h.bare

theorem Answered.clamped (h : Answered l st pass s t) : (t.legs.get l).clamped = (s.legs.get l).clamped := by
  simpa [LegSeq.bare] using congrArg LegSeq.clamped h.bare

theorem Answered.derating (h : Answered l st pass s t) : (t.legs.get l).derating = decide (st = .hot) := by
  simpa [LegSeq.bare] using congrArg LegSeq.derating h.bare

/-- A good reply, byte by byte: taken, acted on, tested for what it completes, and its drive's state tested (R132, R139). -/
theorem exec_reply (line : s.bus.line = .window x n []) (fx : fits16 pos.x) (fy : fits16 pos.y) (fz : fits16 pos.z) :
    let pass := passesReached (s.legs.get x.leg) s.gait.tolerance pos st (flags.getLsbD 0)
    ∃ r, Replied x.leg pos st (flags.getLsbD 0) pass s r ∧ exec (.driveReply (driveReplyBytes x pos st flags)) s =
      .next (driveStateTest x.leg (s.bus.drives.get x.leg).last st (completed (replyActs x.leg pass r))) := by
  refine ⟨_, replied_taken x.leg pos st (flags.getLsbD 0)
    (passesReached (s.legs.get x.leg) s.gait.tolerance pos st (flags.getLsbD 0)) s x n (driveReplyBytes x pos st flags), ?_⟩
  have judged : judgeReply x (driveReplyBytes x pos st flags) = .good pos st (flags.getLsbD 0) := by
    rw [judgeReply_driveReplyBytes x x st flags fx fy fz, if_pos ⟨rfl, rfl⟩]
  exact congrArg Host.Outcome.next ((driveReply_of_good line rfl judged).trans (goodReply_eq ..))

/-- A good reply that reports no FAULT (R132). -/
theorem exec_goodReply (line : s.bus.line = .window x n []) (fx : fits16 pos.x) (fy : fits16 pos.y) (fz : fits16 pos.z)
    (fine : st ≠ .fault) :
    ∃ r, Replied x.leg pos st (flags.getLsbD 0) (passesReached (s.legs.get x.leg) s.gait.tolerance pos st (flags.getLsbD 0)) s r ∧
      exec (.driveReply (driveReplyBytes x pos st flags)) s = .next (completed
        (replyActs x.leg (passesReached (s.legs.get x.leg) s.gait.tolerance pos st (flags.getLsbD 0)) r)) := by
  obtain ⟨r, replied, shown⟩ := exec_reply (st := st) (flags := flags) line fx fy fz
  rw [driveStateTest_of_fine fine] at shown
  exact ⟨r, replied, shown⟩

/-- A leg on its way is left on its way by what a reply completes, for it is to reach its target. -/
theorem Moves.completed {g : Geometry} {hot : Bool} {p : Phase} {body : Vec3} {speed timeout : Nat}
    (h : Moves g hot l p a body speed timeout s) : Moves g hot l p a body speed timeout (completed s) := by
  rw [completed_of_unreached h.2.2.2.1, preshiftTest_eq]
  exact h.spared (.of_eq rfl rfl)

/-- Of a leg in STANDING a good reply that passes the reached test ends SWING or REACH (R102, R103, R106 to R109). -/
structure Follows (l : Leg) (d : StepData) (hot : Bool) (pos : Vec3) (s t : State) : Prop where
  swing : (s.legs.get l).phase = .swing → (s.legs.get l).motion = some .step →
    (t.feet.get l).cls = d.targetClass ∧ ((s.feet.get l).contact = .loaded → Lands l t) ∧
    ((s.feet.get l).contact ≠ .loaded → Moves s.geo hot l .reach .step ⟨d.target.x, d.target.y, d.target.z - d.reachDepth⟩
      s.gait.reachSpeed s.gait.reachTimeout t)
  retreat : (s.legs.get l).phase = .swing → (s.legs.get l).motion = some .retreat →
    ((s.feet.get l).contact = .loaded → Lands l t) ∧
    ((s.feet.get l).contact ≠ .loaded → Moves s.geo hot l .reach .retreat ⟨d.origin.x, d.origin.y, d.origin.z - d.reachDepth⟩
      s.gait.reachSpeed s.gait.reachTimeout t)
  lands : (s.legs.get l).phase = .reach → (s.legs.get l).motion ≠ none → (s.feet.get l).contact = .loaded → Lands l t
  misses : (s.legs.get l).phase = .reach → (s.legs.get l).motion = some .step → (s.feet.get l).contact ≠ .loaded →
    Moves s.geo hot l .swing .retreat ⟨d.origin.x, d.origin.y, d.liftLevel⟩ s.gait.swingSpeed s.gait.swingTimeout t ∧
      (t.feet.get l).cls = d.originClass ∧ hasEvent t.ev.pending .missed = true
  fails : (s.legs.get l).phase = .reach → (∃ a : Motion, (s.legs.get l).motion = some a ∧ a.returns) →
    (s.feet.get l).contact ≠ .loaded →
    (t.legs.get l).phase = .reach ∧ (t.legs.get l).motion = some .held ∧ (t.legs.get l).timer = none ∧
      (t.legs.get l).commanded = pos ∧ hasEvent t.ev.pending .missed = true ∧ t.bal.braceOut = true

theorem follows_replyActs (h : Replied l pos st flag true s t) (standing : s.sup.mode = .standing)
    (no : s.sup.pendingSettle = false) (step : (s.legs.get l).step = some d) :
    Follows l d (decide (st = .hot)) pos s (completed (replyActs l true t)) := by
  have leg := h.answered
  have running : t.sup.mode ≠ .parked := by rw [h.sup, standing]; decide
  have free : t.sup.mode ≠ .safeHold := by rw [h.sup, standing]; decide
  have standing' : t.sup.mode = .standing := by rw [h.sup]; exact standing
  have no' : t.sup.pendingSettle = false := by rw [h.sup]; exact no
  have step' : (t.legs.get l).step = some d := leg.step.trans step
  have rests : ∀ z : State, z.sup = t.sup → Rests z (completed z) := fun z sup =>
    (completed_of_standing (by rw [sup]; exact standing') (by rw [sup]; exact no')).2
  have gait := h.gait
  have geo := h.geo
  have feet := h.feet
  refine ⟨fun swing motion => ?_, fun swing motion => ?_, fun reach moving loaded => ?_, fun reach motion unloaded => ?_,
    fun reach ⟨a, motion, returns⟩ unloaded => ?_⟩
  · have motion' := leg.motion.trans motion
    rw [(replyActs_of_swing (leg.phase.trans swing) free).1 motion']
    obtain ⟨cls, -, sup, lands, moves⟩ := swings_swingEnd step' motion' running no'
    rw [feet] at lands moves
    rw [leg.derating, geo, gait] at moves
    have kept := rests _ sup
    exact ⟨by rw [kept.feet]; exact cls, fun loaded => kept.lands (lands loaded), fun unloaded => (moves unloaded).completed⟩
  · have motion' := leg.motion.trans motion
    have entered := entersReach motion' (atLevel d.origin (d.origin.z - d.reachDepth)) running no'
    rw [(replyActs_of_swing (leg.phase.trans swing) free).2 motion', retreatReach_eq step']
    generalize phaseChanged _ = z at entered ⊢
    obtain ⟨-, sup, lands, moves⟩ := entered
    rw [feet] at lands moves
    rw [leg.derating, geo, gait] at moves
    exact ⟨fun loaded => (rests z sup).lands (lands loaded), fun unloaded => (moves unloaded).completed⟩
  · rw [replyActs_of_reach (leg.phase.trans reach) free]
    obtain ⟨lands, sup⟩ := lands_reachedInReach (by rw [leg.motion]; exact moving) (by rw [feet]; exact loaded) no'
    exact (rests _ sup).lands lands
  · have marked := rests_markIfLimit l t
    have markedLeg := markIfLimit_leg l t
    rw [markedAtLimit_fields] at markedLeg
    rw [replyActs_of_reach (leg.phase.trans reach) free, (reachedInReach_of_step (leg.motion.trans motion)).2 (by rw [feet]; exact unloaded)]
    obtain ⟨-, cls, raised, moves, -⟩ := misses_missFoothold (l := l) (d := d) (s := markIfLimit l t)
      (by rw [marked.phase, leg.phase, reach]; decide) (by rw [markedLeg]; exact step')
    have way := moves (by rw [marked.sup]; exact running)
    rw [markedLeg, marked.calm.quiet.geo, marked.calm.quiet.gait, geo, gait] at way
    have way' : Moves s.geo (t.legs.get l).derating l .swing .retreat ⟨d.origin.x, d.origin.y, d.liftLevel⟩ s.gait.swingSpeed
      s.gait.swingTimeout (missFoothold l (markIfLimit l t)) := way
    rw [leg.derating] at way'
    have same : completed (missFoothold l (markIfLimit l t)) = preshiftTest (missFoothold l (markIfLimit l t)) :=
      completed_of_unreached way'.2.2.2.1
    refine ⟨way'.completed, ?_, ?_⟩ <;> rw [same, preshiftTest_eq]
    · exact cls
    · exact raised
  · have motion' := leg.motion.trans motion
    have unloaded' : (t.feet.get l).contact ≠ .loaded := by rw [feet]; exact unloaded
    have reach' := leg.phase.trans reach
    rw [replyActs_of_reach reach' free, reachedInReach_of_returns motion' returns unloaded', failLeg_of_held (.inl reach')]
    obtain ⟨given, phase, held, timer⟩ := givesUp_failed l t
    rw [completed_of_unreached given.unreached, preshiftTest_eq]
    have here : (t.bus.drives.get l).pos = pos := by rw [h.drives, Quad.get_set_self]
    exact ⟨phase, held, timer, given.commanded.trans here, given.raised, given.braces⟩

end
end Sys2Proof.Machine
end

section
/-! CONTACT REPORTS. What a contact change report in STANDING does to a leg, and beside that what a good reply does (R29, R101 to R103,
R106 to R109). -/

namespace Sys2Proof.Machine

section
variable {s t u : State} {l : Leg} {d : StepData} {c : Contact} {w : WindowRecord} {a : Motion}

/-! ## A plan with nothing to issue -/

theorem barren_completionActs (barren : Barren s) (st : Status) (hold : Bool) : Barren (completionActs st hold s) := by
  unfold completionActs
  split
  case isTrue active =>
    split
    · right; left
      rw [(drains_drain active).plan]
      dsimp only
      split
      · exact PlanState.noConfusion
      · exact PlanState.noConfusion
    · rw [barren.issue, idleIfEmpty_eq]
      split
      · exact .inr (.inl (by rw [(planEnds_spec ..).plan]; exact PlanState.noConfusion))
      · exact barren
  case isFalse inactive =>
    split
    · rw [suspendIfEmpty_eq]
      split
      · exact .inr (.inl (by rw [(planEnds_spec ..).plan]; exact PlanState.noConfusion))
      · exact barren
    · exact barren

theorem barren_completeRecord (barren : Barren s) (id : Nat) (st : Status) : Barren (completeRecord id st s) := by
  unfold completeRecord
  split
  · exact barren
  case h_2 w _ =>
    exact barren_completionActs (barren_finishRecord barren w st) ..

theorem barren_reportOutcome (barren : Barren s) (l : Leg) (o : Outcome) (v : Option Vec3) : Barren (reportOutcome l o v s) := by
  unfold reportOutcome
  split
  · exact barren
  · split
    · exact barren
    · dsimp only
      split
      · split
        · exact barren_completeRecord (by exact barren) ..
        · exact barren
      · exact barren

theorem Legwork.barren (h : Legwork s t) (barren : Barren s) : Barren t := by
  rw [Barren, h.plan, h.bal]
  exact barren

/-- A leg that lands from its step, or from the motion that followed it, is stopped where it stands (R103, R107 to R109). -/
theorem stopped_landCore (motion : (s.legs.get l).motion = some a) (unheld : a ≠ .held) (no : s.sup.pendingSettle = false)
    (barren : Barren s) (free : Untouched l s) :
    Barren (landCore l s) ∧ ((landCore l s).legs.get l).step = none ∧
      ((landCore l s).legs.get l).commanded = hipTarget s.geo l (bodyPos s l) := by
  by_cases step : a = .step
  · subst step
    have h := stepLands_landCore motion no
    obtain ⟨-, work, -⟩ := stopDescent_spec l s
    refine ⟨?_, h.step, h.commanded barren free⟩
    rw [landCore_of_step motion]
    exact barren_reportOutcome (work.barren barren) ..
  · have returns : a.returns := by
      cases a
      case step => exact absurd rfl step
      case held => exact absurd rfl unheld
      case retreat => exact .inl rfl
      case recovery => exact .inr (.inl rfl)
      case descent => exact .inr (.inr rfl)
    have h := stops_landCore motion returns
    exact ⟨h.work.barren barren, h.step, h.commanded⟩

/-! ## The receivers of a report -/

/-- From `s` a sample has changed its foot's contact state, and the Balance Engine has had its share of the report (R29). -/
structure Sampled (l : Leg) (c : Contact) (s t : State) : Prop where
  contact : (t.feet.get l).contact = c
  legs : t.legs = s.legs
  plan : t.plan = s.plan
  ev : t.ev = s.ev
  bus : t.bus = s.bus
  geo : t.geo = s.geo
  gait : t.gait = s.gait
  mode : t.sup.mode = s.sup.mode
  pendingSettle : t.sup.pendingSettle = s.sup.pendingSettle
  preshift : t.bal.preshift = s.bal.preshift

theorem Balances.sampled (h : Balances t u) (contact : (t.feet.get l).contact = c) (quiet : t = s.setFeet t.feet) : Sampled l c s u := by
  have geo : u.geo = t.geo := by rw [h.frame]; rfl
  have gait : u.gait = t.gait := by rw [h.frame]; rfl
  refine ⟨by rw [h.feet]; exact contact, h.legs.trans ?_, h.plan.trans ?_, h.ev.trans ?_, h.bus.trans ?_, geo.trans ?_, gait.trans ?_,
    h.mode.trans ?_, h.pendingSettle.trans ?_, h.preshift.trans ?_⟩ <;> rw [quiet] <;> rfl

/-- How a sample judges a foot does not rest on its measurement. -/
theorem sampledFoot_contact_congr {f g : Foot} (contact : g.contact = f.contact) (qualify : g.qualify = f.qualify) (r : ClassRecord)
    (load : Nat) : (sampledFoot r load g).contact = (sampledFoot r load f).contact := by
  unfold sampledFoot
  rw [contact, qualify]
  cases now : f.contact <;> simp only [apply_ite Foot.contact, contact, now]

/-- A sample that changes its foot's contact state is reported to the leg and tested for what may be issued (R29, R76). -/
theorem exec_loadSample_changed {high : Option Nat} {period load : Nat} (measuring : (s.feet.get l).measurement = .measuring high)
    (valid : classify (high.getD period) period = .valid load) (standing : s.sup.mode = .standing)
    (changed : (sampledFoot (s.surf.get (s.feet.get l).cls) load (s.feet.get l)).contact ≠ (s.feet.get l).contact) :
    let c := (sampledFoot (s.surf.get (s.feet.get l).cls) load (s.feet.get l)).contact
    ∃ u, Sampled l c s u ∧ exec (.loadSample l period) s = .next (issue (seqContact l c u)) := by
  intro c
  let begun := modFoot l (fun f => { f with measurement := .measuring none, stale := some 3 }) s
  have foot : begun.feet.get l = { s.feet.get l with measurement := .measuring none, stale := some 3 } := Quad.get_set_self ..
  have record : recordInForce begun l = s.surf.get (s.feet.get l).cls := by rw [recordInForce, foot]; rfl
  let loaded : Foot := { s.feet.get l with measurement := .measuring none, stale := some 3, lastLoad := load }
  let judged := sampledFoot (s.surf.get (s.feet.get l).cls) load loaded
  have same : judged.contact = c := sampledFoot_contact_congr (f := s.feet.get l) (g := loaded) rfl rfl ..
  have told : takeValid l load begun = contactReport l c (begun.setFeet (begun.feet.set l judged)) := by
    rw [takeValid_eq, record, foot]
    dsimp only
    rw [← same]
    exact if_neg fun h => changed (same.symm.trans h)
  obtain ⟨balances, -⟩ := balances_balanceReport l c (begun.setFeet (begun.feet.set l judged))
  have sampled : Sampled l c s (balanceReport l c (begun.setFeet (begun.feet.set l judged))) :=
    balances.sampled (by rw [State.setFeet_feet, Quad.get_set_self]; exact same) rfl
  refine ⟨_, sampled, congrArg Host.Outcome.next ((loadSample_valid measuring valid).trans (told.trans ?_))⟩
  unfold contactReport
  generalize balanceReport l c _ = u at sampled
  refine riseTest_of_mode ?_
  rw [(steady_issue _).sup]
  rcases (tests_seqContact l c u).goes.mode with ⟨mode, -⟩ | settled
  · rw [mode, sampled.mode, standing]
    exact Mode.noConfusion
  · rw [settled.mode]
    exact Mode.noConfusion


/-! ## The legs follow -/

theorem Sampled.bodyPos (h : Sampled l c s u) : bodyPos u l = Machine.bodyPos s l := by
  simp only [Machine.bodyPos, heldPos, h.geo, h.bus]

theorem ServesAlone.sampled (h : Sampled l c s u) (serves : ServesAlone l w s) : ServesAlone l w u := by
  obtain ⟨alone, list, room, record, granted, kind⟩ := serves
  exact ⟨by rw [h.plan]; exact alone, by rw [h.plan]; exact list, by rw [h.plan]; exact room, by rw [h.legs]; exact record, granted, kind⟩

/-- A landing that a report brings, in STANDING with no settle pending (R103, R107 to R109). -/
structure LandsBySample (l : Leg) (s t : State) : Prop where
  lands : Lands l t
  reported : (s.legs.get l).motion = some .step → LandingReported s t l false
  stopped : (s.legs.get l).motion ≠ some .held → s.plan.list = [] → Untouched l s →
    (t.legs.get l).step = none ∧ (t.legs.get l).commanded = hipTarget s.geo l (bodyPos s l)

theorem landsBySample (h : Sampled l c s u) (no : s.sup.pendingSettle = false) (motion : (s.legs.get l).motion = some a) :
    LandsBySample l s (issue (land l u)) := by
  have no' : u.sup.pendingSettle = false := h.pendingSettle.trans no
  have motion' : (u.legs.get l).motion = some a := by rw [h.legs]; exact motion
  obtain ⟨lands, sup, -⟩ := lands_land (by rw [motion']; exact Option.some_ne_none a) no'
  obtain ⟨-, coreSup⟩ := lands_landCore (by rw [motion']; exact Option.some_ne_none a) no'
  refine ⟨lands.planned (planned_issue _), fun step => ?_, fun unheld list free => ?_⟩
  · have step' : (u.legs.get l).motion = some .step := by rw [h.legs]; exact step
    have calm := ((calm_landCore l u).trans (calm_phaseChanged _)).trans (calm_issue _)
    refine landingReported_of_told ((bodyPos_congr calm.quiet l).trans h.bodyPos) fun w serves => ?_
    have told := outcomeTold_landCore step' (serves.sampled h)
    have report : landingReport l u = landingReport l s := by rw [landingReport, landingReport, h.legs, h.bodyPos]
    rw [land_of_serving step' no' (serves.sampled h), (told.barren (by rw [h.plan]; exact serves.list)).issue]
    rw [report] at told
    exact told.congr h.plan h.ev
  · obtain ⟨barren, step, commanded⟩ := stopped_landCore motion' (fun held => unheld (by rw [motion, held])) no'
      (.inl (by rw [h.plan]; exact list)) fun p running => free p (h.preshift ▸ running)
    rw [land, phaseChanged_of_unsettled (.inl (coreSup ▸ no')), barren.issue, barren.issue]
    rw [h.geo, h.bodyPos] at commanded
    exact ⟨step, commanded⟩

/-- Settles O49: a reply by the phase it finds its leg in, a report by what it may end. -/
theorem legsFollowReports : Obligations.LegsFollowReports := by
  unfold Obligations.LegsFollowReports
  intro s l d standing no still step q loaded toSwing other
  constructor
  · intro x n pos st flags line named fx fy fz fine pass hot ends
    subst named
    obtain ⟨r, replied, shown⟩ := exec_goodReply (flags := flags) line fx fy fz fine
    have iff : passesReached (s.legs.get x.leg) s.gait.tolerance pos st (flags.getLsbD 0) = true ↔ pass := passesReached_iff ..
    generalize passesReached (s.legs.get x.leg) s.gait.tolerance pos st (flags.getLsbD 0) = p at replied shown iff
    have leg := replied.answered
    have rStanding : r.sup.mode = .standing := by rw [replied.sup]; exact standing
    have rNo : r.sup.pendingSettle = false := by rw [replied.sup]; exact no
    obtain ⟨-, rests⟩ := completed_of_standing rStanding rNo
    have follows : pass → Follows x.leg d hot pos s (completed (replyActs x.leg p r)) := fun yes => by
      have yes' := iff.mpr yes
      subst yes'
      exact follows_replyActs replied standing no step
    refine ⟨_, shown, fun lift motion => ?_, fun swing motion yes => (follows yes).swing swing motion,
      fun swing motion yes => (follows yes).retreat swing motion, fun reach moving yes loaded => (follows yes).lands reach moving loaded,
      fun reach motion yes unloaded => (follows yes).misses reach motion unloaded, fun reach motion yes unloaded => ?_, fun fails off => ?_⟩
    · have acts := replyActs_of_lift (pass := p) (leg.phase.trans lift) (by rw [rStanding]; exact Mode.noConfusion)
      have ended : ((r.legs.get x.leg).motion = some .step ∧ (r.legs.get x.leg).reached = true ∧ (r.feet.get x.leg).contact = .air) ↔ ends := by
        rw [leg.motion, leg.reached, replied.feet, Bool.or_eq_true, iff]
        exact ⟨fun ⟨_, reached, air⟩ => ⟨air, reached⟩, fun ⟨air, reached⟩ => ⟨motion, reached, air⟩⟩
      rw [acts]
      refine ⟨fun yes => ?_, fun no => ?_⟩
      · rw [if_pos (ended.mpr yes)]
        have way := moves_liftEnd (leg.step.trans step) (leg.motion.trans motion) (by rw [rStanding]; exact Mode.noConfusion)
        rw [leg.derating, replied.geo, replied.gait] at way
        exact way.completed
      · rw [if_neg (mt ended.mp no), rests.phase, leg.phase]
        exact lift
    · refine (follows yes).fails reach ?_ unloaded
      rcases motion with motion | motion | motion
      · exact ⟨_, motion, .inl rfl⟩
      · exact ⟨_, motion, .inr (.inl rfl)⟩
      · exact ⟨_, motion, .inr (.inr rfl)⟩
    · have failed : p = false := Bool.eq_false_iff.mpr (mt iff.mp fails)
      subst failed
      rw [replyActs_of_fails (by rw [leg.phase]; exact off), rests.phase, rests.motion]
      exact ⟨leg.phase, leg.motion⟩
  · intro high period load measuring valid now changed ends lands
    obtain ⟨u, sampled, shown⟩ := exec_loadSample_changed measuring valid standing changed
    have running : u.sup.mode = .standing := sampled.mode.trans standing
    have acts : seqContact l now u =
        match (s.legs.get l).phase with
        | .lift => if (s.legs.get l).motion = some .step ∧ (s.legs.get l).reached ∧ now = .air then liftEnd l u else u
        | .reach => if now = .loaded then land l u else u
        | _ => u := by
      unfold seqContact
      dsimp only
      rw [if_neg (by rw [running]; exact Mode.noConfusion), sampled.legs]
      cases (s.legs.get l).phase <;> rfl
    have landed : lands → LandsBySample l s (issue (seqContact l now u)) := fun ⟨reach, moving, loaded⟩ => by
      obtain ⟨a, motion⟩ := Option.ne_none_iff_exists'.mp moving
      have acts' : seqContact l now u = land l u := by
        rw [acts, reach]
        exact if_pos loaded
      rw [acts']
      exact landsBySample sampled no motion
    refine ⟨_, shown, fun ⟨lift, motion, reached, air⟩ => ?_, fun yes => (landed yes).lands, fun yes => (landed yes).reported,
      fun yes => (landed yes).stopped, fun unended unlanded => ?_⟩
    · have acts' : seqContact l now u = liftEnd l u := by
        rw [acts, lift]
        exact if_pos ⟨motion, reached, air⟩
      have way := moves_liftEnd (s := u) (l := l) (by rw [sampled.legs]; exact step) (by rw [sampled.legs]; exact motion)
        (by rw [running]; exact Mode.noConfusion)
      rw [sampled.legs, sampled.geo, sampled.gait] at way
      rw [acts']
      exact way.spared (spares_issue (m := l) (by rw [way.1]; exact Phase.noConfusion) l)
    · have planned : Planned u (seqContact l now u) := by
        rw [acts]
        split
        case h_1 lift =>
          rw [if_neg fun h => unended ⟨lift, h⟩]
          exact .refl u
        case h_2 reach =>
          split
          case isTrue loaded =>
            have motion : (u.legs.get l).motion = none := by
              rw [sampled.legs]
              exact not_not.mp fun moving => unlanded ⟨reach, moving, loaded⟩
            have core : landCore l u = u := by
              unfold landCore
              dsimp only
              rw [motion]
            rw [land, core]
            exact planned_phaseChanged (.inl (sampled.pendingSettle.trans no))
          case isFalse => exact .refl u
        · exact .refl u
      have planned' := planned.trans (planned_issue _)
      rw [planned'.phase, planned'.motion, sampled.legs]
      exact ⟨rfl, rfl⟩

end
end Sys2Proof.Machine
end

section
/-! REPLIES COMPLETE. What a good reply completes: the landing of a step, a pre-shift, a SHIFT, a rise, a settle (R78, R117, R120, R144,
R146). -/

namespace Sys2Proof.Machine

section
variable {s t u : State} {l : Leg} {pos : Vec3} {st : DriveState} {flag pass limit : Bool} {w : WindowRecord}

/-! ## The landing of a step -/

theorem markedIf_self (mark : Bool) (w : WindowRecord) : markedIf w.body.id mark w = w.markedBy mark := by
  cases mark with
  | true => exact (if_pos ⟨rfl, rfl⟩).trans (by rw [WindowRecord.markedBy, Bool.or_true])
  | false => rw [markedIf_false, WindowRecord.markedBy, Bool.or_false]

/-- A record alone in the plan, marked by the AT_LIMIT arrival of a leg that serves it (R122). -/
theorem ServesAlone.marked (serves : ServesAlone l w s) :
    (markIfLimit l s).plan = { s.plan with window := [w.markedBy (s.legs.get l).limitReached] } ∧
      ServesAlone l (w.markedBy (s.legs.get l).limitReached) (markIfLimit l s) := by
  have plan : (markIfLimit l s).plan = { s.plan with window := [w.markedBy (s.legs.get l).limitReached] } := by
    rw [markIfLimit_eq]
    show markedFor (s.legs.get l) s.plan = _
    rw [markedFor, serves.record]
    show markedPlan w.body.id _ s.plan = _
    rw [markedPlan, serves.alone, List.map_singleton, markedIf_self]
  have record : ((markIfLimit l s).legs.get l).record = some w.body.id := by
    rw [markIfLimit_leg, markedAtLimit_fields]
    exact serves.record
  refine ⟨plan, ?_, ?_, ?_, record, serves.granted, serves.kind⟩ <;> rw [plan]
  · exact serves.list
  · exact serves.room

/-- With no SHIFT running, what is tested after a reply in STANDING is a pre-shift alone. -/
theorem completed_of_still (standing : s.sup.mode = .standing) (no : s.sup.pendingSettle = false)
    (still : ∀ v ∈ s.plan.window, v.cond ≠ .running) : completed s = preshiftTest s := by
  rw [(completed_of_standing standing no).1]
  refine shiftTest_of_not_running ?_
  rw [preshiftTest_eq]
  exact still

/-- The landing that a reply brings is told, with the mark of an AT_LIMIT arrival (R78, R103, R122). -/
theorem landingReported_by_reply (h : Replied l pos st flag true s t) (standing : s.sup.mode = .standing)
    (no : s.sup.pendingSettle = false) (reach : (s.legs.get l).phase = .reach) (motion : (s.legs.get l).motion = some .step)
    (loaded : (s.feet.get l).contact = .loaded) :
    LandingReported s (completed (replyActs l true t)) l (t.legs.get l).limitReached := by
  have leg := h.answered
  have standing' : t.sup.mode = .standing := by rw [h.sup]; exact standing
  have no' : t.sup.pendingSettle = false := by rw [h.sup]; exact no
  rw [replyActs_of_reach (leg.phase.trans reach) (by rw [standing']; exact Mode.noConfusion),
    (reachedInReach_of_step (leg.motion.trans motion)).1 (by rw [h.feet]; exact loaded)]
  refine landingReported_of_marked fun w serves => ?_
  have servesNow : ServesAlone l w t := by
    obtain ⟨alone, list, room, record, granted, kind⟩ := serves
    exact ⟨by rw [h.plan]; exact alone, by rw [h.plan]; exact list, by rw [h.plan]; exact room, leg.record.trans record, granted, kind⟩
  obtain ⟨plan, servesMarked⟩ := servesNow.marked
  have rests := rests_markIfLimit l t
  have markedLeg := markIfLimit_leg l t
  rw [markedAtLimit_fields] at markedLeg
  have ev : (markIfLimit l t).ev = t.ev := by rw [markIfLimit_eq]; rfl
  generalize markIfLimit l t = m at plan servesMarked rests markedLeg ev ⊢
  have motion' : (m.legs.get l).motion = some .step := (rests.motion l).trans (leg.motion.trans motion)
  have mNo : m.sup.pendingSettle = false := by rw [rests.sup]; exact no'
  rw [land_of_serving motion' mNo servesMarked]
  have told := outcomeTold_landCore motion' servesMarked
  have lands := stepLands_landCore motion' mNo
  have still : ∀ v ∈ (landCore l m).plan.window, v.cond ≠ .running := fun v mem running => by
    by_cases all : ((w.markedBy (t.legs.get l).limitReached).reporting (landingReport l m)).complete
    · rw [(told.ends all).1] at mem
      exact absurd mem List.not_mem_nil
    · rw [told.stays all] at mem
      rw [List.mem_singleton.mp mem] at running
      exact absurd (serves.granted.symm.trans running) (by decide)
  have same := completed_of_still (by rw [lands.unsettled, rests.sup]; exact standing') (by rw [lands.unsettled]; exact mNo) still
  have report : landingReport l m = limitedReport l (t.legs.get l).limitReached s (completed (landCore l m)) := by
    have quiet : Quiet m (completed (landCore l m)) := by
      rw [same]
      exact (lands.calm.trans (planned_preshiftTest _).calm).quiet
    rw [landingReport, limitedReport, bodyPos_congr quiet, markedLeg, ← leg.clamped]
    simp only [Bool.or_eq_true]
  rw [report] at told
  have planS : m.plan = { s.plan with window := [w.markedBy (t.legs.get l).limitReached] } := by rw [plan, h.plan]
  refine (told.congr (s := s.setPlan { s.plan with window := [w.markedBy (t.legs.get l).limitReached] }) planS (ev.trans h.ev)).kept ?_ ?_
    fun e => ?_ <;> rw [same, preshiftTest_eq]
  · rfl
  · rfl
  · exact id

/-! ## A SHIFT -/

/-- From `s` the only record, a RUNNING SHIFT, has completed (R79, R120, R122). -/
structure ShiftEnds (w : WindowRecord) (s t : State) : Prop where
  window : t.plan.window = []
  timer : t.plan.shiftTimer = none
  logged : Logged s t [entryOf s w (if (w.body.clamped || s.legs.any LegSeq.limitReached) = true then .clamped else .ok) []]
  counted : t.ev.counters.shiftsDone = s.ev.counters.shiftsDone + 1
  marked : ∀ m, (s.legs.get m).limitReached = true → (t.legs.get m).clamped = true

theorem shiftsDone_countDone {st : Status} (ended : st = .ok ∨ st = .clamped) (n : Nat) (c : Counters) :
    (countDone (completionCounter .shift st) (pushCount n c)).shiftsDone = c.shiftsDone + 1 := by
  have kept : (pushCount n c).shiftsDone = c.shiftsDone := by
    unfold pushCount
    split <;> rfl
  rcases ended with rfl | rfl <;> exact congrArg (· + 1) kept

theorem shiftEnds_shiftTest (no : s.sup.pendingSettle = false) (alone : s.plan.window = [w]) (running : w.cond = .running)
    (kind : w.body.kind = .shift) (list : s.plan.list = []) (room : s.plan.log.length ≤ 16) (all : s.legs.all LegSeq.reached = true) :
    ShiftEnds w s (shiftTest s) := by
  have found : s.plan.window.find? (fun v => decide (v.cond = .running)) = some w := by rw [alone]; simp [running]
  rw [shiftTest_of_running found, if_pos all]
  let limited := s.legs.any LegSeq.limitReached
  have window : (shiftLimited w s).plan.window = [w.markedBy limited] := by
    show s.plan.window.map (markedIf w.body.id limited) = _
    rw [alone, List.map_singleton, markedIf_self]
  have legs : ∀ m, (shiftLimited w s).legs.get m = (s.legs.get m).markedAtLimit := fun m => Quad.get_map ..
  have kept : (shiftLimited w s).ev = s.ev ∧ (shiftLimited w s).plan.log = s.plan.log ∧ (shiftLimited w s).plan.list = [] ∧
      (shiftLimited w s).sup = s.sup := ⟨rfl, rfl, list, rfl⟩
  generalize shiftLimited w s = v at window legs kept ⊢
  obtain ⟨ev, log, empty, sup⟩ := kept
  have done := completes_completeRecord (w := w.markedBy limited) (st := .ok) (findWindow_of_alone window) fun _ => .inr empty
  show ShiftEnds w s (completeRecord (w.markedBy limited).body.id .ok v)
  generalize completeRecord (w.markedBy limited).body.id .ok v = t at done
  have others : othersOf (w.markedBy limited) v.plan.window = [] := by rw [window, othersOf_alone]
  obtain ⟨-, timer, left⟩ := done.plan
  have status : finalStatus (w.markedBy limited) .ok = if (w.body.clamped || limited) = true then .clamped else .ok :=
    if_congr (and_iff_right rfl) rfl rfl
  have logged := done.logged (by rw [log]; exact room)
  have counted := done.counters
  have entry : ∀ st, logEntryOf (w.markedBy limited) st s.ev.time = entryOf s w st [] := fun st => by
    have feet : finalFootholds (w.markedBy limited) st = [] := if_neg fun h => h.1 kind
    rw [logEntryOf, feet]
    rfl
  rw [ev, status, entry] at logged
  rw [status, ev] at counted
  unfold Logged at logged
  rw [log, ev] at logged
  obtain ⟨sameLegs, -⟩ := done.legs (by rw [sup]; exact no) fun p _ ⟨x, mem, _⟩ => by
    rw [others] at mem
    exact absurd mem List.not_mem_nil
  refine ⟨(left others).1, timer.trans (if_pos kind), logged, ?_, fun m limit => ?_⟩
  · rw [counted]
    have shift : (w.markedBy limited).body.kind = .shift := kind
    rw [shift]
    refine shiftsDone_countDone ?_ ..
    split
    · exact .inr rfl
    · exact .inl rfl
  · rw [sameLegs, legs, markedAtLimit_fields, limit]
    exact Bool.or_true _

/-! ## A rise and a settle -/

/-- From `s` a rise without silence is complete (R98, R144, R150). -/
structure RiseEnds (s t : State) : Prop where
  mode : t.sup.mode = .standing
  raised : hasEvent t.ev.pending .modeChange = true
  timer : t.sup.riseSettle = none
  legs : t.legs = s.legs.map (LegSeq.settled .stance)
  lost : t.sup.supportLost = if s.sup.supportLow then some s.balCfg.supportLost else s.sup.supportLost
  plan : t.plan = s.plan
  bal : t.bal = s.bal

theorem riseEnds_riseTest (done : riseDone s = true) (no : s.sup.pendingSettle = false) (silent : s.sup.silenceInRise = false)
    (stopped : planRuns s = false) : RiseEnds s (riseTest s) := by
  obtain ⟨es, tx, raised, moded⟩ := changeMode_eq .standing (s.setSup { s.sup with riseSettle := none })
  have shown : riseTest s = applySilenceInRise (startSupportLost (phaseChanged
      (setAllPhases .stance (changeMode .standing (s.setSup { s.sup with riseSettle := none }))))) := if_pos done
  rw [shown]
  generalize changeMode .standing _ = x at moded ⊢
  have kept : x.sup = { s.sup with mode := .standing, pendingSettle := s.sup.pendingSettle && true, riseSettle := none } ∧
      hasEvent x.ev.pending .modeChange = true ∧ x.legs = s.legs ∧ x.plan = s.plan ∧ x.bal = s.bal ∧ x.balCfg = s.balCfg := by
    rw [moded]
    exact ⟨rfl, raised, rfl, rfl, rfl, rfl⟩
  have stands : (setAllPhases .stance x).legs = x.legs.map (LegSeq.settled .stance) ∧ (setAllPhases .stance x).sup = x.sup ∧
      (setAllPhases .stance x).ev = x.ev ∧ (setAllPhases .stance x).plan = x.plan ∧ (setAllPhases .stance x).bal = x.bal ∧
      (setAllPhases .stance x).balCfg = x.balCfg := ⟨rfl, rfl, rfl, rfl, rfl, rfl⟩
  generalize setAllPhases .stance x = v at stands ⊢
  obtain ⟨vLegs, vSup, vEv, vPlan, vBal, vCfg⟩ := stands
  rw [← vSup, ← vEv, ← vPlan, ← vBal, ← vCfg] at kept
  obtain ⟨sup, told, sameLegs, plan, bal, cfg⟩ := kept
  have legs : v.legs = s.legs.map (LegSeq.settled .stance) := by rw [vLegs, sameLegs]
  have vNo : v.sup.pendingSettle = false := by
    rw [sup, no]
    rfl
  have same : phaseChanged v = v := by
    rw [phaseChanged, issue_of_not_planRuns (by rw [planRuns, plan]; exact stopped), settleTest_of_not_pending vNo]
  have calm : applySilenceInRise (startSupportLost v) = startSupportLost v := by
    refine if_neg ?_
    unfold startSupportLost
    split <;> simp [sup, silent]
  rw [same, calm]
  have low : v.sup.supportLow = s.sup.supportLow := by rw [sup]
  cases fallen : s.sup.supportLow with
  | true =>
    have started : startSupportLost v = v.setSup { v.sup with supportLost := some v.balCfg.supportLost } := if_pos (low.trans fallen)
    rw [started, sup, cfg]
    exact ⟨rfl, told, rfl, legs, (if_pos fallen).symm, plan, bal⟩
  | false =>
    have same : startSupportLost v = v := if_neg (by rw [low, fallen]; exact Bool.false_ne_true)
    rw [same]
    refine ⟨by rw [sup], told, by rw [sup], legs, ?_, plan, bal⟩
    rw [sup, fallen]
    rfl

/-- From `s` a settle is complete (R98, R129, R146). -/
structure SettleEnds (s t : State) : Prop where
  mode : t.sup.mode = .parked
  raised : hasEvent t.ev.pending .modeChange = true
  timer : t.sup.riseSettle = none
  folded : ∀ m, (t.legs.get m).phase = .folded
  plan : t.plan = { s.plan with state := .idle }
  polls : ∀ y ∈ t.bus.queue, y.op = .poll
  bal : t.bal = s.bal

theorem settleEnds_settleCompleteTest (settling : s.sup.mode = .settling) (all : s.legs.all LegSeq.reached = true) :
    SettleEnds s (settleCompleteTest s) := by
  obtain ⟨es, tx, raised, moded⟩ := changeMode_eq .parked (s.setSup { s.sup with riseSettle := none })
  unfold settleCompleteTest
  rw [if_pos ⟨settling, all⟩]
  generalize changeMode .parked _ = v at moded ⊢
  have kept : v.sup.mode = .parked ∧ hasEvent v.ev.pending .modeChange = true ∧ v.sup.riseSettle = none ∧ v.plan = s.plan ∧ v.bal = s.bal := by
    rw [moded]
    exact ⟨rfl, raised, rfl, rfl, rfl⟩
  obtain ⟨mode, told, timer, plan, bal⟩ := kept
  refine ⟨mode, told, timer, fun m => ?_, congrArg (fun p : Planner => { p with state := .idle }) plan, fun y mem => ?_, bal⟩
  · show LegSeq.phase ((v.legs.map _).get m) = _
    rw [Quad.get_map]
  · obtain ⟨-, poll⟩ := List.mem_filter.mp mem
    cases op : y.op with
    | poll => rfl
    | setpoint v speed hold =>
      rw [Txn.isSetpoint, op] at poll
      exact absurd poll Bool.false_ne_true

/-! ## What is tested after a reply -/

theorem preshiftTest_kept (s : State) : (preshiftTest s).legs = s.legs ∧ (preshiftTest s).plan = s.plan ∧ (preshiftTest s).sup = s.sup ∧
    (preshiftTest s).ev = s.ev ∧ (preshiftTest s).feet = s.feet ∧ (preshiftTest s).balCfg = s.balCfg := by
  rw [preshiftTest_eq]
  exact ⟨rfl, rfl, rfl, rfl, rfl, rfl⟩

theorem completed_eq_of_still (still : ∀ v ∈ s.plan.window, v.cond ≠ .running) :
    completed s = settleCompleteTest (riseTest (preshiftTest s)) := by
  obtain ⟨-, plan, -⟩ := preshiftTest_kept s
  rw [completed, shiftTest_of_not_running (s := preshiftTest s) (by rw [plan]; exact still)]

/-- A running pre-shift completes exactly when every leg it commands has reached (R117). -/
theorem preshift_completed {p : Preshift} (running : s.bal.preshift = some p) (still : ∀ v ∈ s.plan.window, v.cond ≠ .running)
    (no : s.sup.pendingSettle = false) (silent : s.sup.silenceInRise = false) (stopped : s.sup.mode = .rising → planRuns s = false) :
    ((∀ m ∈ p.legs, (s.legs.get m).reached = true) → (completed s).bal.preshift = none) ∧
    ((∃ m ∈ p.legs, (s.legs.get m).reached = false) → (completed s).bal.preshift = some p) := by
  have same : (completed s).bal = (preshiftTest s).bal := by
    obtain ⟨-, plan, sup, -⟩ := preshiftTest_kept s
    have rise : (riseTest (preshiftTest s)).bal = (preshiftTest s).bal := by
      cases done : riseDone (preshiftTest s) with
      | true =>
        have rising : (preshiftTest s).sup.mode = .rising := by
          simp only [riseDone, Bool.and_eq_true, decide_eq_true_iff] at done
          exact done.1.1
        rw [sup] at rising
        exact (riseEnds_riseTest done (by rw [sup]; exact no) (by rw [sup]; exact silent) (by rw [planRuns, plan]; exact stopped rising)).bal
      | false => rw [riseTest, if_neg (by rw [done]; exact Bool.false_ne_true)]
    rw [completed_eq_of_still still]
    refine Eq.trans ?_ rise
    by_cases settled : (riseTest (preshiftTest s)).sup.mode = .settling ∧ (riseTest (preshiftTest s)).legs.all LegSeq.reached = true
    · exact (settleEnds_settleCompleteTest settled.1 settled.2).bal
    · rw [settleCompleteTest, if_neg settled]
  rw [same, preshiftTest, running]
  dsimp only
  refine ⟨fun all => ?_, fun ⟨m, named, unreached⟩ => ?_⟩
  · rw [if_pos (List.all_eq_true.mpr all)]
    rfl
  · rw [if_neg fun all => Bool.false_ne_true (unreached.symm.trans (List.all_eq_true.mp all m named))]
    exact running

/-- A RUNNING SHIFT completes exactly when every leg has reached (R120). -/
theorem shift_completed (standing : s.sup.mode = .standing) (no : s.sup.pendingSettle = false) (alone : s.plan.window = [w])
    (running : w.cond = .running) (kind : w.body.kind = .shift) (list : s.plan.list = []) (room : s.plan.log.length ≤ 16) :
    ((∀ m, (s.legs.get m).reached = true) → ShiftEnds w s (completed s)) ∧
    ((∃ m, (s.legs.get m).reached = false) → (completed s).plan = s.plan) := by
  obtain ⟨legs, plan, sup, ev, -⟩ := preshiftTest_kept s
  refine ⟨fun all => ?_, fun ⟨m, unreached⟩ => by rw [completed_of_unreached unreached, plan]⟩
  rw [(completed_of_standing standing no).1]
  generalize preshiftTest s = z at legs plan sup ev ⊢
  obtain ⟨window, timer, logged, counted, marked⟩ := shiftEnds_shiftTest (s := z) (by rw [sup]; exact no) (by rw [plan]; exact alone) running
    kind (by rw [plan]; exact list) (by rw [plan]; exact room) (by rw [Quad.all_iff, legs]; exact all)
  unfold Logged entryOf at logged
  rw [plan, ev, legs] at logged
  rw [ev] at counted
  rw [legs] at marked
  exact ⟨window, timer, logged, counted, marked⟩

theorem riseDone_iff (s : State) : riseDone s = true ↔
    s.sup.mode = .rising ∧ (∀ m, (s.legs.get m).reached = true) ∧ ∀ m, (s.feet.get m).contact = .loaded := by
  simp only [riseDone, Bool.and_eq_true, Quad.all_iff, decide_eq_true_iff, and_assoc]

end
end Sys2Proof.Machine
end

section
/-! A PENDING SETTLE. What the landing of a leg leaves of a settle that pends, and beside it what a good reply completes (R144, R146,
R153). -/

namespace Sys2Proof.Machine

section
variable {s t u v : State} {l : Leg} {c : Contact} {a : Motion}

/-! ## The Step Planner's work, and a settle at its end -/

/-- From `s` to `t` the Step Planner has done its work, and a pending settle may have been tested at its end (R153). -/
def PlannedTo (s t : State) : Prop := ∃ u, Planned s u ∧ (t = u ∨ t = settleTest u)

theorem Planned.to (h : Planned s t) : PlannedTo s t := ⟨t, h, .inl rfl⟩

theorem Planned.trans_to (h : Planned s t) (k : PlannedTo t u) : PlannedTo s u := by
  obtain ⟨v, planned, tested⟩ := k
  exact ⟨v, h.trans planned, tested⟩

theorem plannedTo_planEnds (p : PlanState) (e : Event) (s : State) : PlannedTo s (planEnds p e s) :=
  ⟨raise e (setPlanState p s), (planned_setPlan s { s.plan with state := p }).trans (planned_raise e _), .inr rfl⟩

theorem plannedTo_idleIfEmpty (s : State) : PlannedTo s (idleIfEmpty s) := by
  rw [idleIfEmpty_eq]
  split
  · exact plannedTo_planEnds ..
  · exact (Planned.refl s).to

theorem plannedTo_suspendIfEmpty (s : State) : PlannedTo s (suspendIfEmpty s) := by
  rw [suspendIfEmpty_eq]
  split
  · exact plannedTo_planEnds ..
  · exact (Planned.refl s).to

theorem plannedTo_completionActs (st : Status) (hold : Bool) (s : State) : PlannedTo s (completionActs st hold s) := by
  unfold completionActs
  split
  case isTrue active =>
    split
    · have shown : drain s = suspendIfEmpty (withdrawWaiting (setPlanState .draining s)) := if_pos active
      rw [shown]
      exact (planned_draining s).trans_to (plannedTo_suspendIfEmpty _)
    · exact (planned_issue s).trans_to (plannedTo_idleIfEmpty _)
  case isFalse =>
    split
    · exact plannedTo_suspendIfEmpty s
    · exact (Planned.refl s).to

theorem plannedTo_completeRecord (id : Nat) (st : Status) (s : State) : PlannedTo s (completeRecord id st s) := by
  unfold completeRecord
  split
  · exact (Planned.refl s).to
  case h_2 w _ => exact (planned_finishRecord w st s).trans_to (plannedTo_completionActs ..)

theorem plannedTo_reportOutcome (l : Leg) (o : Outcome) (v : Option Vec3) (s : State) : PlannedTo s (reportOutcome l o v s) := by
  unfold reportOutcome
  split
  · exact (Planned.refl s).to
  · split
    · exact (Planned.refl s).to
    · dsimp only
      split
      · have joined := fun w => planned_setPlan s { s.plan with window := w }
        split
        · exact (joined _).trans_to (plannedTo_completeRecord ..)
        · exact (joined _).to
      · exact (Planned.refl s).to

/-! ## A settle that pends -/

/-- The plan states in which a pending settle may act (R153). -/
def Stopped (s : State) : Prop := s.plan.state = .idle ∨ s.plan.state = .suspended ∨ s.plan.state = .braced

/-- SETTLING has been entered by a settle that pended (R98, R153). -/
structure HasSettled (t : State) : Prop where
  mode : t.sup.mode = .settling
  cleared : t.sup.pendingSettle = false
  raised : hasEvent t.ev.pending .modeChange = true
  posture : ∀ m, (t.legs.get m).phase = .posture
  stopped : Stopped t

theorem hasSettled_settleTest (pends : s.sup.pendingSettle = true) (standing : s.sup.mode = .standing) (ready : settleCondition s = true) :
    HasSettled (settleTest s) := by
  have shown : settleTest s = enterSettling (s.setSup { s.sup with pendingSettle := false }) := if_pos ⟨pends, standing, ready⟩
  obtain ⟨stopped, -⟩ := (settleCondition_iff s).mp ready
  have before : (s.setSup { s.sup with pendingSettle := false }).plan = s.plan := rfl
  rw [shown]
  generalize s.setSup { s.sup with pendingSettle := false } = y at before ⊢
  obtain ⟨posed, raised, frame⟩ := entersSettling y
  generalize enterSettling y = t at posed raised frame
  have plan : t.plan = s.plan := by
    rw [frame]
    exact before
  refine ⟨by rw [frame]; rfl, by rw [frame]; rfl, raised, fun m => ?_, by rw [Stopped, plan]; exact stopped⟩
  rw [posed.legs m]
  rfl

theorem HasSettled.rests (h : HasSettled s) : issue (phaseChanged s) = s := by
  have other : s.sup.mode ≠ .standing := by rw [h.mode]; exact Mode.noConfusion
  rw [phaseChanged, issue_of_mode other, settleTest_of_not_pending h.cleared, issue_of_mode other]

/-- From `s` a leg has landed, and a settle goes on pending (R153). -/
structure LandsPending (l : Leg) (s t : State) : Prop where
  lands : Lands l t
  others : ∀ m, m ≠ l → (t.legs.get m).phase = (s.legs.get m).phase
  standing : t.sup.mode = .standing
  pends : t.sup.pendingSettle = true

theorem LandsPending.planned (h : LandsPending l s t) (planned : Planned t u) : LandsPending l s u :=
  ⟨h.lands.planned planned, fun m other => (planned.phase m).trans (h.others m other), by rw [planned.sup]; exact h.standing,
    by rw [planned.sup]; exact h.pends⟩

/-- After a landing a pending settle acts exactly where its condition holds (R153). -/
theorem LandsPending.settles (h : LandsPending l s v) :
    let t := issue (phaseChanged v)
    let settles : Prop := Stopped t ∧ ∀ m, m ≠ l → (s.legs.get m).phase = .stance
    (settles → HasSettled t) ∧ (¬ settles → LandsPending l s t) := by
  intro t settles
  have issued := h.planned (planned_issue v)
  have shown : t = issue (settleTest (issue v)) := rfl
  rw [shown]
  generalize issue v = x at shown issued ⊢
  by_cases ready : settleCondition x = true
  · have settled := hasSettled_settleTest issued.pends issued.standing ready
    have left : settleTest x = issue (settleTest x) := (issue_of_mode (by rw [settled.mode]; exact Mode.noConfusion)).symm
    obtain ⟨-, stance⟩ := (settleCondition_iff x).mp ready
    rw [← left] at shown ⊢
    exact ⟨fun _ => settled, fun no => absurd ⟨by rw [shown]; exact settled.stopped, fun m other =>
      (issued.others m other).symm.trans (stance m)⟩ no⟩
  · have same : settleTest x = x := if_neg fun h => ready h.2.2
    rw [same] at shown ⊢
    refine ⟨fun ⟨stopped, stance⟩ => absurd ?_ ready, fun _ => issued.planned (planned_issue x)⟩
    have state : (issue x).plan.state = x.plan.state := (issues_issue x).state
    rw [Stopped, shown, state] at stopped
    refine (settleCondition_iff x).mpr ⟨stopped, fun m => ?_⟩
    by_cases here : m = l
    · subst here
      exact issued.lands.1
    · exact (issued.others m here).trans (stance m here)

/-! ## A landing under a pending settle -/

theorem stopDescent_others {m : Leg} (other : m ≠ l) (s : State) :
    (stopDescent l (alighted l s)).legs.get m = s.legs.get m :=
  ((commands_sendSetpoint l _ _ (alighted l s)).others m fun mem => other (List.mem_singleton.mp mem)).trans
    (Quad.get_set_of_ne _ other _)

theorem landsPending_modLeg {f : LegSeq → LegSeq} (phase : (f (s.legs.get l)).phase = .stance) (timer : (f (s.legs.get l)).timer = none)
    (motion : (f (s.legs.get l)).motion = none) (record : (f (s.legs.get l)).record = none) (standing : s.sup.mode = .standing)
    (pends : s.sup.pendingSettle = true) : LandsPending l s (modLeg l f s) := by
  have leg : (modLeg l f s).legs.get l = f (s.legs.get l) := Quad.get_set_self ..
  refine ⟨by rw [Lands, leg]; exact ⟨phase, timer, motion, record⟩, fun m other => ?_, standing, pends⟩
  exact congrArg LegSeq.phase (Quad.get_set_of_ne _ other _)

/-- A leg lands under a pending settle: its record may bring the settle on, or it goes on pending (R153). -/
theorem landCore_of_pending (moving : (s.legs.get l).motion ≠ none) (standing : s.sup.mode = .standing) (pends : s.sup.pendingSettle = true) :
    LandsPending l s (landCore l s) ∨ HasSettled (landCore l s) ∧ ∀ m, m ≠ l → (s.legs.get m).phase = .stance := by
  obtain ⟨a, motion⟩ := Option.ne_none_iff_exists'.mp moving
  obtain ⟨leg, work, -⟩ := stopDescent_spec l s
  have away : ∀ m, m ≠ l → _ := fun m other => stopDescent_others (s := s) (l := l) (m := m) other
  have here : ∀ {x : State} {f : LegSeq → LegSeq}, Planned (stopDescent l (alighted l s)) x →
      (∀ q : LegSeq, (f q).phase = q.phase ∧ (f q).timer = q.timer ∧ (f q).motion = none ∧ (f q).record = none) →
      LandsPending l s (modLeg l f x) := fun {x f} planned keeps => by
    obtain ⟨phase, timer, none, unserving⟩ := keeps (x.legs.get l)
    have h := landsPending_modLeg (s := x) (l := l) (f := f) (phase.trans ((planned.phase l).trans (by rw [leg]; rfl)))
      (timer.trans ((planned.timer l).trans (by rw [leg]; rfl))) none unserving (by rw [planned.sup, work.sup]; exact standing)
      (by rw [planned.sup, work.sup]; exact pends)
    exact ⟨h.lands, fun m other => (h.others m other).trans ((planned.phase m).trans (by rw [away m other])), h.standing, h.pends⟩
  have returning : a.returns → LandsPending l s (landCore l s) := fun returns => by
    rw [landCore_of_returns motion returns]
    exact here (.refl _) fun q => ⟨rfl, rfl, rfl, rfl⟩
  cases a
  case step =>
    obtain ⟨x, planned, tested⟩ := plannedTo_reportOutcome l (if (s.legs.get l).clamped then .clamped else .ok) (some (bodyPos s l))
      (stopDescent l (alighted l s))
    rw [landCore_of_step motion, landingTold]
    have waiting := here (f := fun p => { p with motion := none, record := none, step := none, clamped := false }) planned
      fun q => ⟨rfl, rfl, rfl, rfl⟩
    by_cases ready : settleCondition x = true
    · rcases tested with same | tested
      · rw [same]
        exact .inl waiting
      · rw [tested]
        have xSup : x.sup = s.sup := planned.sup.trans work.sup
        obtain ⟨mode, cleared, raised, posture, stopped⟩ :=
          hasSettled_settleTest (s := x) (by rw [xSup]; exact pends) (by rw [xSup]; exact standing) ready
        obtain ⟨-, stance⟩ := (settleCondition_iff x).mp ready
        refine .inr ⟨⟨mode, cleared, raised, fun m => ?_, stopped⟩, fun m other => ?_⟩
        · by_cases mine : m = l
          · subst mine
            exact (congrArg LegSeq.phase (Quad.get_set_self ..)).trans (posture m)
          · exact (congrArg LegSeq.phase (Quad.get_set_of_ne _ mine _)).trans (posture m)
        · rw [← away m other, ← planned.phase m]
          exact stance m
    · have same : settleTest x = x := if_neg fun h => ready h.2.2
      rw [same, or_self] at tested
      rw [tested]
      exact .inl waiting
  case held =>
    rw [landCore_of_held motion]
    exact .inl (landsPending_modLeg rfl rfl rfl rfl standing pends)
  case recovery => exact .inl (returning (.inr (.inl rfl)))
  case retreat => exact .inl (returning (.inl rfl))
  case descent => exact .inl (returning (.inr (.inr rfl)))

/-- A report of LOADED in REACH is a landing (R103, R107 to R109). -/
theorem seqContact_of_landing (free : s.sup.mode ≠ .safeHold) (reach : (s.legs.get l).phase = .reach) : seqContact l .loaded s = land l s := by
  unfold seqContact
  dsimp only
  rw [if_neg free, reach]
  rfl

/-! ## What a reply completes, in the words of the legs that have reached -/

section
variable {pos : Vec3} {st : DriveState} {flag pass : Bool} {w : WindowRecord} {reached : Leg → Prop} {atLimit : Leg → Bool}

theorem Replied.reached_iff (h : Replied l pos st flag pass s t) (m : Leg) :
    (t.legs.get m).reached = true ↔ (s.legs.get m).reached = true ∨ m = l ∧ pass = true := by
  have leg := h.answered
  by_cases here : m = l
  · subst here
    rw [leg.reached, Bool.or_eq_true]
    exact or_congr Iff.rfl ⟨fun yes => ⟨rfl, yes⟩, And.right⟩
  · rw [leg.others m here]
    exact ⟨.inl, fun h => h.resolve_right fun both => here both.1⟩

theorem Replied.limited (h : Replied l pos st flag pass s t) (m : Leg) (reached : (t.legs.get m).reached = true) :
    (t.legs.get m).limitReached =
      if m = l ∧ pass = true ∧ (s.legs.get l).reached = false then decide (st = .atLimit) else (s.legs.get m).limitReached := by
  have leg := h.answered
  by_cases here : m = l
  · subst here
    rw [leg.reached] at reached
    rw [leg.limited reached]
    exact if_congr ⟨fun h => ⟨rfl, h⟩, And.right⟩ rfl rfl
  · rw [leg.others m here]
    exact (if_neg fun h => here h.1).symm

/-- A RUNNING SHIFT by a reply (R120, R122). -/
theorem shift_by_reply (h : Replied l pos st flag pass s t) (reaches : ∀ m, (t.legs.get m).reached = true ↔ reached m)
    (limited : ∀ m, reached m → (t.legs.get m).limitReached = atLimit m) (standing : s.sup.mode = .standing)
    (no : s.sup.pendingSettle = false) (alone : s.plan.window = [w]) (running : w.cond = .running) (kind : w.body.kind = .shift)
    (list : s.plan.list = []) (room : s.plan.log.length ≤ 16) :
    let limits := ([.fl, .fr, .rl, .rr] : List Leg).any atLimit
    ((∀ m, reached m) → (completed t).plan.window = [] ∧ (completed t).plan.shiftTimer = none ∧
      Logged s (completed t) [entryOf s w (if w.body.clamped || limits then .clamped else .ok) []] ∧
      (completed t).ev.counters.shiftsDone = s.ev.counters.shiftsDone + 1 ∧
      ∀ m, atLimit m = true → ((completed t).legs.get m).clamped = true) ∧
    ((∃ m, ¬ reached m) → (completed t).plan = s.plan) := by
  intro limits
  obtain ⟨ends, same⟩ := shift_completed (s := t) (w := w) (by rw [h.sup]; exact standing) (by rw [h.sup]; exact no)
    (by rw [h.plan]; exact alone) running kind (by rw [h.plan]; exact list) (by rw [h.plan]; exact room)
  refine ⟨fun all => ?_, fun ⟨m, short⟩ => (same ⟨m, Bool.eq_false_iff.mpr (mt (reaches m).mp short)⟩).trans h.plan⟩
  obtain ⟨window, timer, logged, counted, marked⟩ := ends fun m => (reaches m).mpr (all m)
  have any : t.legs.any LegSeq.limitReached = limits := by
    rw [Bool.eq_iff_iff, Quad.any_iff, List.any_eq_true]
    exact ⟨fun ⟨m, h⟩ => ⟨m, mem_legsInOrder m, (limited m (all m)).symm.trans h⟩, fun ⟨m, _, h⟩ => ⟨m, (limited m (all m)).trans h⟩⟩
  unfold Logged entryOf at logged
  rw [any, h.plan, h.ev] at logged
  rw [h.ev] at counted
  exact ⟨window, timer, logged, counted, fun m limit => marked m ((limited m (all m)).trans limit)⟩

/-- A rise by a reply (R98, R144, R150). -/
theorem rise_by_reply (h : Replied l pos st flag pass s t) (reaches : ∀ m, (t.legs.get m).reached = true ↔ reached m)
    (rising : s.sup.mode = .rising) (no : s.sup.pendingSettle = false) (silent : s.sup.silenceInRise = false)
    (stopped : planRuns s = false) (still : ∀ v ∈ s.plan.window, v.cond ≠ .running) :
    let complete : Prop := (∀ m, reached m) ∧ ∀ m, (s.feet.get m).contact = .loaded
    (complete → (completed t).sup.mode = .standing ∧ hasEvent (completed t).ev.pending .modeChange = true ∧
      (completed t).sup.riseSettle = none ∧
      (∀ m, ((completed t).legs.get m).phase = .stance ∧ ((completed t).legs.get m).motion = none ∧
        ((completed t).legs.get m).record = none ∧ ((completed t).legs.get m).step = none ∧
        ((completed t).legs.get m).commanded = (s.legs.get m).commanded) ∧
      (completed t).sup.supportLost = (if s.sup.supportLow then some s.balCfg.supportLost else s.sup.supportLost) ∧
      (completed t).plan = s.plan) ∧
    (¬ complete → (completed t).sup = s.sup) := by
  intro complete
  have leg := h.answered
  have commanded : ∀ m, (t.legs.get m).commanded = (s.legs.get m).commanded := fun m => by
    by_cases here : m = l
    · subst here
      exact leg.commanded
    · rw [leg.others m here]
  obtain ⟨legs, plan, sup, -, feet, cfg⟩ := preshiftTest_kept t
  rw [completed_eq_of_still (by rw [h.plan]; exact still)]
  generalize preshiftTest t = z at legs plan sup feet cfg ⊢
  have zSup : z.sup = s.sup := sup.trans h.sup
  have done : riseDone z = true ↔ complete := by
    rw [riseDone_iff, legs, zSup, feet, h.feet]
    exact (and_iff_right rising).trans (and_congr (forall_congr' reaches) Iff.rfl)
  refine ⟨fun yes => ?_, fun unmet => ?_⟩
  · obtain ⟨mode, raised, timer, stood, lost, kept, -⟩ := riseEnds_riseTest (done.mpr yes) (by rw [zSup]; exact no)
      (by rw [zSup]; exact silent) (by rw [planRuns, plan, h.plan]; exact stopped)
    rw [settleCompleteTest_of_mode (by rw [mode]; exact Mode.noConfusion)]
    rw [zSup, cfg, h.balCfg] at lost
    refine ⟨mode, raised, timer, fun m => ?_, lost, kept.trans (plan.trans h.plan)⟩
    rw [stood, Quad.get_map, legs]
    exact ⟨rfl, rfl, rfl, rfl, commanded m⟩
  · have same : riseTest z = z := if_neg (mt done.mp unmet)
    rw [same, settleCompleteTest_of_mode (by rw [zSup, rising]; exact Mode.noConfusion)]
    exact zSup

/-- A settle by a reply (R98, R129, R146). -/
theorem settle_by_reply (h : Replied l pos st flag pass s t) (reaches : ∀ m, (t.legs.get m).reached = true ↔ reached m)
    (settling : s.sup.mode = .settling) (still : ∀ v ∈ s.plan.window, v.cond ≠ .running) :
    ((∀ m, reached m) → (completed t).sup.mode = .parked ∧ hasEvent (completed t).ev.pending .modeChange = true ∧
      (completed t).sup.riseSettle = none ∧ (∀ m, ((completed t).legs.get m).phase = .folded) ∧
      (completed t).plan = { s.plan with state := .idle } ∧ ∀ y ∈ (completed t).bus.queue, y.op = .poll) ∧
    ((∃ m, ¬ reached m) → (completed t).sup = s.sup) := by
  obtain ⟨legs, plan, sup, -⟩ := preshiftTest_kept t
  rw [completed_eq_of_still (by rw [h.plan]; exact still)]
  generalize preshiftTest t = z at legs plan sup ⊢
  have zSup : z.sup = s.sup := sup.trans h.sup
  rw [riseTest_of_mode (by rw [zSup, settling]; exact Mode.noConfusion)]
  have all_iff : z.legs.all LegSeq.reached = true ↔ ∀ m, reached m := by
    rw [Quad.all_iff, legs]
    exact forall_congr' reaches
  refine ⟨fun all => ?_, fun ⟨m, short⟩ => ?_⟩
  · obtain ⟨mode, raised, timer, folded, idle, polls, -⟩ := settleEnds_settleCompleteTest (s := z) (by rw [zSup]; exact settling)
      (all_iff.mpr all)
    rw [plan, h.plan] at idle
    exact ⟨mode, raised, timer, folded, idle, polls⟩
  · have same : settleCompleteTest z = z := if_neg fun h => short (all_iff.mp h.2 m)
    rw [same]
    exact zSup

end

/-- Settles O50: a reply is taken, and what waits for legs is tested by their flags; a sample's landing tests a pending settle. -/
theorem repliesComplete : Obligations.RepliesComplete := by
  unfold Obligations.RepliesComplete
  constructor
  · intro s x n pos st flags ⟨stands, emptied, _⟩ line fx fy fz fine no silent l q pass reached atLimit
    obtain ⟨r, replied, shown⟩ := exec_goodReply (flags := flags) line fx fy fz fine
    have iff : passesReached (s.legs.get x.leg) s.gait.tolerance pos st (flags.getLsbD 0) = true ↔ pass := passesReached_iff ..
    generalize passesReached (s.legs.get x.leg) s.gait.tolerance pos st (flags.getLsbD 0) = p at replied shown iff
    have leg := replied.answered
    have stopped : s.sup.mode ≠ .standing → planRuns s = false := fun other => Bool.eq_false_iff.mpr fun runs => other (stands runs)
    have still : s.sup.mode ≠ .standing → ∀ v ∈ s.plan.window, v.cond ≠ .running := fun other v mem => by
      rw [emptied (stopped other)] at mem
      exact absurd mem List.not_mem_nil
    have reaches : ∀ m, (r.legs.get m).reached = true ↔ reached m := fun m => by rw [replied.reached_iff, iff]
    have limited : ∀ m, reached m → (r.legs.get m).limitReached = atLimit m := fun m yes =>
      (replied.limited m ((reaches m).mpr yes)).trans (if_congr (and_congr Iff.rfl (and_congr iff Iff.rfl)) rfl rfl)
    refine ⟨_, shown, fun standing reach motion yes loaded => ?_, fun p' running stance calm => ?_, ?_, fun rising posture => ?_,
      fun settling posture => ?_⟩
    · have yes' := iff.mpr yes
      subst yes'
      rw [← limited l (.inr ⟨rfl, yes⟩)]
      exact landingReported_by_reply replied standing no reach motion loaded
    · rw [replyActs_of_stands (.inr (.inr (leg.phase.trans stance)))]
      obtain ⟨ends, same⟩ := preshift_completed (s := r) (p := p') (by rw [replied.bal]; exact running) (by rw [replied.plan]; exact calm)
        (by rw [replied.sup]; exact no) (by rw [replied.sup]; exact silent) fun rising => by
          rw [planRuns, replied.plan]
          exact stopped (by rw [← replied.sup, rising]; exact Mode.noConfusion)
      exact ⟨fun all => ends fun m named => (reaches m).mpr (all m named),
        fun ⟨m, named, short⟩ => same ⟨m, named, Bool.eq_false_iff.mpr (mt (reaches m).mp short)⟩⟩
    · intro w standing stance alone running kind list room limits
      rw [replyActs_of_stands (.inr (.inr (leg.phase.trans stance)))]
      exact shift_by_reply replied reaches limited standing no alone running kind list room
    · have other : s.sup.mode ≠ .standing := by rw [rising]; exact Mode.noConfusion
      rw [replyActs_of_stands (.inr (.inl (leg.phase.trans posture)))]
      exact rise_by_reply replied reaches rising no silent (stopped other) (still other)
    · have other : s.sup.mode ≠ .standing := by rw [settling]; exact Mode.noConfusion
      rw [replyActs_of_stands (.inr (.inl (leg.phase.trans posture)))]
      exact settle_by_reply replied reaches settling (still other)
  · intro s l high period load standing pends reach moving measuring valid unloaded loaded
    obtain ⟨u, sampled, shown⟩ := exec_loadSample_changed measuring valid standing (by rw [loaded]; exact unloaded.symm)
    have mode : u.sup.mode = .standing := sampled.mode.trans standing
    rw [loaded, seqContact_of_landing (by rw [mode]; exact Mode.noConfusion) (by rw [sampled.legs]; exact reach), land] at shown
    have core := landCore_of_pending (s := u) (l := l) (by rw [sampled.legs]; exact moving) mode (sampled.pendingSettle.trans pends)
    rw [sampled.legs] at core
    refine ⟨_, shown, ?_⟩
    rcases core with lands | ⟨settled, others⟩
    · obtain ⟨settles, waits⟩ := lands.settles
      rw [sampled.legs] at settles waits
      intro cond
      refine ⟨fun yes => ?_, fun unmet => ?_⟩
      · have h := settles yes
        exact ⟨h.mode, h.cleared, h.raised, h.posture⟩
      · have h := waits unmet
        exact ⟨h.standing, h.pends, h.lands⟩
    · rw [settled.rests]
      exact ⟨fun _ => ⟨settled.mode, settled.cleared, settled.raised, settled.posture⟩, fun unmet => absurd ⟨settled.stopped, others⟩ unmet⟩

end
end Sys2Proof.Machine
end

section
/-! WHAT A REPLY KEEPS. The derating flags and a record's CLAMPED mark through all that a good reply brings about (R10, R121, R122). -/

namespace Sys2Proof.Machine

section
variable {s t u : State} {l : Leg} {id : Nat} {p : Planner} {w : WindowRecord} {st : DriveState}

/-! ## Derating flags -/

/-- From `s` to `t` each leg's derating flag is kept. -/
structure KeepsDerating (s t : State) : Prop where
  kept : ∀ l, (t.legs.get l).derating = (s.legs.get l).derating

theorem KeepsDerating.refl (s : State) : KeepsDerating s s := ⟨fun _ => rfl⟩

theorem KeepsDerating.trans (h : KeepsDerating s t) (k : KeepsDerating t u) : KeepsDerating s u :=
  ⟨fun l => (k.kept l).trans (h.kept l)⟩

theorem keepsDerating_of_legs (legs : t.legs = s.legs) : KeepsDerating s t := ⟨fun l => by rw [legs]⟩

theorem keepsDerating_modLeg {f : LegSeq → LegSeq} (l : Leg) (s : State)
    (keeps : ∀ q, (f q).derating = q.derating := by intro; rfl) : KeepsDerating s (modLeg l f s) := by
  refine ⟨fun m => ?_⟩
  by_cases same : m = l
  · subst same
    exact (congrArg LegSeq.derating (Quad.get_set_self ..)).trans (keeps _)
  · exact congrArg LegSeq.derating (Quad.get_set_of_ne _ same _)

theorem keepsDerating_map {f : LegSeq → LegSeq} (keeps : ∀ q, (f q).derating = q.derating) (legs : t.legs = s.legs.map f) :
    KeepsDerating s t := ⟨fun m => by rw [legs, Quad.get_map, keeps]⟩

theorem Planned.keepsDerating (h : Planned s t) : KeepsDerating s t := ⟨h.derating⟩

theorem Rests.keepsDerating (h : Rests s t) : KeepsDerating s t :=
  ⟨fun l => by simpa [LegSeq.core, LegSeq.bare] using congrArg LegSeq.derating (h.legs l)⟩

theorem keepsDerating_settleTest (s : State) : KeepsDerating s (settleTest s) := by
  rcases settleTest_cases s with same | ⟨-, -, -, settling⟩
  · rw [same]
    exact .refl s
  · refine ⟨fun l => ?_⟩
    rw [settling.posed.legs l]
    rfl

theorem PlannedTo.keepsDerating (h : PlannedTo s t) : KeepsDerating s t := by
  obtain ⟨u, planned, rfl | rfl⟩ := h
  · exact planned.keepsDerating
  · exact planned.keepsDerating.trans (keepsDerating_settleTest u)

theorem keepsDerating_phaseChanged (s : State) : KeepsDerating s (phaseChanged s) :=
  (planned_issue s).keepsDerating.trans (keepsDerating_settleTest _)

theorem keepsDerating_sendSetpoint (l : Leg) (v : Vec3) (speed : Nat) (s : State) : KeepsDerating s (sendSetpoint l v speed s) :=
  (planned_sendSetpoint l v speed s).keepsDerating

theorem keepsDerating_startPhase (l : Leg) (p : Phase) (timeout : Nat) (s : State) : KeepsDerating s (startPhase l p timeout s) :=
  keepsDerating_modLeg l s

theorem keepsDerating_reportOutcome (l : Leg) (o : Outcome) (v : Option Vec3) (s : State) : KeepsDerating s (reportOutcome l o v s) :=
  (plannedTo_reportOutcome l o v s).keepsDerating

theorem keepsDerating_landCore (l : Leg) (s : State) : KeepsDerating s (landCore l s) := by
  have stopped : KeepsDerating s (stopDescent l (alighted l s)) :=
    (keepsDerating_modLeg l s).trans (keepsDerating_sendSetpoint ..)
  cases motion : (s.legs.get l).motion with
  | none =>
    rw [landCore]
    dsimp only
    rw [motion]
    exact .refl s
  | some a =>
    cases a
    case step =>
      rw [landCore_of_step motion]
      exact (stopped.trans (keepsDerating_reportOutcome ..)).trans (keepsDerating_modLeg ..)
    case held =>
      rw [landCore_of_held motion]
      exact keepsDerating_modLeg ..
    all_goals
      rw [landCore_of_returns motion (by simp [Motion.returns])]
      exact stopped.trans (keepsDerating_modLeg ..)

theorem keepsDerating_land (l : Leg) (s : State) : KeepsDerating s (land l s) :=
  (keepsDerating_landCore l s).trans (keepsDerating_phaseChanged _)

theorem keepsDerating_landIfLoaded (l : Leg) (s : State) : KeepsDerating s (landIfLoaded l s) := by
  unfold landIfLoaded
  split
  · exact keepsDerating_landCore l s
  · exact .refl s

/-- A leg begins a phase and is sent its setpoint: no derating flag changes. -/
theorem keepsDerating_sets (l : Leg) (p : Phase) (timeout : Nat) (v : Vec3) (speed : Nat) (s : State) :
    KeepsDerating s (sendSetpoint l v speed (startPhase l p timeout s)) :=
  (keepsDerating_startPhase ..).trans (keepsDerating_sendSetpoint ..)

theorem keepsDerating_liftEnd (l : Leg) (s : State) : KeepsDerating s (liftEnd l s) := by
  unfold liftEnd
  split
  · exact .refl s
  · exact ((rests_markIfLimit l s).keepsDerating.trans (keepsDerating_sets ..)).trans (keepsDerating_phaseChanged _)

theorem keepsDerating_swingEnd (l : Leg) (s : State) : KeepsDerating s (swingEnd l s) := by
  cases step : (s.legs.get l).step with
  | none =>
    rw [swingEnd, step]
    exact .refl s
  | some d =>
    have swung : KeepsDerating s (swung l d s) := (rests_markIfLimit l s).keepsDerating.trans (keepsDerating_of_legs rfl)
    rw [swingEnd_eq step]
    exact ((swung.trans (keepsDerating_sets ..)).trans (keepsDerating_landIfLoaded l _)).trans (keepsDerating_phaseChanged _)

theorem keepsDerating_retreatReach (l : Leg) (s : State) : KeepsDerating s (retreatReach l s) := by
  unfold retreatReach
  split
  · exact .refl s
  · exact ((keepsDerating_sets ..).trans (keepsDerating_landIfLoaded l _)).trans (keepsDerating_phaseChanged _)

theorem keepsDerating_missFoothold (l : Leg) (s : State) : KeepsDerating s (missFoothold l s) := by
  cases step : (s.legs.get l).step with
  | none =>
    rw [missFoothold, step]
    exact .refl s
  | some d =>
    have missed : KeepsDerating s (missed l d s) := by
      refine .trans ((keepsDerating_reportOutcome l .missed none s).trans (planned_raise .missed _).keepsDerating) ?_
      unfold Machine.missed
      generalize raise .missed (reportOutcome l .missed none s) = x
      exact (keepsDerating_modLeg (f := fun q => { q with motion := some .retreat, record := none }) l x).trans (keepsDerating_of_legs rfl)
    rw [missFoothold_eq step]
    exact (missed.trans (keepsDerating_sets ..)).trans (keepsDerating_phaseChanged _)

theorem keepsDerating_failLeg (l : Leg) (s : State) : KeepsDerating s (failLeg l s) := by
  have failed : KeepsDerating s (failed l s) := by
    have held := (planned_sendHold l s).keepsDerating.trans
      (keepsDerating_modLeg (f := fun q => { q with phase := .reach, motion := some .held, timer := none }) l (sendHold l s))
    refine .trans (held.trans (planned_raise .missed _).keepsDerating) ?_
    exact keepsDerating_of_legs rfl
  rw [failLeg_eq]
  split
  · exact (failed.trans (keepsDerating_landIfLoaded l _)).trans (keepsDerating_phaseChanged _)
  · exact failed

theorem keepsDerating_reachedInReach (l : Leg) (s : State) : KeepsDerating s (reachedInReach l s) := by
  have marked := (rests_markIfLimit l s).keepsDerating
  unfold reachedInReach
  dsimp only
  split
  · exact .refl s
  · split
    · exact marked.trans (keepsDerating_land ..)
    · exact marked.trans (keepsDerating_missFoothold ..)
  · split
    · exact keepsDerating_land l s
    · exact .refl s
  · split
    · exact keepsDerating_land l s
    · exact keepsDerating_failLeg l s

theorem keepsDerating_replyActs (l : Leg) (pass : Bool) (s : State) : KeepsDerating s (replyActs l pass s) := by
  unfold replyActs
  dsimp only
  split
  · exact .refl s
  · split
    · split
      · exact keepsDerating_liftEnd l s
      · exact .refl s
    · split
      · split
        · exact keepsDerating_swingEnd l s
        · split
          · exact keepsDerating_retreatReach l s
          · exact .refl s
      · exact .refl s
    · split
      · exact keepsDerating_reachedInReach l s
      · exact .refl s
    all_goals exact .refl s

theorem keepsDerating_shiftTest (s : State) : KeepsDerating s (shiftTest s) := by
  cases running : s.plan.window.find? fun w => decide (w.cond = .running) with
  | none =>
    rw [shiftTest, running]
    exact .refl s
  | some w =>
    rw [shiftTest_of_running running]
    split
    · have marked : KeepsDerating s (shiftLimited w s) :=
        keepsDerating_map (fun q => by rw [markedAtLimit_fields]) (show (shiftLimited w s).legs = _ from rfl)
      exact marked.trans (plannedTo_completeRecord ..).keepsDerating
    · exact .refl s

theorem legs_changeMode (m : Mode) (s : State) : (changeMode m s).legs = s.legs := by
  obtain ⟨es, tx, -, moded⟩ := changeMode_eq m s
  rw [moded]
  rfl

theorem keepsDerating_drain (s : State) : KeepsDerating s (drain s) := by
  by_cases active : s.plan.state = .active
  · have shown : drain s = suspendIfEmpty (withdrawWaiting (setPlanState .draining s)) := if_pos active
    rw [shown]
    exact (planned_draining s).keepsDerating.trans (plannedTo_suspendIfEmpty _).keepsDerating
  · rw [drain, if_neg active]
    exact .refl s

theorem keepsDerating_setPendingSettle (s : State) : KeepsDerating s (setPendingSettle s) := by
  unfold setPendingSettle
  split
  · refine .trans ?_ (keepsDerating_settleTest _)
    exact keepsDerating_of_legs rfl
  · exact .refl s

theorem keepsDerating_riseTest (s : State) : KeepsDerating s (riseTest s) := by
  unfold riseTest
  split
  · have stood := keepsDerating_map (s := changeMode .standing (s.setSup { s.sup with riseSettle := none }))
      (t := setAllPhases .stance (changeMode .standing (s.setSup { s.sup with riseSettle := none })))
      (f := LegSeq.settled .stance) (fun _ => rfl) rfl
    have moded : KeepsDerating s (changeMode .standing (s.setSup { s.sup with riseSettle := none })) :=
      keepsDerating_of_legs (legs_changeMode ..)
    have started : ∀ x, KeepsDerating x (startSupportLost x) := fun x => by
      unfold startSupportLost
      split
      · exact keepsDerating_of_legs rfl
      · exact .refl x
    have silenced : ∀ x, KeepsDerating x (applySilenceInRise x) := fun x => by
      unfold applySilenceInRise
      split
      · refine .trans (.trans ?_ (keepsDerating_drain _)) (keepsDerating_setPendingSettle _)
        exact keepsDerating_of_legs rfl
      · exact .refl x
    exact (((moded.trans stood).trans (keepsDerating_phaseChanged _)).trans (started _)).trans (silenced _)
  · exact .refl s

theorem keepsDerating_settleCompleteTest (s : State) : KeepsDerating s (settleCompleteTest s) := by
  unfold settleCompleteTest
  split
  · have moded : KeepsDerating s (changeMode .parked (s.setSup { s.sup with riseSettle := none })) :=
      keepsDerating_of_legs (legs_changeMode ..)
    refine .trans moded ?_
    generalize changeMode .parked _ = x
    exact keepsDerating_map (f := fun q => { q with phase := .folded }) (fun _ => rfl) rfl
  · exact .refl s

theorem keepsDerating_completed (s : State) : KeepsDerating s (completed s) :=
  (((planned_preshiftTest s).keepsDerating.trans (keepsDerating_shiftTest _)).trans (keepsDerating_riseTest _)).trans
    (keepsDerating_settleCompleteTest _)

theorem keepsDerating_driveStateTest (l : Leg) (before : Option LastReply) (now : DriveState) (s : State) :
    KeepsDerating s (driveStateTest l before now s) := by
  rcases driveStateTest_cases l before now s with same | ⟨-, reported⟩
  · rw [same]
    exact .refl s
  · have offer : ∀ x, KeepsDerating x (offerFault .driveFault (some l) x) := fun x => by
      rw [offerFault_frame]
      exact keepsDerating_of_legs rfl
    rw [reported]
    refine (planned_raise .driveFault s).keepsDerating.trans ?_
    rcases reportFault_cases .driveFault (some l) (raise .driveFault s) with same | ⟨-, offered⟩ | ⟨-, -, held⟩
    · rw [same]
      exact .refl _
    · rw [offered]
      exact offer _
    · exact (offer _).trans ⟨fun m => by rw [held.legs m]; rfl⟩

/-! ## A record's CLAMPED mark -/

/-- Whatever of the plan has this id is marked CLAMPED (R10, R122). -/
structure MarkedIn (id : Nat) (p : Planner) : Prop where
  window : ∀ w ∈ p.window, w.body.id = id → w.body.clamped = true
  list : ∀ r ∈ p.list, r.id = id → r.clamped = true

theorem MarkedIn.of_subset {q : Planner} (h : MarkedIn id p) (window : q.window ⊆ p.window) (list : q.list ⊆ p.list) : MarkedIn id q :=
  ⟨fun w mem => h.window w (window mem), fun r mem => h.list r (list mem)⟩

theorem MarkedIn.marked (h : MarkedIn id p) (other : Nat) (mark : Bool) : MarkedIn id (markedPlan other mark p) := by
  refine ⟨fun w mem same => ?_, h.list⟩
  obtain ⟨v, there, rfl⟩ := List.mem_map.mp mem
  rw [markedIf_id] at same
  unfold markedIf
  split
  · rfl
  · exact h.window v there same

/-- The drain of a window brings its WAITING records back to the list as they are (R85). -/
theorem MarkedIn.withdrawn {q : Planner} (h : MarkedIn id p) (window : q.window = servedOf p.window)
    (list : q.list = (waitingOf p.window).map WindowRecord.body ++ p.list) : MarkedIn id q := by
  refine ⟨fun w mem => ?_, fun r mem => ?_⟩
  · rw [window] at mem
    exact h.window w (List.mem_of_mem_filter mem)
  · rw [list] at mem
    rcases List.mem_append.mp mem with mem | mem
    · obtain ⟨w, there, rfl⟩ := List.mem_map.mp mem
      exact h.window w (List.mem_of_mem_filter there)
    · exact h.list r mem

theorem MarkedIn.issued {rest : List PlanRecord} {r : PlanRecord} {cond : Condition} (h : MarkedIn id p) (list : p.list = r :: rest) :
    MarkedIn id { p with list := rest, window := p.window ++ [⟨{ r with preshifts := 0 }, cond, []⟩] } := by
  refine ⟨fun w mem same => ?_, fun q mem => h.list q (by rw [list]; exact List.mem_cons_of_mem r mem)⟩
  rcases List.mem_append.mp mem with mem | mem
  · exact h.window w mem same
  · rw [List.mem_singleton.mp mem] at same ⊢
    exact h.list r (by rw [list]; exact List.mem_cons_self) same

theorem markedIn_issue (h : MarkedIn id s.plan) : MarkedIn id (issue s).plan := by
  refine issue_induction (P := fun s t => MarkedIn id s.plan → MarkedIn id t.plan) (fun _ h => h)
    (fun _ _ _ first second => second ∘ first) (fun s r rest list _ h => ?_) s h
  by_cases kind : r.kind = .shift
  · rw [issueHead_of_shift kind]
    have joined := h.issued (cond := .running) list
    have starts := (shiftStarts_startShift r.id r.disp
      (s.setPlan { s.plan with list := rest, window := s.plan.window ++ [⟨{ r with preshifts := 0 }, .running, []⟩] })).plan
    rw [starts, shiftMarked_eq, markIf_eq]
    exact (joined.marked ..).of_subset (List.Subset.refl _) (List.Subset.refl _)
  · rw [issueHead_of_step kind]
    exact h.issued list

theorem markedIn_phaseChanged (h : MarkedIn id s.plan) : MarkedIn id (phaseChanged s).plan := by
  rw [phaseChanged, (settles_settleTest (issue s)).plan]
  exact markedIn_issue h

theorem markedIn_planEnds (h : MarkedIn id s.plan) (p : PlanState) (e : Event) : MarkedIn id (planEnds p e s).plan := by
  rw [(planEnds_spec p e s).plan]
  exact h.of_subset (List.Subset.refl _) (List.Subset.refl _)

theorem markedIn_completionActs (h : MarkedIn id s.plan) (st : Status) (hold : Bool) : MarkedIn id (completionActs st hold s).plan := by
  unfold completionActs
  split
  case isTrue active =>
    split
    · rw [(drains_drain active).plan]
      exact h.withdrawn rfl rfl
    · rw [idleIfEmpty_eq]
      split
      · exact markedIn_planEnds (markedIn_issue h) ..
      · exact markedIn_issue h
  case isFalse =>
    split
    · rw [suspendIfEmpty_eq]
      split
      · exact markedIn_planEnds h ..
      · exact h
    · exact h

theorem markedIn_completeRecord (h : MarkedIn id s.plan) (other : Nat) (st : Status) : MarkedIn id (completeRecord other st s).plan := by
  unfold completeRecord
  split
  · exact h
  case h_2 w _ =>
    refine markedIn_completionActs ?_ ..
    rw [(finishes_finishRecord w st s).plan]
    exact h.of_subset (List.filter_subset_self _) (List.Subset.refl _)

theorem markedIn_reportOutcome (h : MarkedIn id s.plan) (l : Leg) (o : Outcome) (v : Option Vec3) :
    MarkedIn id (reportOutcome l o v s).plan := by
  unfold reportOutcome
  split
  · exact h
  · split
    · exact h
    case h_2 w found =>
      have there : w ∈ s.plan.window := List.mem_of_find?_eq_some found
      dsimp only
      split
      · have joined : ∀ other : Nat, MarkedIn id (modWindow other (fun _ => { w with reports := w.reports ++ [⟨l, o, v⟩] }) s).plan :=
          fun other => by
            refine ⟨fun x mem same => ?_, h.list⟩
            obtain ⟨y, inside, rfl⟩ := List.mem_map.mp mem
            split at same
            · rw [if_pos (by assumption)]
              exact h.window w there same
            · rw [if_neg (by assumption)]
              exact h.window y inside same
        split
        · exact markedIn_completeRecord (joined _) ..
        · exact joined _
      · exact h

end
end Sys2Proof.Machine
end

section
/-! GOOD REPLY. What a good reply replaces and keeps in every mode, and a drive that reports FAULT (R97, R98, R121, R122, R132, R139, R147,
R148). -/

namespace Sys2Proof.Machine

section
variable {s t u : State} {l : Leg} {id : Nat} {d : StepData} {pos : Vec3} {st : DriveState} {flag pass : Bool}

/-! ## What no reply changes -/

theorem calm_completed (s : State) : Calm s (completed s) :=
  (((calm_preshiftTest s).trans (calm_shiftTest _)).trans (calm_riseTest _)).trans (calm_settleCompleteTest _)

theorem calm_reply (l : Leg) (pass : Bool) (before : Option LastReply) (st : DriveState) (s : State) :
    Calm s (driveStateTest l before st (completed (replyActs l pass s))) :=
  ((calm_replyActs l pass s).trans (calm_completed _)).trans (calm_driveStateTest ..)

/-! ## SAFE_HOLD -/

theorem replyActs_of_safeHold (held : s.sup.mode = .safeHold) : replyActs l pass s = s := if_pos held

theorem PlannedTo.planned_of_safeHold (h : PlannedTo s t) (held : s.sup.mode = .safeHold) : Planned s t := by
  obtain ⟨u, planned, rfl | rfl⟩ := h
  · exact planned
  · rw [settleTest_of_safeHold (by rw [planned.sup]; exact held)]
    exact planned

theorem legs_planEnds_of_safeHold (held : s.sup.mode = .safeHold) (p : PlanState) (e : Event) : (planEnds p e s).legs = s.legs := by
  have raised := (books_raise e (setPlanState p s)).1
  have same : planEnds p e s = raise e (setPlanState p s) := settleTest_of_safeHold (by rw [raised.sup]; exact held)
  rw [same, raised.legs]
  rfl

/-- In SAFE_HOLD, with no pre-shift to stop, the completion of a record commands no leg. -/
theorem legs_completionActs_of_safeHold (held : s.sup.mode = .safeHold) (still : s.bal.preshift = none) (st : Status) (hold : Bool) :
    (completionActs st hold s).legs = s.legs := by
  have suspends : ∀ x : State, x.sup.mode = .safeHold → (suspendIfEmpty x).legs = x.legs := fun x held => by
    rw [suspendIfEmpty_eq]
    split
    · exact legs_planEnds_of_safeHold held ..
    · rfl
  unfold completionActs
  split
  case isTrue active =>
    split
    · have shown : drain s = suspendIfEmpty (withdrawWaiting (setPlanState .draining s)) := if_pos active
      have withdrawn := withdraws_withdrawWaiting (setPlanState .draining s)
      have mode : (withdrawWaiting (setPlanState .draining s)).sup.mode = .safeHold := by
        rw [(planned_draining s).sup]
        exact held
      obtain ⟨-, legs, -⟩ := withdrawn.keeps fun p running => absurd (still.symm.trans running) (Option.some_ne_none p).symm
      rw [shown, suspends _ mode, legs]
      rfl
    · rw [issue_of_mode (by rw [held]; exact Mode.noConfusion), idleIfEmpty_eq]
      split
      · exact legs_planEnds_of_safeHold held ..
      · rfl
  case isFalse =>
    split
    · exact suspends s held
    · rfl

theorem legs_completeRecord_of_safeHold (held : s.sup.mode = .safeHold) (still : s.bal.preshift = none) (id : Nat) (st : Status) :
    (completeRecord id st s).legs = s.legs := by
  unfold completeRecord
  split
  · rfl
  case h_2 w _ =>
    have books := (finishes_finishRecord w st s).books
    rw [legs_completionActs_of_safeHold (by rw [books.sup]; exact held) (by rw [books.bal]; exact still), books.legs]

/-- What a reply completes in SAFE_HOLD leaves mode and reached flags: when a SHIFT does, so has any pre-shift (R117, R120). -/
theorem completed_of_safeHold (held : s.sup.mode = .safeHold) :
    (completed s).sup.mode = .safeHold ∧ ∀ m, ((completed s).legs.get m).reached = (s.legs.get m).reached := by
  obtain ⟨legs, -, sup, -⟩ := preshiftTest_kept s
  have mode : (preshiftTest s).sup.mode = .safeHold := by rw [sup]; exact held
  have shift : (shiftTest (preshiftTest s)).sup.mode = .safeHold ∧
      ∀ m, ((shiftTest (preshiftTest s)).legs.get m).reached = (s.legs.get m).reached := by
    cases running : (preshiftTest s).plan.window.find? fun w => decide (w.cond = .running) with
    | none =>
      rw [shiftTest, running]
      exact ⟨mode, fun m => by rw [legs]⟩
    | some w =>
      rw [shiftTest_of_running running]
      split
      case isTrue all =>
        rw [legs, Quad.all_iff] at all
        have still : (preshiftTest s).bal.preshift = none := by
          rw [preshiftTest]
          split
          case h_1 none => exact none
          case h_2 p _ =>
            rw [if_pos (List.all_eq_true.mpr fun m _ => all m)]
            rfl
        have planned := (plannedTo_completeRecord w.body.id .ok (shiftLimited w (preshiftTest s))).planned_of_safeHold mode
        have same := legs_completeRecord_of_safeHold (s := shiftLimited w (preshiftTest s)) mode still w.body.id .ok
        refine ⟨by rw [planned.sup]; exact mode, fun m => ?_⟩
        have leg : (shiftLimited w (preshiftTest s)).legs.get m = ((preshiftTest s).legs.get m).markedAtLimit := Quad.get_map ..
        rw [same, leg, markedAtLimit_fields, legs]
      case isFalse => exact ⟨mode, fun m => by rw [legs]⟩
  obtain ⟨shiftMode, reached⟩ := shift
  rw [completed, riseTest_of_mode (by rw [shiftMode]; exact Mode.noConfusion),
    settleCompleteTest_of_mode (by rw [shiftMode]; exact Mode.noConfusion)]
  exact ⟨shiftMode, reached⟩

/-! ## A drive that reports FAULT -/

theorem reportFault_driveFault (l : Leg) (s : State) :
    (reportFault .driveFault (some l) (raise .driveFault s)).sup.mode = .safeHold ∧
      hasEvent (reportFault .driveFault (some l) (raise .driveFault s)).ev.pending .driveFault = true := by
  refine ⟨?_, (calm_reportFault .driveFault (some l) _).quiet.flags _ (raise_pending ..)⟩
  by_cases held : (raise .driveFault s).sup.mode = .safeHold
  · rw [reportFault_of_safeHold rfl held, offerFault_frame]
    exact held
  · exact (reportFault_enters (k := .driveFault) (leg := some l) rfl held).mode

/-- In SAFE_HOLD a leg keeps its command, and a reply that finds nothing in the window leaves plan and queue (R98, R148). -/
theorem faultInSafeHold_of_reply (h : Replied l pos .fault flag pass s t) (held : s.sup.mode = .safeHold) (empty : s.plan.window = []) :
    let v := reportFault .driveFault (some l) (raise .driveFault (completed (replyActs l pass t)))
    FaultInSafeHold .driveFault (some l) s v ∧ v.bus.queue = s.bus.queue ∧ v.plan = s.plan := by
  have leg := h.answered
  have mode : t.sup.mode = .safeHold := by rw [h.sup]; exact held
  have queue : t.bus.queue = s.bus.queue := by
    obtain ⟨base, same, before, takes⟩ := h.takes
    have baseMode : base.sup.mode = .safeHold := by
      rw [same]
      exact held
    exact (takes.still baseMode).trans before
  have still : ∀ v ∈ t.plan.window, v.cond ≠ .running := fun v mem => by
    rw [h.plan, empty] at mem
    exact absurd mem List.not_mem_nil
  have same : completed t = preshiftTest t := by
    have zMode : (preshiftTest t).sup.mode = .safeHold := by
      rw [preshiftTest_eq]
      exact mode
    rw [completed_eq_of_still still, riseTest_of_mode (by rw [zMode]; exact Mode.noConfusion),
      settleCompleteTest_of_mode (by rw [zMode]; exact Mode.noConfusion)]
  rw [replyActs_of_safeHold mode, same, preshiftTest_eq]
  generalize (preshiftTest t).bal.preshift = p
  have unchanged : hasEvent (raise .driveFault (t.setBal { t.bal with preshift := p })).ev.pending .modeChange =
      hasEvent t.ev.pending .modeChange := hasEvent_raise_of_ne (by decide) _
  obtain ⟨es, tx, -, raised⟩ := raise_eq .driveFault (t.setBal { t.bal with preshift := p })
  generalize raise .driveFault (t.setBal { t.bal with preshift := p }) = u at unchanged raised ⊢
  have kept : u.sup = t.sup ∧ u.legs = t.legs ∧ u.plan = t.plan ∧ u.bus = t.bus := by
    rw [raised]
    exact ⟨rfl, rfl, rfl, rfl⟩
  have alike : Alike t u := by
    rw [raised]
    exact ⟨rfl, rfl, rfl, rfl, rfl, rfl, rfl, fun _ => rfl⟩
  obtain ⟨uSup, uLegs, uPlan, uBus⟩ := kept
  have uMode : u.sup.mode = .safeHold := by rw [uSup]; exact mode
  have frame := offerFault_frame .driveFault (some l) u
  have found := faultInSafeHold (t := offerFault .driveFault (some l) u) (k := .driveFault) (leg := some l) alike mode unchanged
    (by rw [frame]; exact uMode) rfl (by rw [frame]; exact uLegs)
  intro v
  have shown : v = offerFault .driveFault (some l) u := reportFault_of_safeHold rfl uMode
  rw [shown]
  have vPlan : (offerFault .driveFault (some l) u).plan = s.plan := by
    rw [frame]
    exact uPlan.trans h.plan
  have vBus : (offerFault .driveFault (some l) u).bus.queue = s.bus.queue := by
    rw [frame, ← queue]
    exact congrArg Bus.queue uBus
  refine ⟨?_, vBus, vPlan⟩
  obtain ⟨now, flags, offered, full, legs⟩ := found
  rw [h.ev] at flags full
  rw [h.ev, h.plan] at offered
  refine ⟨now, flags, offered, full, fun m => ?_⟩
  obtain ⟨phase, motion, commanded⟩ := legs m
  rw [phase, motion, commanded]
  by_cases here : m = l
  · subst here
    exact ⟨leg.phase, leg.motion, leg.commanded⟩
  · rw [leg.others m here]
    exact ⟨rfl, rfl, rfl⟩

/-! ## A setpoint formed again -/

/-- A reply that leaves its leg on the way, by the drive's state: the setpoint is formed again for the new speed (R121). -/
theorem resent_by_reply (h : Replied l pos st flag false s t) {v : Nat} (speed : (s.legs.get l).speed = some v)
    (running : s.sup.mode ≠ .parked) (free : s.sup.mode ≠ .safeHold) (unfolded : (s.legs.get l).phase ≠ .folded)
    (unreached : (s.legs.get l).reached = false) (changed : (s.legs.get l).derating ≠ decide (st = .hot)) :
    let u := completed (replyActs l false t)
    (u.legs.get l).commanded = (s.legs.get l).commanded ∧ (u.legs.get l).reached = false ∧
      (u.legs.get l).timer = (s.legs.get l).timer ∧
      (⟨l, .setpoint (s.legs.get l).commanded (spared (decide (st = .hot)) v) false⟩ : Txn) ∈ u.bus.queue := by
  have leg := h.answered
  have still : (t.legs.get l).reached = false := by rw [leg.reached, unreached]; rfl
  have waits : (⟨l, .setpoint (s.legs.get l).commanded (spared (decide (st = .hot)) v) false⟩ : Txn) ∈ t.bus.queue := by
    obtain ⟨base, same, -, takes⟩ := h.takes
    have resent := takes.resent v
    have legs : base.legs = s.legs := by rw [same]; rfl
    have sup : base.sup = s.sup := by rw [same]; rfl
    rw [legs, sup] at resent
    exact resent speed running free unfolded unreached rfl changed
  have acts : replyActs l false t = t := by
    by_cases lift : (t.legs.get l).phase = .lift
    · rw [replyActs_of_lift lift (by rw [h.sup]; exact free)]
      exact if_neg fun ended => Bool.false_ne_true (still.symm.trans ended.2.1)
    · exact replyActs_of_fails lift
  rw [acts, completed_of_unreached still, preshiftTest_eq]
  exact ⟨leg.commanded, still, leg.timer, waits⟩

/-! ## The mark of an AT_LIMIT arrival -/

/-- From `s`, which marks all that has an id, a leg's CLAMPED mark and the record's are set in `t` (R122). -/
structure ArrivesLimited (l : Leg) (id : Nat) (t : State) : Prop where
  leg : (t.legs.get l).clamped = true
  plan : MarkedIn id t.plan

theorem ArrivesLimited.sends (h : ArrivesLimited l id s) (p : Phase) (timeout : Nat) (v : Vec3) (speed : Nat) :
    ArrivesLimited l id (sendSetpoint l v speed (startPhase l p timeout s)) := by
  have sent := planned_sendSetpoint l v speed (startPhase l p timeout s)
  have work := (legwork_modLeg l _ s).trans (legwork_sendSetpoint l v speed (startPhase l p timeout s))
  refine ⟨(sent.clamped l).trans ?_, by rw [work.plan]; exact h.plan⟩
  exact (congrArg LegSeq.clamped (Quad.get_set_self ..)).trans h.leg

theorem ArrivesLimited.phaseChanged (h : ArrivesLimited l id s) (no : s.sup.pendingSettle = false) : ArrivesLimited l id (phaseChanged s) :=
  ⟨((planned_phaseChanged (.inl no)).clamped l).trans h.leg, markedIn_phaseChanged h.plan⟩

theorem arrivesLimited_missed (h : ArrivesLimited l id s) (no : s.sup.pendingSettle = false) (d : StepData) :
    ArrivesLimited l id (missed l d s) := by
  have reported := planned_reportOutcome (.inl no) l .missed none
  have told := planned_raise .missed (reportOutcome l .missed none s)
  have plan : (raise .missed (reportOutcome l .missed none s)).plan = (reportOutcome l .missed none s).plan := (books_raise ..).2.1
  refine ⟨?_, ?_⟩
  · refine (congrArg LegSeq.clamped (Quad.get_set_self ..)).trans ?_
    exact ((reported.trans told).clamped l).trans h.leg
  · show MarkedIn id (raise .missed (reportOutcome l .missed none s)).plan
    rw [plan]
    exact markedIn_reportOutcome h.plan ..

/-- The record of a stepping leg, marked, is the only thing in the plan with its id (R73, R122). -/
theorem arrivesLimited_markIfLimit {w : WindowRecord} (mem : w ∈ s.plan.window) (nodup : (idsInPlan s).Nodup)
    (record : (s.legs.get l).record = some w.body.id) (limit : (s.legs.get l).limitReached = true) :
    ArrivesLimited l w.body.id (markIfLimit l s) := by
  refine ⟨?_, ?_⟩
  · rw [markIfLimit_leg, markedAtLimit_fields, limit]
    exact Bool.or_true _
  · have plan : (markIfLimit l s).plan = markedPlan w.body.id true s.plan := by
      rw [markIfLimit_eq]
      show markedFor (s.legs.get l) s.plan = _
      rw [markedFor, record, limit]
      rfl
    rw [plan]
    refine ⟨fun v there same => ?_, fun r there same => ?_⟩
    · obtain ⟨x, -, rfl⟩ := List.mem_map.mp there
      rw [markedIf_id] at same
      rw [markedIf, if_pos ⟨rfl, same⟩]
    · have disjoint := (List.nodup_append.mp nodup).2.2
      exact absurd same (disjoint _ (List.mem_map_of_mem there) _ (List.mem_map_of_mem (f := fun w => w.body.id) mem))

/-- An AT_LIMIT arrival that ends LIFT, SWING or REACH of a step marks leg and record (R122). -/
theorem arrivesLimited_by_reply (h : Replied l pos st flag true s t) {w : WindowRecord} (mem : w ∈ s.plan.window)
    (nodup : (idsInPlan s).Nodup) (record : (s.legs.get l).record = some w.body.id) (limit : (t.legs.get l).limitReached = true)
    (reached : (t.legs.get l).reached = true) (standing : s.sup.mode = .standing) (no : s.sup.pendingSettle = false)
    (step : (s.legs.get l).step = some d) (motion : (s.legs.get l).motion = some .step)
    (ends : (s.legs.get l).phase = .lift ∧ (s.feet.get l).contact = .air ∨
      (s.legs.get l).phase = .swing ∧ (s.feet.get l).contact ≠ .loaded ∨
      (s.legs.get l).phase = .reach ∧ (s.feet.get l).contact ≠ .loaded) :
    ArrivesLimited l w.body.id (completed (replyActs l true t)) := by
  have leg := h.answered
  have mode : t.sup.mode = .standing := by rw [h.sup]; exact standing
  have free : t.sup.mode ≠ .safeHold := by rw [mode]; exact Mode.noConfusion
  have running : t.sup.mode ≠ .parked := by rw [mode]; exact Mode.noConfusion
  have tNo : t.sup.pendingSettle = false := by rw [h.sup]; exact no
  have step' : (t.legs.get l).step = some d := leg.step.trans step
  have motion' : (t.legs.get l).motion = some .step := leg.motion.trans motion
  have marked : ArrivesLimited l w.body.id (markIfLimit l t) :=
    arrivesLimited_markIfLimit (by rw [h.plan]; exact mem) (by rw [idsInPlan, h.plan]; exact nodup) (leg.record.trans record) limit
  have rests := rests_markIfLimit l t
  have mNo : (markIfLimit l t).sup.pendingSettle = false := by rw [rests.sup]; exact tNo
  have onWay : ∀ {x : State}, (x.legs.get l).reached = false → ArrivesLimited l w.body.id x → ArrivesLimited l w.body.id (completed x) :=
    fun {x} unreached arrives => by
      rw [completed_of_unreached unreached, preshiftTest_eq]
      exact ⟨arrives.leg, arrives.plan⟩
  rcases ends with ⟨lift, air⟩ | ⟨swing, unloaded⟩ | ⟨reach, unloaded⟩
  · have acts : replyActs l true t = liftEnd l t := by
      rw [replyActs_of_lift (leg.phase.trans lift) free]
      exact if_pos ⟨motion', reached, by rw [h.feet]; exact air⟩
    have way := moves_liftEnd step' motion' running
    rw [acts]
    refine onWay way.2.2.2.1 ?_
    unfold liftEnd
    rw [step']
    refine (marked.sends ..).phaseChanged ?_
    rw [(planned_sendSetpoint ..).sup]
    exact mNo
  · rw [(replyActs_of_swing (leg.phase.trans swing) free).1 motion']
    have unloaded' : (t.feet.get l).contact ≠ .loaded := by rw [h.feet]; exact unloaded
    have way := (swings_swingEnd step' motion' running tNo).moves unloaded'
    refine onWay way.2.2.2.1 ?_
    have swung : ArrivesLimited l w.body.id (swung l d t) := ⟨marked.leg, marked.plan⟩
    have sup : (Machine.swung l d t).sup = t.sup := rests.sup
    have contact : ((Machine.swung l d t).feet.get l).contact = (t.feet.get l).contact := by
      have feet : (Machine.swung l d t).feet.get l = { (markIfLimit l t).feet.get l with cls := d.targetClass } := Quad.get_set_self ..
      rw [feet, rests.feet]
    rw [swingEnd_eq step']
    generalize Machine.swung l d t = x at swung sup contact
    have sent := planned_sendSetpoint l (atLevel d.target (d.target.z - d.reachDepth)) x.gait.reachSpeed
      (startPhase l .reach x.gait.reachTimeout x)
    have feet : (sendSetpoint l (atLevel d.target (d.target.z - d.reachDepth)) x.gait.reachSpeed
      (startPhase l .reach x.gait.reachTimeout x)).feet = x.feet := sent.feet
    rw [landIfLoaded_of_unloaded (by rw [feet, contact]; exact unloaded')]
    refine (swung.sends ..).phaseChanged ?_
    rw [sent.sup]
    exact (congrArg Supervisor.pendingSettle sup).trans tNo
  · have unloaded' : (t.feet.get l).contact ≠ .loaded := by rw [h.feet]; exact unloaded
    rw [replyActs_of_reach (leg.phase.trans reach) free, (reachedInReach_of_step motion').2 unloaded']
    have off : ((markIfLimit l t).legs.get l).phase ≠ .stance := by
      rw [rests.phase, leg.phase, reach]
      exact Phase.noConfusion
    have markedStep : ((markIfLimit l t).legs.get l).step = some d := by
      rw [markIfLimit_leg, markedAtLimit_fields]
      exact step'
    have way := (misses_missFoothold off markedStep).moves (by rw [rests.sup]; exact running)
    refine onWay way.2.2.2.1 ?_
    rw [missFoothold_eq markedStep]
    have missed := arrivesLimited_missed marked mNo d
    have sup : (Machine.missed l d (markIfLimit l t)).sup = (markIfLimit l t).sup :=
      ((planned_reportOutcome (.inl mNo) l .missed none).trans (planned_raise .missed _)).sup
    refine (missed.sends ..).phaseChanged ?_
    rw [(planned_sendSetpoint ..).sup]
    exact (congrArg Supervisor.pendingSettle sup).trans mNo

/-- Settles O59: the drive's own record by the taking, and every clause by what the reply then finds. -/
theorem goodReplyIsTaken : Obligations.GoodReplyIsTaken := by
  unfold Obligations.GoodReplyIsTaken
  intro s x n pos st flags line fx fy fz
  obtain ⟨r, replied, shown⟩ := exec_reply (st := st) (flags := flags) line fx fy fz
  have iff := passesReached_iff (s.legs.get x.leg) s.gait.tolerance pos st (flags.getLsbD 0)
  generalize passesReached (s.legs.get x.leg) s.gait.tolerance pos st (flags.getLsbD 0) = p at replied shown iff
  have leg := replied.answered
  have quiet := (calm_reply x.leg p (s.bus.drives.get x.leg).last st r).quiet
  have derating := ((keepsDerating_replyActs x.leg p r).trans (keepsDerating_completed _)).trans
    (keepsDerating_driveStateTest x.leg (s.bus.drives.get x.leg).last st _)
  refine ⟨_, shown, ?_, fun m other => ?_, quiet.line.trans replied.line, (derating.kept x.leg).trans leg.derating, fun m => ?_,
    quiet.geo.trans replied.geo, quiet.surf.trans replied.surf, quiet.balCfg.trans replied.balCfg, quiet.gait.trans replied.gait, ?_,
    fun held => ?_, fun fault other => ?_⟩
  · rw [quiet.drives, replied.drives, Quad.get_set_self]
  · rw [quiet.drives, replied.drives, Quad.get_set_of_ne _ other]
  · rw [quiet.contact, replied.feet]
  · intro q pass loaded fine
    rw [driveStateTest_of_fine fine]
    refine ⟨fun v speed running free unfolded unreached fails changed => ?_,
      fun d step motion standing no _ serves nodup arrived unreached ends => ?_⟩
    · have failed : p = false := Bool.eq_false_iff.mpr (mt iff.mp fails)
      subst failed
      exact resent_by_reply replied speed running free unfolded unreached changed
    · have passed : p = true := iff.mpr (.inl arrived)
      subst passed
      obtain ⟨-, w, mem, -, record, -⟩ := serves.2 (by rw [standing]; exact Mode.noConfusion) x.leg motion
      have reached : (r.legs.get x.leg).reached = true := by rw [leg.reached, Bool.or_true]
      have limit : (r.legs.get x.leg).limitReached = true := by
        rw [leg.limited (Bool.or_true _), if_pos ⟨rfl, unreached⟩]
        exact decide_eq_true arrived
      have arrives := arrivesLimited_by_reply replied mem nodup record limit reached standing no step motion ends
      exact ⟨arrives.leg, fun v there mine => arrives.plan.window v there (Option.some.inj (mine.symm.trans record))⟩
  · have mode : r.sup.mode = .safeHold := by rw [replied.sup]; exact held
    obtain ⟨uMode, reached⟩ := completed_of_safeHold mode
    rw [replyActs_of_safeHold mode]
    have tested : (driveStateTest x.leg (s.bus.drives.get x.leg).last st (completed r)).legs = (completed r).legs := by
      rcases driveStateTest_cases x.leg (s.bus.drives.get x.leg).last st (completed r) with same | ⟨-, reported⟩
      · rw [same]
      · have raised := (books_raise .driveFault (completed r)).1
        rw [reported, reportFault_of_safeHold rfl (by rw [raised.sup]; exact uMode), offerFault_frame]
        exact raised.legs
    rw [tested, reached, leg.reached, Bool.or_eq_true, iff]
    exact Iff.rfl
  · subst fault
    rw [driveStateTest_of_found other]
    obtain ⟨mode, raised⟩ := reportFault_driveFault x.leg (completed (replyActs x.leg p r))
    exact ⟨mode, raised, fun held empty => faultInSafeHold_of_reply replied held empty⟩

end
end Sys2Proof.Machine
end

section
/-! THE BRACE. A brace taken while the plan runs: what was granted completes, what waits is withdrawn, and the legs go down (R65, R78, R92,
R93, R110, R118). -/

namespace Sys2Proof.Machine

section
variable {s t u v : State} {l m : Leg} {d : StepData} {w : WindowRecord} {ws : List WindowRecord} {es log : List LogEntry}

/-! ## A leg sent straight down -/

/-- From `s` to `t` nothing has changed that a leg's descent looks at, and the leg is spared. -/
structure Away (l : Leg) (s t : State) : Prop where
  spares : Spares l s t
  sup : t.sup = s.sup
  feet : t.feet = s.feet
  geo : t.geo = s.geo
  gait : t.gait = s.gait
  drives : t.bus.drives = s.bus.drives

theorem Away.refl (l : Leg) (s : State) : Away l s s := ⟨.refl l s, rfl, rfl, rfl, rfl, rfl⟩

theorem Away.trans (h : Away l s t) (k : Away l t u) : Away l s u :=
  ⟨h.spares.trans k.spares, k.sup.trans h.sup, k.feet.trans h.feet, k.geo.trans h.geo, k.gait.trans h.gait, k.drives.trans h.drives⟩

theorem Books.away (h : Books s t) (l : Leg) : Away l s t :=
  ⟨.of_eq h.legs h.bus, h.sup, h.feet, h.geo, h.gait, by rw [h.bus]⟩

/-- A leg is off the floor on a step. -/
def Stepping (q : LegSeq) : Prop := q.motion = some .step ∧ q.step ≠ none

theorem descend_of_not_stepping (idle : ¬ Stepping (s.legs.get l)) : descend l s = s := by
  unfold descend
  dsimp only
  split
  case h_1 motion step => exact absurd ⟨motion, by rw [step]; exact Option.some_ne_none _⟩ idle
  case h_2 => rfl

/-- The state in which a leg has been sent straight down, before the test for a landing (R110). -/
def lowered (l : Leg) (z : Int) (s : State) : State :=
  sendSetpoint l (atLevel (bodyPos s l) z) s.gait.reachSpeed
    (startPhase l .reach s.gait.reachTimeout (modLeg l (fun p => { p with motion := some .descent }) s))

theorem descend_of_stepping (step : (s.legs.get l).step = some d) (motion : (s.legs.get l).motion = some .step) :
    ((s.legs.get l).phase = .reach → descend l s = lowered l (d.target.z - d.reachDepth) s) ∧
    ((s.legs.get l).phase ≠ .reach → descend l s = landIfLoaded l (lowered l (putDownLevel d) s)) := by
  unfold descend
  dsimp only
  rw [motion, step]
  refine ⟨fun reach => ?_, fun entering => ?_⟩
  · simp only [reach, ne_eq, not_true_eq_false, decide_false, Bool.false_eq_true, if_false]
    rfl
  · simp only [entering, ne_eq, not_false_eq_true, decide_true, if_true]
    rfl

theorem lowered_spec (z : Int) (l : Leg) (s : State) :
    ((lowered l z s).legs.get l).phase = .reach ∧ ((lowered l z s).legs.get l).motion = some .descent ∧
      ((lowered l z s).legs.get l).derating = (s.legs.get l).derating ∧ Legwork s (lowered l z s) ∧ (lowered l z s).feet = s.feet := by
  have sent := planned_sendSetpoint l (atLevel (bodyPos s l) z) s.gait.reachSpeed
    (startPhase l .reach s.gait.reachTimeout (modLeg l (fun p => { p with motion := some .descent }) s))
  have leg : (startPhase l .reach s.gait.reachTimeout (modLeg l (fun p => { p with motion := some .descent }) s)).legs.get l =
      { (modLeg l (fun p => { p with motion := some .descent }) s).legs.get l with
        phase := .reach
        timer := some (phaseTime ((modLeg l (fun p => { p with motion := some .descent }) s).legs.get l) s.gait.reachTimeout) } :=
    Quad.get_set_self ..
  have before : (modLeg l (fun p => { p with motion := some .descent }) s).legs.get l =
      { s.legs.get l with motion := some .descent } := Quad.get_set_self ..
  refine ⟨(sent.phase l).trans (by rw [leg]), (sent.motion l).trans (by rw [leg, before]), (sent.derating l).trans (by rw [leg, before]),
    ?_, sent.feet⟩
  exact ((legwork_modLeg ..).trans (legwork_modLeg ..)).trans (legwork_sendSetpoint ..)

theorem away_lowered (other : l ≠ m) (z : Int) (s : State) : Away l s (lowered m z s) := by
  obtain ⟨-, -, -, work, feet⟩ := lowered_spec z m s
  refine ⟨?_, work.sup, feet, work.geo, work.gait, work.drives⟩
  refine .trans ?_ ((commands_sendSetpoint m _ _ _).spares fun mem => other (List.mem_singleton.mp mem))
  refine ⟨?_, fun x mem _ => mem⟩
  exact (Quad.get_set_of_ne _ other _).trans (Quad.get_set_of_ne _ other _)

theorem away_landCore_of_returns {a : Motion} (motion : (s.legs.get m).motion = some a) (returns : a.returns) (other : l ≠ m) :
    Away l s (landCore m s) := by
  have h := stops_landCore motion returns
  refine ⟨?_, h.work.sup, (watchKept_landCore m s).feet, h.work.geo, h.work.gait, h.work.drives⟩
  rw [landCore_of_returns motion returns]
  have stopped := (commands_sendSetpoint m (bodyPos (alighted m s) m) (alighted m s).gait.reachSpeed (alighted m s)).spares
    (l := l) fun mem => other (List.mem_singleton.mp mem)
  have before : Spares l s (alighted m s) := ⟨Quad.get_set_of_ne _ other _, fun x mem _ => mem⟩
  exact (before.trans stopped).trans ⟨Quad.get_set_of_ne _ other _, fun x mem _ => mem⟩

theorem away_descend (other : l ≠ m) (s : State) : Away l s (descend m s) := by
  by_cases stepping : Stepping (s.legs.get m)
  · obtain ⟨motion, stepped⟩ := stepping
    obtain ⟨d, step⟩ := Option.ne_none_iff_exists'.mp stepped
    obtain ⟨reaching, entering⟩ := descend_of_stepping step motion
    by_cases reach : (s.legs.get m).phase = .reach
    · rw [reaching reach]
      exact away_lowered other ..
    · rw [entering reach]
      obtain ⟨-, down, -⟩ := lowered_spec (putDownLevel d) m s
      refine (away_lowered other (putDownLevel d) s).trans ?_
      generalize lowered m (putDownLevel d) s = x at down
      unfold landIfLoaded
      split
      · exact away_landCore_of_returns down (.inr (.inr rfl)) other
      · exact .refl l x
  · rw [descend_of_not_stepping stepping]
    exact .refl l s

/-- A descent changes legs and what waits for the drives alone (R110). -/
theorem legwork_descend (l : Leg) (s : State) : Legwork s (descend l s) ∧ (descend l s).feet = s.feet := by
  by_cases stepping : Stepping (s.legs.get l)
  · obtain ⟨motion, stepped⟩ := stepping
    obtain ⟨d, step⟩ := Option.ne_none_iff_exists'.mp stepped
    obtain ⟨reaching, entering⟩ := descend_of_stepping step motion
    by_cases reach : (s.legs.get l).phase = .reach
    · rw [reaching reach]
      obtain ⟨-, -, -, work, feet⟩ := lowered_spec (d.target.z - d.reachDepth) l s
      exact ⟨work, feet⟩
    · rw [entering reach]
      obtain ⟨-, down, -, work, feet⟩ := lowered_spec (putDownLevel d) l s
      generalize lowered l (putDownLevel d) s = x at down work feet
      unfold landIfLoaded
      split
      · have h := stops_landCore down (.inr (.inr rfl))
        exact ⟨work.trans h.work, (watchKept_landCore l x).feet.trans feet⟩
      · exact ⟨work, feet⟩
  · rw [descend_of_not_stepping stepping]
    exact ⟨.refl s, rfl⟩

/-- Sent down, a leg is on no step any more. -/
theorem not_stepping_descend (l : Leg) (s : State) : ¬ Stepping ((descend l s).legs.get l) := by
  by_cases stepping : Stepping (s.legs.get l)
  · obtain ⟨motion, stepped⟩ := stepping
    obtain ⟨d, step⟩ := Option.ne_none_iff_exists'.mp stepped
    obtain ⟨reaching, entering⟩ := descend_of_stepping step motion
    intro ⟨still, _⟩
    by_cases reach : (s.legs.get l).phase = .reach
    · obtain ⟨-, down, -⟩ := lowered_spec (d.target.z - d.reachDepth) l s
      rw [reaching reach, down] at still
      cases still
    · obtain ⟨-, down, -⟩ := lowered_spec (putDownLevel d) l s
      rw [entering reach] at still
      generalize lowered l (putDownLevel d) s = x at down still
      unfold landIfLoaded at still
      split at still
      · rw [(stops_landCore down (.inr (.inr rfl))).lands.2.2.1] at still
        cases still
      · rw [down] at still
        cases still
  · rw [descend_of_not_stepping stepping]
    exact stepping

/-- From `s` to `t` a leg has been sent straight down, once, as it stood (R110). -/
def Descends (l : Leg) (s t : State) : Prop := ∃ u, Away l s u ∧ Away l (descend l u) t

theorem Away.descends (h : Away l s t) (k : Descends l t u) : Descends l s u := by
  obtain ⟨v, before, after⟩ := k
  exact ⟨v, h.trans before, after⟩

theorem Descends.away (h : Descends l s t) (k : Away l t u) : Descends l s u := by
  obtain ⟨v, before, after⟩ := h
  exact ⟨v, before, after.trans k⟩

/-- A second descent of the same leg is none. -/
theorem Descends.again (h : Descends l s t) (k : Descends l t u) : Descends l s u := by
  obtain ⟨v, before, after⟩ := h
  obtain ⟨x, more, last⟩ := k
  refine ⟨v, before, after.trans (more.trans ?_)⟩
  have idle : ¬ Stepping (x.legs.get l) := by
    rw [more.spares.leg, after.spares.leg]
    exact not_stepping_descend l v
  rwa [descend_of_not_stepping idle] at last

theorem descends_forLegs (l : Leg) (ls : List Leg) (s : State) :
    (l ∉ ls → Away l s (forLegs descend ls s)) ∧ (l ∈ ls → Descends l s (forLegs descend ls s)) := by
  induction ls generalizing s with
  | nil => exact ⟨fun _ => .refl l s, fun mem => absurd mem List.not_mem_nil⟩
  | cons m rest ih =>
    obtain ⟨away, descends⟩ := ih (descend m s)
    by_cases same : l = m
    · subst same
      have first : Descends l s (descend l s) := ⟨s, .refl l s, .refl l _⟩
      refine ⟨fun no => absurd List.mem_cons_self no, fun _ => ?_⟩
      by_cases more : l ∈ rest
      · exact first.again (descends more)
      · exact first.away (away more)
    · refine ⟨fun no => (away_descend same s).trans (away fun mem => no (List.mem_cons_of_mem m mem)), fun mem => ?_⟩
      exact (away_descend same s).descends (descends ((List.mem_cons.mp mem).resolve_left same))

theorem legwork_forLegs {f : Leg → State → State} (each : ∀ l s, Legwork s (f l s) ∧ (f l s).feet = s.feet) (ls : List Leg) (s : State) :
    Legwork s (forLegs f ls s) ∧ (forLegs f ls s).feet = s.feet := by
  induction ls generalizing s with
  | nil => exact ⟨.refl s, rfl⟩
  | cons l rest ih =>
    obtain ⟨work, feet⟩ := each l s
    obtain ⟨more, same⟩ := ih (f l s)
    exact ⟨work.trans more, same.trans feet⟩

/-- A leg on its way down by a brace (R110). -/
theorem Descends.moves (h : Descends l s t) (running : s.sup.mode ≠ .parked) (unloaded : (s.feet.get l).contact ≠ .loaded)
    (step : (s.legs.get l).step = some d) (motion : (s.legs.get l).motion = some .step) :
    let b := bodyPos s l
    let down := fun (z : Int) =>
      Moves s.geo (s.legs.get l).derating l .reach .descent ⟨b.x, b.y, z - d.reachDepth⟩ s.gait.reachSpeed s.gait.reachTimeout t
    ((s.legs.get l).phase ≠ .reach → down (min d.origin.z d.target.z)) ∧ ((s.legs.get l).phase = .reach → down d.target.z) := by
  obtain ⟨u, before, after⟩ := h
  intro b down
  have pos : bodyPos u l = b := by simp only [b, bodyPos, heldPos, before.geo, before.drives]
  obtain ⟨reaching, entering⟩ := descend_of_stepping (s := u) (l := l) (d := d) (by rw [before.spares.leg]; exact step)
    (by rw [before.spares.leg]; exact motion)
  rw [before.spares.leg] at reaching entering
  have way : ∀ z, Moves s.geo (s.legs.get l).derating l .reach .descent ⟨b.x, b.y, z⟩ s.gait.reachSpeed s.gait.reachTimeout (lowered l z u) :=
    fun z => by
      have leg : (modLeg l (fun p => { p with motion := some .descent }) u).legs.get l =
          { u.legs.get l with motion := some .descent } := Quad.get_set_self ..
      have sent := moves_startPhase (s := modLeg l (fun p => { p with motion := some .descent }) u) (l := l) (a := .descent) .reach
        (atLevel (bodyPos u l) z) u.gait.reachSpeed u.gait.reachTimeout (by rw [leg]) (by
          show u.sup.mode ≠ .parked
          rw [before.sup]
          exact running)
      rw [leg, pos] at sent
      have shown : lowered l z u = sendSetpoint l (atLevel b z) u.gait.reachSpeed
          (startPhase l .reach u.gait.reachTimeout (modLeg l (fun p => { p with motion := some .descent }) u)) := by rw [lowered, pos]
      rw [shown, ← before.geo, ← before.gait, ← before.spares.leg]
      exact sent
  refine ⟨fun enters => ?_, fun reach => ?_⟩
  · obtain ⟨-, -, -, -, feet⟩ := lowered_spec (putDownLevel d) l u
    rw [entering enters, landIfLoaded_of_unloaded (by rw [feet, before.feet]; exact unloaded)] at after
    exact (way _).spared after.spares
  · rw [reaching reach] at after
    exact (way _).spared after.spares

/-- A leg sent down from LIFT or SWING onto a LOADED foot lands where it is (R103, R110; log 18). -/
theorem Descends.lands (h : Descends l s t) (running : s.sup.mode ≠ .parked) (loaded : (s.feet.get l).contact = .loaded)
    (step : (s.legs.get l).step = some d) (motion : (s.legs.get l).motion = some .step) (entering : (s.legs.get l).phase ≠ .reach) :
    let stop := hipTarget s.geo l (bodyPos s l)
    Lands l t ∧ (t.legs.get l).step = none ∧ (t.legs.get l).commanded = stop ∧
      (⟨l, .setpoint stop (spared (s.legs.get l).derating s.gait.reachSpeed) false⟩ : Txn) ∈ t.bus.queue := by
  obtain ⟨u, before, after⟩ := h
  intro stop
  have enters := (descend_of_stepping (s := u) (l := l) (d := d) (by rw [before.spares.leg]; exact step)
    (by rw [before.spares.leg]; exact motion)).2 (by rw [before.spares.leg]; exact entering)
  obtain ⟨reach, down, derating, work, feet⟩ := lowered_spec (putDownLevel d) l u
  have pos : hipTarget (lowered l (putDownLevel d) u).geo l (bodyPos (lowered l (putDownLevel d) u) l) = stop := by
    simp only [stop, bodyPos, heldPos, work.geo, work.drives, before.geo, before.drives]
  have gait : (lowered l (putDownLevel d) u).gait = s.gait := work.gait.trans before.gait
  have sup : (lowered l (putDownLevel d) u).sup = s.sup := work.sup.trans before.sup
  rw [before.spares.leg] at derating
  rw [enters, landIfLoaded_of_loaded reach (by rw [feet, before.feet]; exact loaded)] at after
  have stops := stops_landCore down (.inr (.inr rfl))
  generalize lowered l (putDownLevel d) u = x at stops after pos gait sup derating
  obtain ⟨-, lands, gone, commanded, waits⟩ := stops
  rw [pos] at commanded waits
  rw [derating, gait, sup] at waits
  refine ⟨?_, ?_, ?_, after.spares.waits _ (waits running) rfl⟩
  · rw [Lands, after.spares.leg]
    exact lands
  · rw [after.spares.leg]
    exact gone
  · rw [after.spares.leg]
    exact commanded

end
end Sys2Proof.Machine
end

section
/-! BRACE TAKEN. A brace as a whole: the records it completes, what it withdraws, and what is tested when it is done (R65, R78, R92, R93,
R118). -/

namespace Sys2Proof.Machine

section
variable {s t u v x b : State} {l m : Leg} {d : StepData} {w : WindowRecord} {ws : List WindowRecord} {es log : List LogEntry}

/-! ## The log's newest entries -/

/-- The newest entries of a log (R80). -/
def NewestIn (es log : List LogEntry) : Prop := ∃ before, log = before ++ es

/-- An entry that joins a log drops none of fewer than 16 newest ones (R80). -/
theorem NewestIn.pushed (h : NewestIn es log) (short : es.length < 16) (e : LogEntry) : NewestIn (es ++ [e]) (pushed log e) := by
  obtain ⟨before, rfl⟩ := h
  unfold Machine.pushed
  split
  case isTrue full =>
    rw [List.length_append] at full
    cases before with
    | nil => exact absurd full (by simpa using short)
    | cons first rest => exact ⟨rest, by simp⟩
  case isFalse => exact ⟨before, by rw [List.append_assoc]⟩

/-! ## The records a brace completes -/

/-- The status a record completes with at a brace (R78, R92). -/
def bracedAs (w : WindowRecord) : Status := if w.cond = .granted then bracedStatus w else .braced

/-- The log entry of a record that a brace completes (R79). -/
def bracedEntry (time : Word) (w : WindowRecord) : LogEntry := ⟨w.body.id, w.body.kind, w.body.legs, bracedAs w, w.body.preshifts, time, []⟩

theorem bracedAs_cases (w : WindowRecord) : bracedAs w = .missed ∨ bracedAs w = .snagged ∨ bracedAs w = .braced := by
  unfold bracedAs bracedStatus
  split
  · split
    · exact .inl rfl
    · split
      · exact .inr (.inl rfl)
      · exact .inr (.inr rfl)
  · exact .inr (.inr rfl)

theorem logEntryOf_braced (w : WindowRecord) (time : Word) : logEntryOf w (finalStatus w (bracedAs w)) time = bracedEntry time w := by
  have bad : bracedAs w ≠ .ok ∧ bracedAs w ≠ .clamped := by
    rcases bracedAs_cases w with h | h | h <;> rw [h] <;> exact ⟨nofun, nofun⟩
  have kept : finalStatus w (bracedAs w) = bracedAs w := if_neg fun h => bad.1 h.1
  have feet : finalFootholds w (bracedAs w) = [] := if_neg fun h => h.2.elim bad.1 bad.2
  rw [kept, logEntryOf, feet]
  rfl

/-- The worse of what was reported and BRACED (R78). -/
theorem bracedAs_spec (w : WindowRecord) :
    let reported := fun (o : Outcome) => w.cond = .granted ∧ ∃ r ∈ w.reports, r.outcome = o
    (reported .missed → bracedAs w = .missed) ∧ (¬ reported .missed → reported .snagged → bracedAs w = .snagged) ∧
      (¬ reported .missed → ¬ reported .snagged → bracedAs w = .braced) := by
  intro reported
  have any : ∀ o, w.anyOutcome o = true ↔ ∃ r ∈ w.reports, r.outcome = o := fun o => by simp [WindowRecord.anyOutcome]
  by_cases granted : w.cond = .granted
  · have told : ∀ o, w.anyOutcome o = true ↔ reported o := fun o => (any o).trans (and_iff_right granted).symm
    rw [bracedAs, if_pos granted, bracedStatus]
    refine ⟨fun missed => if_pos ((told _).mpr missed), fun no snagged => ?_, fun no none => ?_⟩
    · rw [if_neg (mt (told _).mp no), if_pos ((told _).mpr snagged)]
    · rw [if_neg (mt (told _).mp no), if_neg (mt (told _).mp none)]
  · rw [bracedAs, if_neg granted]
    exact ⟨fun h => absurd h.1 granted, fun _ h => absurd h.1 granted, fun _ _ => rfl⟩

theorem braceRecords_waiting (waiting : w.cond = .waiting) (rest : List WindowRecord) (s : State) :
    braceRecords (w :: rest) s = braceRecords rest s := by rw [braceRecords, waiting]

theorem braceRecords_granted (granted : w.cond = .granted) (rest : List WindowRecord) (s : State) :
    braceRecords (w :: rest) s = braceRecords rest (forLegs descend (unreported w) (finishRecord w (bracedAs w) s)) := by
  rw [braceRecords, granted, bracedAs, if_pos granted]

theorem braceRecords_running (running : w.cond = .running) (rest : List WindowRecord) (s : State) :
    braceRecords (w :: rest) s = braceRecords rest (holdLegs legsInOrder (finishRecord w (bracedAs w) s)) := by
  rw [braceRecords, running, bracedAs, if_neg (by rw [running]; decide)]

/-- Each record that a brace completes is finished, and its legs are commanded (R92). -/
theorem braceRecords_served (served : w.cond ≠ .waiting) : ∃ f : State → State, (∀ x, Legwork x (f x) ∧ (f x).feet = x.feet) ∧
    ∀ rest s, braceRecords (w :: rest) s = braceRecords rest (f (finishRecord w (bracedAs w) s)) := by
  cases cond : w.cond with
  | waiting => exact absurd cond served
  | granted => exact ⟨_, legwork_forLegs legwork_descend (unreported w), braceRecords_granted cond⟩
  | running =>
    exact ⟨_, legwork_forLegs (fun l s => ⟨legwork_sendHold l s, (planned_sendHold l s).feet⟩) legsInOrder, braceRecords_running cond⟩

/-- From `s` the served records of a list have been completed by a brace (R78 to R80, R92). -/
structure RecordsBraced (ws : List WindowRecord) (s t : State) : Prop where
  sup : t.sup = s.sup
  bal : t.bal = s.bal
  drives : t.bus.drives = s.bus.drives
  fault : t.ev.fault = s.ev.fault
  flags : ∀ e, hasEvent s.ev.pending e = true → hasEvent t.ev.pending e = true
  window : t.plan.window = unserved ws s.plan.window
  list : t.plan.list = s.plan.list
  state : t.plan.state = s.plan.state
  counted : t.ev.counters.braces = s.ev.counters.braces
  log : ∀ es, NewestIn es s.plan.log → es.length + (servedOf ws).length ≤ 16 →
    NewestIn (es ++ (servedOf ws).map (bracedEntry s.ev.time)) t.plan.log

theorem braces_countDone (k : Option Counter) (other : k ≠ some .braces) (c : Counters) : (countDone k c).braces = c.braces := by
  cases k with
  | none => rfl
  | some k =>
    cases k
    case braces => exact absurd rfl other
    all_goals rfl

theorem braces_completionCounter (k : RecordKind) (st : Status) : completionCounter k st ≠ some .braces := by
  cases k <;> cases st <;> nofun

theorem recordsBraced_braceRecords (ws : List WindowRecord) (s : State) : RecordsBraced ws s (braceRecords ws s) := by
  induction ws generalizing s with
  | nil =>
    refine ⟨rfl, rfl, rfl, rfl, fun _ => id, ?_, rfl, rfl, rfl, fun es newest _ => ?_⟩
    · simp [braceRecords, unserved]
    · simpa [braceRecords, servedOf] using newest
  | cons w rest ih =>
    by_cases waiting : w.cond = .waiting
    · have isWaiting : w.isWaiting = true := decide_eq_true waiting
      rw [braceRecords_waiting waiting]
      obtain ⟨sup, bal, drives, fault, flags, window, list, state, counted, log⟩ := ih s
      refine ⟨sup, bal, drives, fault, flags, by rw [window, unserved_cons_waiting _ isWaiting], list, state, counted, ?_⟩
      rw [servedOf_cons, if_pos isWaiting]
      exact log
    · have served : w.isWaiting = false := decide_eq_false waiting
      obtain ⟨f, each, shown⟩ := braceRecords_served waiting
      have finished := finishes_finishRecord w (bracedAs w) s
      obtain ⟨work, -⟩ := each (finishRecord w (bracedAs w) s)
      have more := ih (f (finishRecord w (bracedAs w) s))
      rw [shown]
      generalize f (finishRecord w (bracedAs w) s) = y at work more ⊢
      generalize finishRecord w (bracedAs w) s = u at finished work
      obtain ⟨sup, bal, drives, fault, flags, window, list, state, counted, log⟩ := more
      have books := finished.books
      have plan : y.plan = u.plan := work.plan
      have ev : y.ev = u.ev := work.ev
      have entered : u.plan.log = pushed s.plan.log (bracedEntry s.ev.time w) := by rw [finished.plan, logEntryOf_braced]
      refine ⟨sup.trans (work.sup.trans books.sup), bal.trans (work.bal.trans books.bal), drives.trans (work.drives.trans (by rw [books.bus])),
        fault.trans (by rw [ev, books.fault]), fun e set => flags e (by rw [ev]; exact books.flags e set), ?_, ?_, ?_, ?_, ?_⟩
      · rw [window, plan, finished.plan, unserved_cons_served _ served]
      · rw [list, plan, finished.plan]
      · rw [state, plan, finished.plan]
      · rw [counted, ev, finished.counters, braces_countDone _ (braces_completionCounter _ _), pushCount]
        split <;> rfl
      · rw [servedOf_cons, if_neg (by rw [served]; exact Bool.false_ne_true)]
        intro es newest room
        rw [List.length_cons] at room
        have joined := newest.pushed (by omega) (bracedEntry s.ev.time w)
        rw [← entered, ← plan] at joined
        have all := log _ joined (by rw [List.length_append, List.length_singleton]; omega)
        rw [ev, books.time, List.append_assoc] at all
        exact all

/-- With no SHIFT running, a brace sends down each leg that a GRANTED record still waits for, and spares the others (R92, R110). -/
theorem descends_braceRecords (l : Leg) (ws : List WindowRecord) (still : ∀ w ∈ ws, w.cond ≠ .running) (s : State) :
    let named : Prop := ∃ w ∈ ws, w.cond = .granted ∧ l ∈ unreported w
    (¬ named → Away l s (braceRecords ws s)) ∧ (named → Descends l s (braceRecords ws s)) := by
  induction ws generalizing s with
  | nil => exact ⟨fun _ => .refl l s, fun ⟨_, mem, _⟩ => absurd mem List.not_mem_nil⟩
  | cons w rest ih =>
    have still' : ∀ v ∈ rest, v.cond ≠ .running := fun v mem => still v (List.mem_cons_of_mem w mem)
    intro named
    cases cond : w.cond with
    | running => exact absurd cond (still w List.mem_cons_self)
    | waiting =>
      obtain ⟨away, descends⟩ := ih still' s
      rw [braceRecords_waiting cond]
      refine ⟨fun no => away fun ⟨v, mem, more⟩ => no ⟨v, List.mem_cons_of_mem w mem, more⟩, fun ⟨v, mem, granted, more⟩ => ?_⟩
      rcases List.mem_cons.mp mem with rfl | mem
      · exact absurd (granted.symm.trans cond) (by decide)
      · exact descends ⟨v, mem, granted, more⟩
    | granted =>
      have first := (finishes_finishRecord w (bracedAs w) s).books.away l
      obtain ⟨spared, sent⟩ := descends_forLegs l (unreported w) (finishRecord w (bracedAs w) s)
      obtain ⟨away, descends⟩ := ih still' (forLegs descend (unreported w) (finishRecord w (bracedAs w) s))
      rw [braceRecords_granted cond]
      by_cases here : l ∈ unreported w
      · refine ⟨fun no => absurd ⟨w, List.mem_cons_self, cond, here⟩ no, fun _ => first.descends ?_⟩
        by_cases more : ∃ v ∈ rest, v.cond = .granted ∧ l ∈ unreported v
        · exact (sent here).again (descends more)
        · exact (sent here).away (away more)
      · have before := first.trans (spared here)
        refine ⟨fun no => before.trans (away fun ⟨v, mem, more⟩ => no ⟨v, List.mem_cons_of_mem w mem, more⟩),
          fun ⟨v, mem, granted, more⟩ => before.descends (descends ?_)⟩
        rcases List.mem_cons.mp mem with rfl | mem
        · exact absurd more here
        · exact ⟨v, mem, granted, more⟩

/-! ## The end of a brace -/

/-- The state in which a brace has been counted and raised (R92). -/
def braced (s : State) : State := bump .braces (raise .brace (withdrawWaiting (braceRecords s.plan.window s)))

/-- From `s`, whose plan is BRACED, a brace has been taken; `b` is the state in which its records have completed (R92, R118). -/
structure BraceTakes (s b t : State) : Prop where
  window : t.plan.window = []
  list : t.plan.list = (waitingOf s.plan.window).map WindowRecord.body ++ s.plan.list
  state : t.plan.state = s.plan.state
  log : t.plan.log = b.plan.log
  braceOut : t.bal.braceOut = s.bal.braceOut
  raised : hasEvent t.ev.pending .brace = true
  counted : t.ev.counters.braces = s.ev.counters.braces + 1
  fault : t.ev.fault = s.ev.fault
  preshift : StopsPreshift s t (waitingOf s.plan.window)
  held : s.sup.mode ≠ .parked → s.sup.pendingSettle = false → ∀ p, s.bal.preshift = some p → ownedBy (waitingOf s.plan.window) p →
    ∀ l ∈ p.legs, HeldAt s t l
  away : ∀ l, Untouched l s → s.sup.pendingSettle = false ∨ (b.legs.get l).phase ≠ .stance → Away l b t
  keeps : s.sup.pendingSettle = false → (∀ p, s.bal.preshift = some p → ¬ ownedBy (waitingOf s.plan.window) p) →
    t.legs = b.legs ∧ t.bus = b.bus

theorem braceTakes (inactive : s.plan.state ≠ .active) (nodup : (s.plan.window.map fun w => w.body.id).Nodup) :
    BraceTakes s (braceRecords s.plan.window s) (phaseChanged (braced s)) := by
  have records := recordsBraced_braceRecords s.plan.window s
  unfold braced
  generalize braceRecords s.plan.window s = b at records ⊢
  have left : b.plan.window = waitingOf s.plan.window := records.window.trans (unserved_self nodup)
  obtain ⟨cPlan, -, cBal, cFrame, keeps, stops⟩ := withdraws_withdrawWaiting b
  have planned := planned_withdrawWaiting b
  have spared := fun {l : Leg} (free : Untouched l b) => spares_withdrawWaiting free
  generalize withdrawWaiting b = c at cPlan cBal cFrame keeps stops planned spared ⊢
  rw [left, servedOf_waitingOf, waitingOf_waitingOf] at cPlan
  rw [left, waitingOf_waitingOf] at keeps stops
  have told : Books c (bump .braces (raise .brace c)) := (books_raise .brace c).1.trans (books_bump ..)
  have same : (bump .braces (raise .brace c)).plan = c.plan := (books_raise .brace c).2.1
  have counted : (bump .braces (raise .brace c)).ev.counters.braces = c.ev.counters.braces + 1 :=
    congrArg (fun k : Counters => k.braces + 1) (books_raise .brace c).2.2
  have raised : hasEvent (bump .braces (raise .brace c)).ev.pending .brace = true := raise_pending .brace c
  generalize bump .braces (raise .brace c) = e at told same counted raised ⊢
  have plan : e.plan = { b.plan with window := [], list := (waitingOf s.plan.window).map WindowRecord.body ++ s.plan.list } := by
    rw [same, cPlan, records.list]
  have noIssue : issue e = e := issue_of_inactive (by rw [plan]; exact records.state ▸ inactive)
  have shown : phaseChanged e = settleTest e := by rw [phaseChanged, noIssue]
  have settles := settles_settleTest e
  have cEv : c.ev = b.ev := by rw [cFrame]; rfl
  have eBal : e.bal = c.bal := told.bal
  have bal : e.bal.braceOut = s.bal.braceOut := by rw [eBal, cBal, records.bal]
  have unchanged : Unsettled e → settleTest e = e := settleTest_of_unsettled
  have pending : e.sup.pendingSettle = s.sup.pendingSettle := by rw [told.sup, planned.sup, records.sup]
  have tFault : (settleTest e).ev.fault = e.ev.fault := by rw [settles.frame]; rfl
  rw [shown]
  refine ⟨by rw [settles.plan, plan], by rw [settles.plan, plan], by rw [settles.plan, plan]; exact records.state, by rw [settles.plan, plan],
    by rw [settles.bal]; exact bal, settles.flags _ raised, ?_, ?_, fun p running => ⟨fun owned => ?_, fun free => ?_⟩,
    fun mode no p running owned l mem => ?_, fun l free un => ?_, fun no free => ?_⟩
  · rw [settles.counters, counted, cEv, records.counted]
  · rw [tFault, told.fault, cEv, records.fault]
  · rw [settles.bal, eBal]
    exact (stops p (by rw [records.bal]; exact running) owned).1
  · rw [settles.bal, eBal, (keeps fun q other => ?_).1, records.bal]
    · exact running
    · rw [records.bal, running] at other
      cases other
      exact fun ⟨w, mem, owner⟩ => free w mem owner
  · obtain ⟨-, legs, bus⟩ := stops p (by rw [records.bal]; exact running) owned
    have parked : b.sup.mode ≠ .parked := by rw [records.sup]; exact mode
    have held := (held_holdLegs (s := b) mem parked).2.2
    obtain ⟨commanded, unreached⟩ := told_holdLegs mem b
    have pos : heldPos b l = (s.bus.drives.get l).pos := congrArg (fun q : Quad Drive => (q.get l).pos) records.drives
    rw [pos] at commanded held
    rw [unchanged (.inl (pending.trans no)), HeldAt, told.legs, told.bus, legs, bus]
    exact ⟨commanded, unreached, held⟩
  · have phase : (e.legs.get l).phase = (b.legs.get l).phase := by rw [told.legs, planned.phase]
    have un' : Unsettled e := un.imp pending.trans fun off => ⟨l, by rw [phase]; exact off⟩
    have quiet := planned.calm.quiet
    rw [unchanged un']
    exact Away.trans ⟨spared fun p running => free p (records.bal ▸ running), planned.sup, planned.feet, quiet.geo, quiet.gait, quiet.drives⟩
      (told.away l)
  · obtain ⟨-, legs, bus⟩ := keeps fun p running => free p (records.bal ▸ running)
    rw [unchanged (.inl (pending.trans no)), told.legs, told.bus]
    exact ⟨legs, bus⟩

theorem mem_unreported : l ∈ unreported w ↔ l ∈ w.body.legs ∧ ∀ r ∈ w.reports, r.leg ≠ l := by
  rw [unreported, List.mem_filter, Bool.not_eq_true', ← Bool.not_eq_true, hasReported_iff]
  simp only [not_exists, not_and, ne_eq]

/-- The state in which a brace that is taken begins: the flag cleared, the plan BRACED (R65, R92). -/
def bracing (s : State) : State := setPlanState .braced (s.setBal { s.bal with braceOut := false })

/-- Settles O46: the records complete one after another, the rest of the window is withdrawn, and each leg is followed through both. -/
theorem braceIsTaken : Obligations.BraceIsTaken := by
  unfold Obligations.BraceIsTaken
  intro s out
  refine ⟨fun stopped => ?_, fun runs nodup => ?_⟩
  · have discarded : braceTaken s = issue (s.setBal { s.bal with braceOut := false }) :=
      (if_pos out).trans (if_neg (by rw [stopped]; exact Bool.false_ne_true))
    exact congrArg Host.Outcome.next (discarded.trans (issue_of_not_planRuns stopped))
  · have shown : exec .braceTaken s = .next (phaseChanged (braced (bracing s))) :=
      congrArg Host.Outcome.next ((if_pos out).trans (if_pos runs))
    have takes := braceTakes (s := bracing s) PlanState.noConfusion (nodup_window nodup)
    have records := recordsBraced_braceRecords (bracing s).plan.window (bracing s)
    have sent : ∀ l, (∀ w ∈ s.plan.window, w.cond ≠ .running) → (∃ w ∈ s.plan.window, w.cond = .granted ∧ l ∈ unreported w) →
        Descends l (bracing s) (braceRecords (bracing s).plan.window (bracing s)) := fun l still =>
      (descends_braceRecords l s.plan.window still (bracing s)).2
    have shifted : ∀ w, s.plan.window = [w] → w.cond = .running → braceRecords (bracing s).plan.window (bracing s) =
        holdLegs legsInOrder (finishRecord w (bracedAs w) (bracing s)) := fun w alone running => by
      show braceRecords s.plan.window (bracing s) = _
      rw [alone, braceRecords_running running]
      rfl
    generalize phaseChanged (braced (bracing s)) = t at shown takes
    generalize braceRecords (bracing s).plan.window (bracing s) = b at takes records sent shifted
    refine ⟨t, shown, takes.braceOut, takes.state, takes.window, takes.list, takes.raised, takes.counted, takes.fault, takes.preshift,
      fun standing no p running owned l mem => ?_, fun short w mem served => ?_,
      fun standing still w mem granted l named silent free unloaded d step motion => ?_,
      fun standing no still w mem granted l named silent free loaded stepped motion phase => ?_,
      fun standing no w alone running l => ?_⟩
    · exact takes.held (by show s.sup.mode ≠ .parked; rw [standing]; exact Mode.noConfusion) no p running owned l mem
    · have few : ([] : List LogEntry).length + (servedOf s.plan.window).length ≤ 16 := by
        have := List.length_filter_le (fun w : WindowRecord => decide (w.cond ≠ .waiting)) s.plan.window
        rw [List.length_nil, servedOf]
        omega
      obtain ⟨before, newest⟩ := records.log [] ⟨s.plan.log, (List.append_nil _).symm⟩ few
      obtain ⟨missed, snagged, braced⟩ := bracedAs_spec w
      refine ⟨bracedEntry s.ev.time w, ?_, rfl, rfl, rfl, rfl, rfl, missed, snagged, braced⟩
      rw [takes.log, newest]
      exact List.mem_append_right _ (List.mem_map_of_mem (List.mem_filter.mpr ⟨mem, decide_eq_true served⟩))
    · have down := sent l still ⟨w, mem, granted, mem_unreported.mpr ⟨named, silent⟩⟩
      obtain ⟨enters, reaches⟩ := down.moves (by show s.sup.mode ≠ .parked; rw [standing]; exact Mode.noConfusion) unloaded step motion
      have after : ∀ {z}, Moves s.geo (s.legs.get l).derating l .reach .descent z s.gait.reachSpeed s.gait.reachTimeout b →
          Moves s.geo (s.legs.get l).derating l .reach .descent z s.gait.reachSpeed s.gait.reachTimeout t := fun way =>
        way.spared (takes.away l free (.inr (by rw [way.1]; exact Phase.noConfusion))).spares
      intro pos descent
      refine ⟨fun phase => after (enters fun reach => ?_), fun reach => after (reaches reach)⟩
      have here : (s.legs.get l).phase = .reach := reach
      rcases phase with h | h <;> exact Phase.noConfusion (h.symm.trans here)
    · have down := (sent l still ⟨w, mem, granted, mem_unreported.mpr ⟨named, silent⟩⟩).away (takes.away l free (.inl no))
      obtain ⟨d, step⟩ := Option.ne_none_iff_exists'.mp stepped
      refine down.lands (by show s.sup.mode ≠ .parked; rw [standing]; exact Mode.noConfusion) loaded step motion fun reach => ?_
      have here : (s.legs.get l).phase = .reach := reach
      rcases phase with h | h <;> exact Phase.noConfusion (h.symm.trans here)
    · have books := (finishes_finishRecord w (bracedAs w) (bracing s)).books
      have held := commands_holdLegs nodup_legsInOrder (finishRecord w (bracedAs w) (bracing s))
      rw [← shifted w alone running] at held
      obtain ⟨sameLegs, sameBus⟩ := takes.keeps no fun p _ ⟨v, waits, _⟩ => by
        have mem : v ∈ waitingOf s.plan.window := waits
        rw [alone] at mem
        obtain ⟨here, waiting⟩ := List.mem_filter.mp mem
        rw [List.mem_singleton.mp here, running] at waiting
        exact absurd waiting (by decide)
      have waits := held.waits (by rw [books.sup]; show s.sup.mode ≠ .parked; rw [standing]; exact Mode.noConfusion) l (mem_legsInOrder l)
      have pos : heldPos (finishRecord w (bracedAs w) (bracing s)) l = (s.bus.drives.get l).pos :=
        congrArg (fun b : Bus => (b.drives.get l).pos) books.bus
      rw [holdAt, pos] at waits
      rw [sameLegs, sameBus, held.told l (mem_legsInOrder l)]
      exact ⟨pos, waits⟩

end
end Sys2Proof.Machine
end
